-- ==== Sys2Proof/Word.lean ====
section
/-! DEFINITION. The word types and the sparse table the state is made of. -/

namespace Sys2Proof

abbrev Byte := BitVec 8
abbrev Word16 := BitVec 16
abbrev Word32 := BitVec 32
abbrev Word64 := BitVec 64

/-- A sparse table: key and value pairs, keys strictly rising when written by `Tbl.set`. -/
abbrev Tbl (α : Type) := List (Nat × α)

namespace Tbl
variable {α : Type}

/-- The value at a key, if the table lists one. -/
def get? : Tbl α → Nat → Option α
  | [], _ => none
  | (k, v) :: t, i => if i = k then some v else get? t i

/-- The value at a key, or `d`. -/
def getD (t : Tbl α) (i : Nat) (d : α) : α := (t.get? i).getD d

/-- Write a key, in its sorted place. -/
def set : Tbl α → Nat → α → Tbl α
  | [], i, v => [(i, v)]
  | (k, w) :: t, i, v =>
    if i = k then (i, v) :: t
    else if i < k then (i, v) :: (k, w) :: t
    else (k, w) :: set t i v

/-- Remove a key. -/
def erase (t : Tbl α) (i : Nat) : Tbl α := t.filter (fun p => decide (p.1 ≠ i))

/-- Change the value at a listed key. -/
def modify (t : Tbl α) (i : Nat) (f : α → α) : Tbl α :=
  match t.get? i with
  | some v => t.set i (f v)
  | none => t

/-- Keys listed, in order. -/
def keys (t : Tbl α) : List Nat := t.map Prod.fst

/-- Keys strictly rising: the canonical form. -/
def sorted : Tbl α → Bool
  | [] => true
  | [_] => true
  | (k, _) :: (k', v') :: t => decide (k < k') && sorted ((k', v') :: t)

end Tbl

/-- Saturating increment of a counter of `w` bits held as a number. -/
def satInc (w n : Nat) : Nat := if n + 1 < 2 ^ w then n + 1 else 2 ^ w - 1

/-- Saturating addition in `w` bits. -/
def satAdd (w n m : Nat) : Nat := if n + m < 2 ^ w then n + m else 2 ^ w - 1

/-- Counting modulo `2^w` (a counter register that wraps). -/
def wrapAdd (w n m : Nat) : Nat := (n + m) % 2 ^ w

/-- Bit `i` of a number. -/
def natBit (n i : Nat) : Bool := (n / 2 ^ i) % 2 == 1

/-- The number with bit `i` set. -/
def natSetBit (n i : Nat) : Nat := if natBit n i then n else n + 2 ^ i

/-- The number with bit `i` clear. -/
def natClrBit (n i : Nat) : Nat := if natBit n i then n - 2 ^ i else n

/-- The value of a Boolean as a bit. -/
def b2n (b : Bool) : Nat := if b then 1 else 0

end Sys2Proof
end

