-- ==== Sys2Proof/Formats.lean ====
section
/-! DEFINITION. The formats of the manual as plain data: status codes, worlds and roles, parameters, frames, records and packages. -/

namespace Sys2Proof

/-- The status codes of R9, in the order of its table. -/
inductive Status where
  | ok | pending | busy | badCommand | badParam | notPermitted | noResource | timeout | aborted | flushed
  | authFail | replay | replayStale | keyRevoked | keyAttr | keyMissing | tampered
  | storeFull | storeReadonly | storeDegraded | mediaError | storeBypass
  | timeUnsynced | timeStepped | launchLate
  | linkDown | linkRxDrop | dwellHold | beaconImpaired | guardExceeded | iqGap
  | imageInvalid | rollbackRefused | updateLocked | graftFailed
  | notActive | peerLost | digestMismatch
  | periodClosed | calendarInvalid
  | chainGap | balanceInconclusive
  | tickOverrun
  deriving DecidableEq, Repr

/-- The five lifecycle states (R183), coded as KS_STATUS[6:4]. -/
inductive Life where
  | blank | provisioned | operational | service | retired
  deriving DecidableEq, Repr

/-- The roles of a session (R164 TARGETS[2:0]). -/
inductive Role where
  | utilityAdmin | billingReader | operations | fieldService | pub
  deriving DecidableEq, Repr

/-- PTP domains A and B. -/
inductive Dom where
  | a | b
  deriving DecidableEq, Repr

/-- TIME_SELECT: what ET follows. -/
inductive Select where
  | domA | domB | auto | none
  deriving DecidableEq, Repr

/-- The state of a slave domain (R24). -/
inductive DomState where
  | disabled | listening | acquiring | locked | holdover
  deriving DecidableEq, Repr

/-- The state of ET (R33). -/
inductive EtState where
  | freeRun | tracking | holdover | manual
  deriving DecidableEq, Repr

/-- Four energy quantities: A+, A−, R+, R−. -/
structure Qty4 where
  ap : Int := 0
  an : Int := 0
  rp : Int := 0
  rn : Int := 0
  deriving DecidableEq, Repr

/-- The parameters of every table of the manual; the index of a name is beside it in `ParamId`. -/
inductive ParamKey where
  -- R42
  | tdNumber | tdProfile | tdPort | tdTransport | tdEnable | tSelect | tAutoHoldoff | tLockThr | tHoldLimit
  | tUtcDefault | tHostWd | tEthdDomain | tEthdProfile | tEthdLogSync | tEthdOneStep
  -- R78 and R103 (index: link port, see `LinkPort`)
  | plcBand | plcMode | plcPanId | plcSfTicks | plcBeaconTicks | plcSlotTicks | plcCfpSlots | plcBeaconOffset
  | plcZcDet | plcZcPhase | plcRobustGain | plcMaxRetx | plcZoneFaultDb | plcTmMargin | plcTmRefresh
  | plcMaxGrantPeriod | plcWorsen | plcSwitchMargin | plcMaxChildren | plcNbrAge | plcExclusive
  -- R102
  | rfMode | rfIqRate | rfFskRate | rfFskLevels | rfFskFec | rfFskPreamble | rfOfdmOption | rfOfdmMcs | rfPanId
  | rfTsUs | rfSfLen | rfHopLen | rfMaxPsdu | rfEbPeriod | rfDwellBuckets | rfDwellLimit | rfAckReserve
  | rfDutyWindow | rfDutyLimit | rfDriftInit | rfDriftFloor | rfResyncTries
  -- R126
  | kclUdpPort | kclEngineAddr | kclDescLead | kclHoldoverSf | kclStatusPeriod | kclSilence | kclRto | kclWindow
  | kclBacklogTimeout | kclBacklogKeep | kclAlignPeriod | kclAlignLimit | cellMeasureInterval
  -- R156
  | ctxBulkPerTick | ctxRotateAlarm | ctxMeterIdle | ctxMeterLife | ctxEvictIdle | ctxTlsIdle
  -- R189
  | keyQuarItems | keyQuarHold | tamperMesh | tamperInEnable | tamperInLevel | tamperInDebounce
  | tlsKeyUpdate | tlsCertChain
  -- R207
  | schedCloseReserve | schedJournalLimit | schedExportStall | graphDrainTicks | ethFcMode
  -- R234
  | valSweepPerTick | valLedgerDays | valEstOpenMax | valStatDup | valStatUnm | valStatRef | valStatEvict
  -- R268
  | billClosePerTick | billProfileDepth | billMb1Role
  -- R289
  | tapEnable | tapVLsb | tapILsb | tapTrackSrc | tapNominalHz | chMaLen | chMaDec | chResponse | chK | chFadeLen
  | chOutQueue
  -- R314
  | balGrace | balRevise | balGapEstMax | balHalfLife | balMinWeight | balRMin | balMargin | balRunLen | balWeight
  | balDecay | balAlarmScore | balDropPct | balDropDays | balDropRefDays | balTamperEv | balMagneticEv
  | balNeutralEv | balScoreDelay | balScorePerTick | balStatUnattr | balStatMismatch | balStatIgnored
  | balStatLate | balStatStale
  -- R345
  | stRetDays | stRetFloor | stReclaimFree | stMinCapacity | stWearStatic | stSpreadLimit | stGcStart | stGcUrgent
  | stCkptTrigger | stFineMax | stRefreshDays
  -- R366, R390
  | recPerSource | updCountersign | updLockIdle | updGraftTimeout | campMulticastMin | campMaxRounds
  | campMeterTimeout | campBlocksPerTick
  -- R415
  | pairMode | pairPeerId | pairKey | pairServiceAddr | pairBootWait | pairBootSolo | pairMaxLag | pairDeltaBuffer
  | pairResyncMbps | pairScrubPeriod | pairSwapPeriod | pairSwapWindow | pairSwapMaxBusy | pairSwapVerify
  -- R466, R503
  | mbTunnelOutstanding | ethSpeed | ethFec | ethPfcPrio
  deriving DecidableEq, Repr

/-- A parameter: its name and the index the tables put in brackets. -/
structure ParamId where
  key : ParamKey
  idx : Nat := 0
  deriving DecidableEq, Repr

/-- TYPE of a PARAM (R468). -/
inductive PTy where
  | integer | token | decimal | bytes
  deriving DecidableEq, Repr

/-- VALUE of a PARAM: an integer, a token's place in its table row (−1: no such token), millionths, or the
little-endian number of a byte string (−1: the empty string or the token NONE). -/
structure PVal where
  ty : PTy
  val : Int
  deriving DecidableEq, Repr

/-- A PARAM of a request: the parameter its NAME resolves to (none: no parameter bears the name) and its value. -/
structure ParamArg where
  name : Option ParamId
  value : PVal
  deriving DecidableEq, Repr

/-- A taken request: its mailbox, its tunnelled session (mailboxes 2, 3 and 5), its TAG, how many ring descriptors
and chained messages it takes, and whether its header and chain rules (R444, R445), and its LENGTH and
reserved fields (R467, R7), are as the manual requires. -/
structure Req where
  mb : Fin 8
  sess : Nat := 0
  tag : Word16
  ndesc : Nat := 1
  msgs : Nat := 1
  hdrOk : Bool := true
  formOk : Bool := true
  deriving DecidableEq, Repr

/-- What a doorbell makes ready besides the requests that rows of the command table take: nothing, a request whose
COMMAND no row names (R457 step 2), or the first messages of a chain whose next message is not ready (R445). -/
inductive ReadyNote where
  | plain
  | unknownCommand (r : Req)
  | chainPart (tag : Word16) (ndesc : Nat)
  deriving DecidableEq, Repr

/-- A HOSTREF fetch: the outcome of the DMA that fetches a package (R468). -/
inductive Fetch (α : Type) where
  | got (pkg : α)
  | fault (code : Status)
  deriving DecidableEq, Repr

/-- Who signed a package: the ANCHOR handle of the trailer and whether the signature verifies (R192 trailer). -/
structure Trailer where
  handle : Word32
  sigOk : Bool
  deriving DecidableEq, Repr

/-- The 16-byte attribute record of R164. -/
structure KeyAttr where
  masters : BitVec 8 := 0
  worlds : BitVec 2 := 0
  lifecycle : BitVec 5 := 0
  usage : BitVec 7 := 0
  alg : Nat := 0
  generation : BitVec 8 := 0
  valid : Bool := false
  invalidated : Bool := false
  publicExport : Bool := false
  pend : Bool := false
  parentGen : BitVec 8 := 0
  targets : BitVec 16 := 0
  parent : Word32 := 0
  deriving DecidableEq, Repr

/-- A wrapped key as it arrives: the material it unwraps to and whether its integrity check passes. -/
structure Wrapped where
  mat : Nat
  ok : Bool
  deriving DecidableEq, Repr

/-- A provisioning record (R153). `crcOk` and `fieldsOk` stand for the CRC and the ranges and reserved fields. -/
structure ProvRec where
  eui : Word64
  auto : Bool
  mcxReq : Fin 1048576
  cls : Fin 64
  calendar : Fin 64
  topoNode : BitVec 12
  topoPhase : BitVec 2
  feeder : BitVec 8
  repeater : Bool
  sleepy : Bool
  countersValid : Bool
  initUpHigh : Word32
  initDownIc : Word32
  wrapUc : Wrapped
  wrapAk : Wrapped
  wrapBk : Wrapped
  crcOk : Bool := true
  fieldsOk : Bool := true
  deriving DecidableEq, Repr

/-- A bulk package (R152): header and records. -/
structure BulkPkg where
  headerOk : Bool
  importKek : Word32
  batchId : Word64
  firstRecord : Nat
  records : List ProvRec
  deriving DecidableEq, Repr

/-- One interval of an APDU: its end as the meter reports it, converted to UTC ns, its length and values. -/
structure IntervalIn where
  endUtc : Nat
  lenS : Nat
  vals : Qty4
  vMean : Option Nat := none
  deriving DecidableEq, Repr

/-- One register read of an APDU: capture time (UTC ns) and register values. -/
structure ReadIn where
  captureUtc : Nat
  regs : Qty4
  deriving DecidableEq, Repr

/-- An answer of a meter to downlink work of a campaign or tariff push (R385, R389). -/
inductive CampReply where
  | initiated | initiateRefused
  /-- The blocks the meter still misses. -/
  | blocksMissing (l : List Nat)
  | verifyOk | verifyFailed
  | activated | activateFailed
  | passiveName (isPushed : Bool)
  | activeName (isPushed : Bool)
  deriving DecidableEq, Repr

/-- The content of one application frame, as PARSE_APDU finds it. -/
structure Apdu where
  /-- send time: the meter's local clock in ns and its deviation in minutes (none: not specified, 0x8000). -/
  send : Option (Int × Option Int) := none
  clockInvalid : Bool := false
  intervals : List IntervalIn := []
  reads : List ReadIn := []
  events : List (BitVec 8 × Nat) := []
  powerFails : List Nat := []
  reply : Option CampReply := none
  release : Bool := false
  deriving DecidableEq, Repr

/-- How a frame names its sender. -/
inductive Sender where
  | eui (e : Word64)
  | short (a : Word16)
  deriving DecidableEq, Repr

/-- A secured application frame: its sender, its DLMS invocation counter, the generations of the unicast and
authentication keys it was protected under, whether its tag verifies under those keys, whether its security control
byte is one R187 accepts, and its fragments still missing (R190 DEFRAG). -/
structure AppFrame where
  sender : Sender
  counter : Word32
  genUc : BitVec 8
  genAk : BitVec 8
  tagOk : Bool
  suiteOk : Bool := true
  lastFragment : Bool := true
  bytes : Nat := 64
  apdu : Apdu
  deriving DecidableEq, Repr

/-- A coordinated or compatibility PLC frame at the engine's receiver (R66, R68–R70). `faulted` and `ownMap` are the
zones faulted in the frame and the zones whose symbols were sent under the zone map's own map. `snr` gives what the frame
measured: zone, tone group, SNR in 1/256 dB. -/
structure PlcRx where
  src : Word16
  seq : BitVec 8
  decodeOk : Bool
  faulted : BitVec 8 := 0
  ownMap : BitVec 8 := 0
  inGrant : Bool := true
  snr : List (Nat × Nat × Int) := []
  saturated : Bool := false
  stamp : Nat
  frame : AppFrame
  deriving DecidableEq, Repr

/-- A set of tone maps as a TONE_MAP_UPDATE carries it (R57): maps as MOD, gain, tones; zone map; generation. -/
structure TmArg where
  maps : List (Nat × Nat × BitVec 24)
  zoneMap : BitVec 16
  gen : BitVec 8
  deriving DecidableEq, Repr

/-- What leaves at a launch time (R35, R59): the head of a queue, or a channel's beacon. -/
inductive LaunchAt where
  | queue (q : Fin 2048)
  | beacon (ch : Fin 16)
  deriving DecidableEq, Repr

/-- An RF frame at a port's receiver (R84–R86, R93). `fwdMc`: the forwarding sleepy repeater took it from its child at
this MC instant (R92). -/
structure RfRx where
  fcsOk : Bool
  filterOk : Bool
  src : Sender
  keyIndex : Nat
  fc : Word32
  seq : BitVec 8
  micOk : Bool
  join : Bool := false
  offsetNs : Int := 0
  fwdMc : Option Nat := none
  stamp : Nat
  saturated : Bool := false
  frame : AppFrame
  deriving DecidableEq, Repr

/-- The common header of a KCL or peer message (R104, R107): whether its header fields and source address are right
and its tag verifies, and its EPOCH and SEQ. -/
structure KclHdr where
  fieldsOk : Bool := true
  srcOk : Bool := true
  epoch : Word32
  seq : Word32
  tagOk : Bool := true
  deriving DecidableEq, Repr

/-- UP_FRAME body without DNUM (R119 onward; a backlog record has the same form). -/
structure UpBody where
  port : Fin 4
  rxEt : Nat
  compat : Bool := false
  holdover : Bool := false
  faulted : BitVec 8 := 0
  src : Word16
  /-- ZONE_SNR and GROUP_SNR as zone, tone group, SNR in 1/256 dB. -/
  snr : List (Nat × Nat × Int) := []
  frame : AppFrame
  deriving DecidableEq, Repr

/-- One phase of a CELL_MEASURE (R119 onward). -/
structure MeasPhase where
  aImp : Nat
  aExp : Nat
  rImp : Nat
  rExp : Nat
  i2t : Nat
  vMean : Nat
  iMean : Nat
  deriving DecidableEq, Repr

/-- CELL_MEASURE body. Phases are listed A, B, C; `none` for a phase not carried. -/
structure MeasBody where
  endNs : Nat
  intervalS : Nat
  phA : Option MeasPhase
  phB : Option MeasPhase
  phC : Option MeasPhase
  isPartial : Bool
  timeInvalid : Bool
  deriving DecidableEq, Repr

/-- One port of a CELL_STATUS. -/
structure CellPortStatus where
  zcLast : Nat
  halfPeriod : Nat
  zcLocked : Bool
  txFault : Bool
  deriving DecidableEq, Repr

/-- CELL_STATUS body (R110 and its table). -/
structure CellStatusBody where
  state : Fin 5
  ptpState : Nat
  temp : Int
  offsetNs : Int
  bufUsed : Nat
  bufFree : Nat
  lost : Nat
  ports : List CellPortStatus
  deriving DecidableEq, Repr

/-- CELL_HELLO body, cell to engine (R110 and its table). -/
structure HelloBody where
  eui : Word64
  fw : Word32
  ports : Nat
  bands : BitVec 4
  backlogPending : Bool
  measureFitted : Bool
  ptpLocked : Bool
  nextUpDnum : Word32
  downBuf : Nat
  deriving DecidableEq, Repr

/-- A transmit REPORT of a CREDIT (R115). -/
structure Report where
  dnum : Word32
  status : Status
  port : Fin 4
  deriving DecidableEq, Repr

/-- CREDIT body, cell to engine (R112, R115). -/
structure CreditBody where
  ack : Word32
  sack : Word32
  limit : Word32
  reports : List Report
  deriving DecidableEq, Repr

/-- A class table (R209). -/
structure ClassTable where
  interval : Nat := 3
  checks : BitVec 6 := 0x2F
  regDigits : Nat := 0
  gapWait : Nat := 1
  maxRateW : Nat := 100000
  sumTolWh : Nat := 10
  sumTolPpt : Nat := 5
  spikeKx4 : Nat := 24
  spikeMinN : Nat := 32
  spikeMinWh : Nat := 500
  zeroRun : Nat := 8
  zeroV : Nat := 1000
  reverseWh : Nat := 0
  skewLimitMs : Nat := 10000
  transitMs : Nat := 5000
  interpMax : Nat := 24
  profile : Bool := true
  meanFallback : Bool := true
  deriving DecidableEq, Repr

/-- A validation rule package (R208). -/
structure RulesPkg where
  headerOk : Bool
  rulesId : Word64
  cls : Fin 64
  secVersion : Nat
  trailer : Trailer
  reservedOk : Bool
  table : ClassTable
  deriving DecidableEq, Repr

/-- A switch rule of daylight saving (R242 ZONE). -/
structure DstRule where
  month : Nat := 0
  week : Nat := 0
  weekday : Nat := 0
  hour : Nat := 0
  deriving DecidableEq, Repr

/-- A switch point of a day profile. -/
structure SwitchPoint where
  hour : Nat
  minute : Nat
  rate : Nat
  deriving DecidableEq, Repr

/-- A season entry. -/
structure Season where
  month : Nat
  day : Nat
  week : Nat
  deriving DecidableEq, Repr

/-- A special day. `year` 65535: every year. -/
structure SpecialDay where
  year : Nat
  month : Nat
  day : Nat
  profile : Nat
  deriving DecidableEq, Repr

/-- A local date and time. -/
structure DateTime where
  year : Nat
  month : Nat
  day : Nat
  hour : Nat := 0
  minute : Nat := 0
  second : Nat := 0
  deriving DecidableEq, Repr

/-- The body of a tariff calendar (R242). Only the used entries are listed. -/
structure CalBody where
  stdOffsetMin : Int := 0
  dstDeltaMin : Nat := 0
  dstStart : DstRule := {}
  dstEnd : DstRule := {}
  closeMode : Nat := 0
  closeDay : Nat := 0
  closeHour : Nat := 0
  closeMin : Nat := 0
  demand : Nat := 0
  closeWaitMin : Nat := 0
  seasons : List Season := []
  weeks : List (List Nat) := []
  days : List (List SwitchPoint) := []
  special : List SpecialDay := []
  deriving DecidableEq, Repr

/-- A calendar package (R241). `headerOk`: MAGIC, VERSION, BODY_LEN and reserved fields; `unusedOk`: entries beyond
each count and unused fields are zero. -/
structure CalPkg where
  headerOk : Bool
  calendar : Nat
  loadActive : Bool
  manual : Bool
  name : Nat
  activate : DateTime
  body : CalBody
  unusedOk : Bool
  trailer : Trailer
  deriving DecidableEq, Repr

/-- An access-table package (R265): rights bytes, class row by role column. -/
structure AccessPkg where
  headerOk : Bool
  tableId : Word64
  rows : List (List (BitVec 3))
  trailer : Trailer
  deriving DecidableEq, Repr

/-- A topology node record (R291). -/
structure TopoNode where
  node : Nat
  parent : Option Nat
  kind : Nat
  phase : Nat
  source : Nat
  srcPhase : Nat
  srcId : Nat
  balance : Bool
  phaseRef : Bool
  kI2r : Nat
  kFixed : Nat
  absThresh : Nat
  relThresh : Nat
  m : Nat
  k : Nat
  minCoverage : Nat
  deriving DecidableEq, Repr

/-- A topology package (R290). -/
structure TopoPkg where
  headerOk : Bool
  topologyId : Word64
  interval : Nat
  nodes : List TopoNode
  reservedOk : Bool
  trailer : Trailer
  deriving DecidableEq, Repr

/-- A node record of a graph image (R192). -/
structure GNode where
  node : Nat
  type : Nat
  priority : Nat
  groveMask : BitVec 8
  batchMax : Nat
  maxPar : Nat
  budgetUs : Nat
  inEdges : List Nat
  outEdges : List Nat
  bind : Nat
  ruleRef : Nat
  deriving DecidableEq, Repr

/-- An edge record of a graph image (R192). -/
structure GEdge where
  edge : Nat
  producer : Option Nat
  consumer : Nat
  quarantine : Bool
  launch : Bool
  dropLate : Bool
  capCells : Nat
  xoff : Nat
  xon : Nat
  reserve : Nat
  deriving DecidableEq, Repr

/-- A graph image (R192). `formatOk`: MAGIC, VERSION, counts, BODY_LEN, BODY_HASH and reserved fields. -/
structure GraphImage where
  formatOk : Bool
  graphId : Word64
  secVersion : Nat
  budgetTotal : Nat
  nodes : List GNode
  edges : List GEdge
  rules : List (Nat × Nat × Word64)
  trailer : Trailer
  deriving DecidableEq, Repr

/-- A part of an update manifest (R369). `hash` and `bootHash` stand for the SHA-384 values. -/
structure PartEntry where
  type : Nat
  version : Nat
  secVersion : Nat
  size : Nat
  offset : Nat
  hash : Nat
  bootHash : Nat
  deriving DecidableEq, Repr

/-- An update manifest (R369). `formatOk` covers reserved fields, targets and STREAM_LEN against the parts. -/
structure Manifest where
  formatOk : Bool
  sigOk : Bool
  countersign : Option Trailer
  seq : Nat
  scope : Nat
  transitKek : Word32
  cekOk : Bool
  handoverMin : Nat
  handoverMax : Nat
  streamLen : Nat
  parts : List PartEntry
  deriving DecidableEq, Repr

/-- A KEY_IMPORT_WRAPPED payload (R478). `reservedOk` covers ATTR's reserved bits and the length fields. -/
structure ImportArg where
  target : Word32
  unwrap : Word32
  attr : KeyAttr
  ephLen : Nat
  wrapLen : Nat
  wrapped : Wrapped
  deriving DecidableEq, Repr

/-- The object a COSEM request addresses (R481). -/
structure ObjRef where
  scope : Nat
  id : Nat
  cls : Nat
  obis : List Nat
  attr : Nat
  /-- SELECTOR. -/
  sel : Nat := 0
  deriving DecidableEq, Repr

/-- DATA of an object command: the range of ends (ET ns) or of entries that a selective access names, an interval's values for the
load profile, a date for the calendar, a flag. -/
inductive ObjData where
  | absent
  | range (fromNs toNs : Nat)
  | entries (first last : Nat)
  | interval (endNs : Nat) (vals : Qty4)
  | date (d : DateTime)
  | flag (b : Bool)
  deriving DecidableEq, Repr

/-- Targets of a campaign: a list of MCX or a meter-class mask (R383). -/
inductive Targets where
  | mcxs (l : List (Fin 1048576))
  | classes (mask : BitVec 64)
  deriving DecidableEq, Repr

/-- A CAMP_CREATE payload (R486). `hash` is HASH; a fetch gives the hash found over the image and its length. -/
structure CampArg where
  slot : Nat
  src : Nat
  blockSize : Nat
  fetch : Fetch (Nat × Nat)
  hash : Nat
  activate : Nat
  imageId : Nat
  idLen : Nat
  targets : Targets
  deriving DecidableEq, Repr

/-- A received Announce message (R22, R534, R14, R15). -/
structure Announce where
  master : Word64
  rank : List Nat
  gmId : Word64
  clockClass : Nat
  steps : Nat
  utcOffset : Nat
  utcValid : Bool
  leap61 : Bool
  leap59 : Bool
  deriving DecidableEq, Repr

/-- A received Sync message: its sender, logMessageInterval, and, for a one-step master, the measured offset from
master (R24, R534). A two-step master's measurement comes with its Follow_Up. `rxNs` is the domain time of receipt. -/
structure SyncMsg where
  master : Word64
  logInterval : Int
  twoStep : Bool
  offsetNs : Int
  rxNs : Nat
  deriving DecidableEq, Repr

/-- A measured sample set of one resampler cycle of one phase pair (R283). -/
structure CyclePhase where
  pc : Int
  qc : Int
  deriving DecidableEq, Repr

/-- What the front end measured on one phase of a tap in a Tick (R285): V²t and I²t added, sample periods with both
channels present, gap time, the peak magnitudes and clipping. -/
structure TickPhase where
  v2t : Nat
  i2t : Nat
  samples : Nat
  gapNs : Nat
  vPeak : Nat := 0
  iPeak : Nat := 0
  vClip : Bool := false
  iClip : Bool := false
  vSat : Bool := false
  iSat : Bool := false
  qSettling : Bool := false
  deriving DecidableEq, Repr

/-- A received HEARTBEAT body (R395). -/
structure Heartbeat where
  role : Nat
  inSync : Bool
  pinSeen : Bool
  mismatch : Bool
  swapReq : Bool
  swapAck : Bool
  finalApplied : Bool
  roleEpoch : Nat
  pairTick : Nat
  deltaAck : Nat
  health : Word32
  manifest : Nat
  deriving DecidableEq, Repr

/-- A DMA descriptor as fetched (R428). -/
structure DmaDesc where
  src : Nat
  dst : Nat
  length : Nat
  barrier : Bool
  interrupt : Bool
  completion : Bool
  chain : Bool
  srcSpace : Nat
  dstSpace : Nat
  reservedOk : Bool
  descId : Nat
  next : Nat
  deriving DecidableEq, Repr

/-- An error as the hardware reports it (R460, R461): class, address, location, accessor byte and its detail. -/
structure ErrRep where
  cls : Nat
  addr : Nat
  loc : Nat
  accessor : Nat
  code : Status
  detail : List Nat
  deriving DecidableEq, Repr

/-- A finding of DIAG_SELFTEST (R488): location, KIND, class, CODE, DETAIL. -/
structure DiagEntry where
  loc : BitVec 48
  kind : BitVec 8
  cls : BitVec 8
  code : Status
  detail : BitVec 48
  deriving DecidableEq, Repr

/-- A PCIe access refused or written: function, offset and size (R437, R438). -/
structure Access where
  fn : Fin 2
  offset : Nat
  size : Nat
  deriving DecidableEq, Repr

/-- An event for ALARM (R190, R491): its KEY in the form of R418, its time (ns), its EVENT and data items. -/
structure AlarmItem where
  key : Nat
  time : Nat
  event : Nat
  data : List (Nat × Nat) := []
  deriving DecidableEq, Repr

/-- How a record's write ends (R353, R359, R361): read back right; its page failing, with the sequences of that page
that can no longer be copied; or the eMRAM controller failing. -/
inductive RecWrite where
  | good
  | readBack (lost : List Nat)
  | controller
  deriving DecidableEq, Repr

/-- Which part of a 64-bit register an access reaches (R438). -/
inductive RegPart where
  | full | low | high
  deriving DecidableEq, Repr

/-- A PAUSE frame with its quanta, or a PFC frame with the quanta of the priorities it names (IEEE 802.3x, 802.1Qbb). -/
inductive PauseFrame where
  | pause (quanta : Word16)
  | pfc (times : List (Fin 8 × Word16))
  deriving DecidableEq, Repr

end Sys2Proof
end

