-- ==== Sys2Proof/Machine/PartsCtx.lean ====
section
/-! DEFINITION. State of the meter contexts (R127 to R155), of validation and estimation (R208 to R233), and of the
key table and the working keys (R157 to R184). -/

namespace Sys2Proof.Machine
open Sys2Proof

/-! ### The Meter Context Table -/

/-- STATE of an entry (R132), with the codes of R130. -/
inductive CtxState where
  | free | provisioned | joined | active | suspended | retired
  deriving DecidableEq, Repr

/-- A path entry (R74). `parent` none: direct to the channel. METRIC counts 1/256, HOP_ETX 1/16. -/
structure PathEnt where
  parent : Option Nat
  hops : Nat
  metric : Nat
  hopEtx : Nat
  sfSel : Nat
  deriving DecidableEq, Repr

/-- VALIDATION (R211). MEAN counts 1/16 Wh; `prevL` is the interval length the bitmaps were kept for (R212). -/
structure ValField where
  present : BitVec 64 := 0
  est : BitVec 64 := 0
  mean : Nat := 0
  var : Nat := 0
  skewMs : Int := 0
  zeroRun : Nat := 0
  statN : Nat := 0
  skewed : Bool := false
  reverseRun : Bool := false
  abandoned : Bool := false
  sumAp : Nat := 0
  sumAn : Nat := 0
  sumN : Nat := 0
  sumEst : Bool := false
  prevL : Nat := 0
  /-- The latest end that holds measured data: where the open gap of R225 starts. -/
  lastMeas : Nat := 0
  deriving DecidableEq, Repr

/-- PHASE_CORR (R306). -/
structure CorrField where
  lastEnd : Nat := 0
  lastVm : Nat := 0
  lastVp : List Nat := [0, 0, 0]
  sxx : Nat := 0
  syy : List Nat := [0, 0, 0]
  sxy : List Int := [0, 0, 0]
  w : Nat := 0
  run : Nat := 0
  cand : Nat := 0
  proposed : Bool := false
  deriving DecidableEq, Repr

/-- STATE of the CAMPAIGN field (R384), with its codes. -/
inductive CampState where
  | none | targeted | initiated | transferring | complete | verified | activated | failed | skipped | cancelled
  deriving DecidableEq, Repr

/-- CAMPAIGN (R384). -/
structure CampField where
  slot : Nat := 0
  valid : Bool := false
  state : CampState := .none
  rounds : Nat := 0
  missing : Nat := 0
  reason : Nat := 0
  lastTick : Nat := 0
  deriving DecidableEq, Repr

/-- An MCT entry (R130). Instants are ET ns except where the field counts MC or Ticks. -/
structure Mct where
  eui : Word64 := 0
  state : CtxState := .free
  /-- LINK type: 0 none, 1 local PLC, 2 local RF, 3 cell port. -/
  linkType : Nat := 0
  cport : Nat := 0
  linkId : Nat := 0
  short : Nat := 0
  cls : Nat := 0
  cal : Nat := 0
  /-- Handles of the three keys; zero where there is none. -/
  hUc : Word32 := 0
  hAk : Word32 := 0
  hBk : Word32 := 0
  genUc : BitVec 8 := 0
  genAk : BitVec 8 := 0
  genBk : BitVec 8 := 0
  pend : BitVec 3 := 0
  upHigh : Nat := 0
  downIc : Nat := 0
  rfFc : Nat := 0
  rfKey : Nat := 0
  rfSeq : BitVec 8 := 0
  repeater : Bool := false
  sleepy : Bool := false
  windowEmpty : Bool := false
  downHalt : Bool := false
  rotateDue : Bool := false
  bmp : BitVec 1024 := 0
  topoNode : Nat := 0
  topoPhase : Nat := 0
  feeder : Nat := 255
  replayCnt : Nat := 0
  staleCnt : Nat := 0
  lastEnd : Nat := 0
  lastRegs : Qty4 := {}
  lastRead : Nat := 0
  val : ValField := {}
  corr : CorrField := {}
  paths : List PathEnt := []
  /-- RF_DRIFT in Q16.16 ppm, RF_UNC in ns, RF_SYNC in MC ns. -/
  rfDrift : Nat := 0
  rfUnc : Nat := 0
  rfSync : Nat := 0
  camp : CampField := {}
  lastRx : Nat := 0
  session : Option Nat := none
  updSeq : Nat := 0
  stateTick : Nat := 0
  deriving DecidableEq, Repr

/-- A meter session slot (R150). Times are MC ns. -/
structure MeterSess where
  mcx : Nat
  opened : Nat
  lastTraffic : Nat
  /-- Handles of the table keys the session was established from (R171). -/
  lineage : List Word32 := []
  deriving DecidableEq, Repr

/-- A bulk load not yet finished (R154, R155): the package, the next record, the counts by row, results by record. -/
structure BulkRun where
  pkg : BulkPkg
  mb : Fin 8
  next : Nat
  tickCount : Nat := 0
  counts : List Nat := [0, 0, 0, 0, 0]
  last : Nat := 0
  deriving DecidableEq, Repr

/-- The trunk side of the contexts: the cache of R137 and the sessions. -/
structure CtxSt where
  /-- Per set, lines held, most recently used first: MCX and dirty. -/
  cache : Tbl (List (Nat × Bool)) := []
  /-- The MCT as it stands in context memory where it differs from the cache. -/
  stale : Tbl Mct := []
  /-- Entries changed in the current Tick (R138). -/
  changed : List Nat := []
  sess : Tbl MeterSess := []
  bulk : List BulkRun := []
  /-- Statuses written to result areas by bulk loads: record index and status of the last package. -/
  results : Tbl Status := []
  /-- Links whose UNKNOWN_METER event of the Tick is posted (R136). -/
  unknownPosted : List Nat := []
  /-- Frames and requests discarded, by link ID (LINK_RX_DROP), REPLAY decisions and failed verifications by link. -/
  rxDrop : Tbl Nat := []
  replay : Tbl Nat := []
  authFail : Tbl Nat := []
  deriving DecidableEq, Repr

/-! ### Interval records and validation -/

/-- An interval record (R213). KIND 0 MEASURED, 1 ESTIMATE, 2 REPLACEMENT, 3 UNMATCHED, 4 OVERRIDE. -/
structure IRec where
  mcx : Nat
  icode : Nat
  endNs : Nat
  quality : BitVec 8
  kind : Nat
  method : Nat := 0
  checks : BitVec 8 := 0
  vals : Qty4 := {}
  delta : Qty4 := {}
  vMean : Nat := 0
  skewMs : Int := 0
  tick : Nat := 0
  cls : Nat := 0
  /-- V_MEAN is the meter's own, from its APDU (R307). -/
  vOwn : Bool := false
  deriving DecidableEq, Repr

/-- An estimate-ledger entry (R228). `span` is the SPAN of an interpolation, in seconds of LAST_READ mod 65,536. -/
structure LedgerEnt where
  mcx : Nat
  endNs : Nat
  vals : Qty4
  method : Nat
  span : Nat := 0
  deriving DecidableEq, Repr

/-- A slot of a class profile (R227). -/
structure ProfSlot where
  vals : Qty4 := {}
  n : Nat := 0
  deriving DecidableEq, Repr

/-- A class profile: its pair and its 168 slots, listed where used. -/
structure Profile where
  node : Nat
  cls : Nat
  slots : Tbl ProfSlot := []
  deriving DecidableEq, Repr

/-- A sweep handed to ESTIMATE (R225): its interval end, length and the next MCX to visit. -/
structure Sweep where
  endNs : Nat
  lenS : Nat
  gapWait : Nat
  nextMcx : Nat := 0
  deriving DecidableEq, Repr

/-- A class table that RULES_LOAD has taken (R208). -/
structure LoadedRules where
  cls : Nat
  id : Word64
  sec : Nat
  table : ClassTable
  deriving DecidableEq, Repr

/-- Counters and sweeps of validation that are not journalled. -/
structure ValSt where
  sweeps : List Sweep := []
  /-- Contexts the sweeps visited in the current Tick. -/
  swept : Nat := 0
  duplicates : Nat := 0
  unmatched : Nat := 0
  refused : Nat := 0
  evicted : Nat := 0
  /-- Class tables loaded and waiting for the Tick boundary (R210). -/
  rulesNext : List LoadedRules := []
  deriving DecidableEq, Repr

/-! ### Keys -/

/-- Which KEKs wrap a key: of which taproot, in which DOMAIN, under which BMR (R157, R158). -/
structure KekId where
  taproot : Nat
  domain : Nat
  bmr : Nat
  deriving DecidableEq, Repr

/-- A wrapped meter key. -/
structure MKey where
  mat : Nat := 0
  kek : KekId := ⟨0, 0, 0⟩
  invalidated : Bool := false
  deriving DecidableEq, Repr

/-- The keys of a meter: active and pending (R161, R174). -/
structure MKeys where
  uc : MKey := {}
  ak : MKey := {}
  bk : MKey := {}
  pUc : Option MKey := none
  pAk : Option MKey := none
  pBk : Option MKey := none
  deriving DecidableEq, Repr

/-- A general slot (R161, R163, R164). -/
structure KSlot where
  cls : Nat
  attr : KeyAttr
  mat : Nat
  kek : KekId
  deriving DecidableEq, Repr

/-- A bank of the key table. -/
structure Bank where
  epoch : Nat := 0
  meters : Tbl MKeys := []
  slots : Tbl KSlot := []
  deriving DecidableEq, Repr

/-- A working key register (R168). -/
structure WKey where
  handle : Word32
  gen : BitVec 8
  mat : Nat
  lineage : List Word32
  deriving DecidableEq, Repr

/-- The key side of the trunk: KEK file, working keys, counters (R160, R168, R172, R178). -/
structure KeySt where
  /-- The KEK file: the KEKs it holds, and the prospective ones in its second half. -/
  kek : Option KekId := none
  kekNext : Option KekId := none
  /-- KEYS_READY: a bank matched at boot. -/
  ready : Bool := false
  lanes : Tbl WKey := []
  pkes : Tbl WKey := []
  loads : Nat := 0
  hits : Nat := 0
  quarDropped : Nat := 0
  attrFail : Nat := 0
  revoked : Nat := 0
  /-- The bank a re-wrap builds, and its cursor. -/
  rewrap : Option Bank := none
  rewrapCursor : Nat := 0
  rewrapDurable : Bool := false
  /-- Meters whose new key generation is committed in a Tick whose journal is not yet durable (R176). -/
  commits : Tbl Nat := []
  deriving DecidableEq, Repr

end Sys2Proof.Machine
end

