-- ==== Sys2Proof/Machine/PartsBal.lean ====
section
/-! DEFINITION. State of the energy balance, of phase identification and of the suspicion table (R290 to R313). -/

namespace Sys2Proof.Machine
open Sys2Proof

/-- A topology in force (R290, R291). -/
structure Topo where
  id : Word64
  lenS : Nat
  nodes : List TopoNode
  /-- Its activation instant (ET ns). -/
  at_ : Nat
  deriving DecidableEq, Repr

/-- Exceedance of a result. -/
inductive Sense where
  | none | loss | excess
  deriving DecidableEq, Repr

/-- REASON of a balance record (R304). -/
inductive BalReason where
  | none | coverage | noMeasure | measurePartial | measureTimeInvalid | gapTooLong | childInconclusive
  deriving DecidableEq, Repr

/-- A balance record (R304). -/
structure BRec where
  node : Nat
  adjustment : Bool
  sense : Sense
  flagged : Bool
  measEstimated : Bool
  measClipped : Bool
  stepped : Bool
  reason : BalReason
  hits : Nat
  endNs : Nat
  measured : Int
  meters : Int
  lossModel : Nat
  residual : Int
  threshold : Nat
  coverage : Nat
  revision : Nat
  expected : Nat
  tick : Nat
  deriving DecidableEq, Repr

/-- What the latches of one phase of a tap add up to in a balance interval: net active counts, I²t counts, sample periods,
gap time and flags. -/
structure TapSum where
  net : Int := 0
  i2t : Nat := 0
  v2t : Nat := 0
  samples : Nat := 0
  gapNs : Nat := 0
  clip : Bool := false
  stepped : Bool := false
  deriving DecidableEq, Repr

/-- A CELL_MEASURE of an interval: the cell and the report. -/
structure CellRep where
  cell : Nat
  body : MeasBody
  deriving DecidableEq, Repr

/-- A balance interval, by its end: what its nodes have been handed, its sources, and the last record of each node once it
has been computed. Coverage is kept in seconds of meter intervals. -/
structure BalIval where
  endNs : Nat
  lenS : Nat := 900
  /-- A re-phased Tick starts in the interval. -/
  stepped : Bool := false
  meters : Tbl Int := []
  weight : Tbl Nat := []
  /-- Tap sums by 3 × tap + phase. -/
  taps : Tbl TapSum := []
  reports : List CellRep := []
  /-- V²t counts and sample periods by 3 × tap + phase and minute of the interval. -/
  volts : Tbl (Tbl (Nat × Nat)) := []
  /-- Cells marked time-invalid at the cutoff. -/
  invalidCells : List Nat := []
  computed : Bool := false
  last : Tbl BRec := []
  /-- Nodes that a change after the cutoff touched in this Tick. -/
  touched : List Nat := []
  deriving DecidableEq, Repr

/-- The flag of a node (R302): its window (end and sense, newest first), the sense in which it is flagged, and the days (ET
seconds / 86,400) in which it was flagged in the LOSS sense, newest first. -/
structure NodeFlag where
  window : List (Nat × Sense) := []
  flagged : Sense := .none
  lossDays : List Nat := []
  deriving DecidableEq, Repr

/-- A suspicion-table entry (R310). MEAN_DAY counts 1/256 Wh. `lastZero` and `nextZero`: a ZERO_VOLTAGE failure fell in the
day DAY_NUM, or in the day after it. -/
structure Susp where
  score : Nat := 0
  rulesDay : BitVec 8 := 0
  rulesLast : BitVec 8 := 0
  dropRun : Nat := 0
  dayAp : Nat := 0
  meanDay : Nat := 0
  dayN : Nat := 0
  dayNum : Nat := 0
  nextAp : Nat := 0
  nextN : Nat := 0
  nextRules : BitVec 8 := 0
  meanDays : Nat := 0
  zeroDay : Bool := false
  zeroNext : Bool := false
  deriving DecidableEq, Repr

/-- The journalled balance state. -/
structure Balance where
  topo : Option Topo := none
  prev : Option Topo := none
  /-- A package that passed its checks and waits for its activation instant. -/
  next : Option Topo := none
  ivals : List BalIval := []
  /-- The latest interval end computed. -/
  done : Nat := 0
  flags : Tbl NodeFlag := []
  susp : Tbl Susp := []
  /-- The day up to which scoring sweeps have started, and the sweep in progress: its day and next MCX. -/
  sweptDay : Option Nat := none
  sweep : Option (Nat × Nat) := none
  deriving DecidableEq, Repr

/-- Counters (balance.stat) and what one Tick has done. -/
structure BalSt where
  unattributed : Nat := 0
  mismatch : Nat := 0
  ignored : Nat := 0
  lateBeyond : Nat := 0
  topoStale : Nat := 0
  scored : Nat := 0
  /-- Balance records written in the Tick (R408). -/
  written : List BRec := []
  deriving DecidableEq, Repr

end Sys2Proof.Machine
end

