-- ==== Sys2Proof/Machine/PartsBill.lean ====
section
/-! DEFINITION. State of billing: the Billing Register Table, the tariff calendars and the access table (R235 to R266). -/

namespace Sys2Proof.Machine
open Sys2Proof

/-- A maximum-demand register. -/
structure MdReg where
  value : Nat := 0
  isPartial : Bool := false
  capture : Nat := 0
  deriving DecidableEq, Repr

/-- A sub-interval of a demand window: its A+ sum, the records it holds, and whether one of them is ESTIMATED. -/
structure SubInt where
  sum : Nat := 0
  n : Nat := 0
  est : Bool := false
  deriving DecidableEq, Repr

/-- A Billing Register Table entry (R236). Instants are ET ns, 0 for none. `energy` lists 8 rates × 4 quantities. -/
structure Brt where
  cal : Nat := 0
  forced : Bool := false
  demandUnavail : Bool := false
  seq : Nat := 0
  start : Nat := 0
  closeAt : Nat := 0
  energy : List Nat := List.replicate 32 0
  md : List MdReg := List.replicate 8 {}
  adj : Qty4 := {}
  adjCount : Nat := 0
  demandEnd : Nat := 0
  /-- DEMAND_SUB: the open interval first. -/
  sub : List SubInt := [{}, {}, {}]
  demandPartial : Bool := false
  started : Bool := false
  lastRate : Nat := 0
  closeTick : Nat := 0
  lastPost : Nat := 0
  /-- Method and interval length of the open window: DEMAND as R242 codes it, and seconds. -/
  method : Nat := 0
  lenS : Nat := 0
  /-- Reported power failures that may lie in a window not yet complete. -/
  powerFails : List Nat := []
  /-- Start of the first window that counts after a change, and the instant of the last change of class or calendar. -/
  winFrom : Nat := 0
  chgAt : Nat := 0
  deriving DecidableEq, Repr

/-- A part of a tariff calendar (R238): ACTIVATE, its instant, and the body. -/
structure CalPart where
  name : Nat := 0
  manual : Bool := false
  activate : DateTime := { year := 0, month := 0, day := 0 }
  /-- The declared activation instant in ET ns; of a MANUAL part not yet invoked, 0. -/
  at_ : Nat := 0
  /-- Activation is invoked for the next Tick boundary, which is then its instant. -/
  due : Bool := false
  body : CalBody := {}
  deriving DecidableEq, Repr

/-- A boundary of a calendar's history and its close sweep: the next MCX to visit, none before it starts. -/
structure Hist where
  at_ : Nat
  sweep : Option Nat := none
  done : Bool := false
  deriving DecidableEq, Repr

/-- A tariff calendar. -/
structure Calendar where
  active : Option CalPart := none
  passive : Option CalPart := none
  previous : Option CalPart := none
  last : Nat := 0
  history : List Hist := []
  deriving DecidableEq, Repr

/-- An access table (R265): rows for classes 3, 4, 7, 8, 11, 18, 20; a column per role; bits READ, WRITE, EXECUTE. -/
structure AccessTable where
  id : Word64 := 0
  rows : List (List (BitVec 3)) := []
  deriving DecidableEq, Repr

/-- The journalled side of billing. -/
structure Billing where
  brt : Tbl Brt := []
  cals : Tbl Calendar := []
  access : Option AccessTable := none
  /-- The billing profile: snapshots by MCX, newest first (R263). -/
  profile : Tbl (List Brt) := []
  deriving DecidableEq, Repr

/-- The rest: what waits for a Tick boundary, and close-sweep work of the Tick. -/
structure BillSt where
  accessNext : Option AccessTable := none
  /-- Boundaries added by BILLING_CLOSE_NOW: calendar and instant. -/
  nowBoundaries : List (Nat × Nat) := []
  closes : Nat := 0
  /-- MCX of the entries changed in the Tick (R408). -/
  touched : List Nat := []
  deriving DecidableEq, Repr

end Sys2Proof.Machine
end

