-- ==== Sys2Proof/Machine/PartsLink.lean ====
section
/-! DEFINITION. State of the power-line channels, the zero-cross detectors, the radio ports and the remote cells. -/

namespace Sys2Proof.Machine
open Sys2Proof

/-- A tone map (R55). -/
structure ToneMap where
  mod : Nat := 0
  gain : Nat := 0
  tones : BitVec 24 := 0
  valid : Bool := false
  downgraded : Bool := false
  deriving DecidableEq, Repr

/-- A set of tone maps 1 to 3 with its zone map and generation (R55, R57). -/
structure TmSet where
  map1 : ToneMap := {}
  map2 : ToneMap := {}
  map3 : ToneMap := {}
  zoneMap : BitVec 16 := 0
  gen : BitVec 8 := 0
  deriving DecidableEq, Repr

/-- A directed hop link of a port (R55, R56, R70, R75). -/
structure HopLink where
  set : TmSet := {}
  /-- Consecutive faults per zone. -/
  faults : Tbl Nat := []
  /-- SNR estimates by 32 × zone + tone group, in 1/256 dB. -/
  snr : Tbl Int := []
  /-- The last 32 granted transmissions, newest first: succeeded. -/
  attempts : List Bool := []
  /-- Neighbour report: mean SNR in 1/256 dB and the superframe it came in. -/
  nbr : Option (Int × Nat) := none
  /-- Re-estimation is due (R57), and the superframe of the last estimation. -/
  reest : Bool := false
  estSf : Nat := 0
  /-- A set sent and not yet acknowledged, and whether it applies from the next superframe. -/
  nextSet : Option TmSet := none
  nextAcked : Bool := false
  deriving DecidableEq, Repr

/-- A grant (R62). -/
structure Grant where
  slot : Nat
  tx : Bool
  member : Nat
  peer : Nat
  period : Nat
  offset : Nat
  zoneMap : BitVec 16
  tmGen : BitVec 8
  deriving DecidableEq, Repr

/-- A member of a coordinated port. -/
structure Member where
  mcx : Nat
  attached : Bool := true
  /-- Consecutive superframes with a TX grant of its own and no transmission (R73). -/
  silent : Nat := 0
  heard : Bool := false
  /-- METRIC of the primary path when it was chosen (R76), in 1/256. -/
  selMetric : Nat := 0
  /-- The member asked to join and waits for its grants (R72). -/
  joinWait : Bool := false
  deriving DecidableEq, Repr

/-- What a frame of the engine's on a PLC port carries: an application frame, or a TONE_MAP_UPDATE of a hop link. -/
inductive PlcKind where
  | data (mcx : Nat)
  | toneMap (hop : Nat)
  deriving DecidableEq, Repr

/-- A frame of the engine's on its way down a PLC port (R69): sent and waiting for its ACK, or waiting for a slot. -/
structure PlcDown where
  kind : PlcKind
  dst : Nat
  seq : BitVec 8
  sent : Bool := false
  retx : Nat := 0
  /-- Zones that the retransmission sends under map 0. -/
  override : BitVec 8 := 0
  retxSlot : Option Nat := none
  bytes : Nat := 64
  deriving DecidableEq, Repr

/-- A PLC port: a channel, or a port of a remote cell (R58 to R77, R103). -/
structure PlcPort where
  sfNum : Nat := 0
  sfNextEt : Nat := 0
  failRun : Nat := 0
  roboRun : Nat := 0
  impaired : Bool := false
  verified : Nat := 0
  failed : Nat := 0
  grantReset : Bool := false
  /-- A beacon is built and queued: launch time (ns), ROBUST, GRANT_RESET, ZC_VALID. -/
  beacon : Option (Nat × Bool × Bool × Bool) := none
  /-- A beacon launched and not yet verified: it went in ROBO. -/
  beaconOut : Option Bool := none
  beaconsSent : Nat := 0
  members : Tbl Member := []
  grants : List Grant := []
  /-- Hop links by 65,536 × from + to; the channel itself is 0. -/
  hops : Tbl HopLink := []
  down : List PlcDown := []
  nextSeq : BitVec 8 := 0
  /-- Slot index in progress within the superframe. -/
  slot : Option Nat := none
  retxUsed : List Nat := []
  stBeaconFail : Bool := false
  stZoneDowngrade : Bool := false
  stAdmitRefused : Bool := false
  stRxSat : Bool := false
  rxFrames : Nat := 0
  rxDecodeFail : Nat := 0
  nackSent : Nat := 0
  acksSent : Nat := 0
  admitRefused : Nat := 0
  zoneDowngrades : Nat := 0
  /-- Answers of compatibility mode: beacons, RREPs, tone-map responses, bootstrap messages. -/
  compatAnswers : Nat := 0
  intEnable : BitVec 4 := 0
  rxLat : Option Word64 := none
  txLat : Option Word64 := none
  afeGain : Option Word64 := none
  deriving DecidableEq, Repr

/-- State of a zero-cross detector (R50). -/
inductive ZcState where
  | lost | acquiring | locked
  deriving DecidableEq, Repr

/-- A zero-cross detector: a tap's SELF detector has the same form. Instants and periods in ns. -/
structure Detector where
  state : ZcState := .lost
  /-- MC at the last crossing reported. -/
  reportMc : Nat := 0
  /-- Last crossing reported while LOST, to pair with the next. -/
  seed : Option Nat := none
  predicted : Nat := 0
  halfPeriod : Nat := 0
  /-- The last 16 accepted half periods, newest first. -/
  halves : List Nat := []
  accepted : Nat := 0
  rejects : Nat := 0
  lastEt : Nat := 0
  latNs : BitVec 16 := 0
  deriving DecidableEq, Repr

/-- The PLC subsystem: ports by link port index, detectors, lock groups. -/
structure PlcSt where
  ports : Tbl PlcPort := []
  det0 : Detector := {}
  det1 : Detector := {}
  det2 : Detector := {}
  det3 : Detector := {}
  deriving DecidableEq, Repr

/-- What a frame of the engine's on an RF port is for: an application frame, a resync frame (R95), or the instruction to a
sleepy repeater to resynchronise its child. -/
inductive RfKind where
  | data | resync | instruct (child : Nat)
  /-- A multicast block (R386). -/
  | bcast
  deriving DecidableEq, Repr

/-- A frame of the engine's waiting on an RF port (R89, R95, R96), or sent and not yet acknowledged. -/
structure RfDown where
  mcx : Nat
  seq : BitVec 8
  kind : RfKind := .data
  sent : Bool := false
  tries : Nat := 0
  bytes : Nat := 64
  deriving DecidableEq, Repr

/-- A cell installed on a node through 6P (R83, R92). `parent` none: the engine; else the sleepy repeater of a pair cell. -/
structure RfCell where
  mcx : Nat
  parent : Option Nat := none
  slot : Nat
  chanOff : Nat := 0
  periodSf : Nat := 1
  offsetSf : Nat := 0
  uplink : Bool
  installed : Bool := false
  deriving DecidableEq, Repr

/-- What an RF timeslot serves (R89, R94, R95). -/
inductive SlotKind where
  | idle
  /-- A receive window for a node, open for so many ns on either side. -/
  | listen (mcx : Nat) (guardNs : Nat)
  | send (mcx : Nat) (seq : BitVec 8)
  | beacon
  /-- The shared advertising cell, in which nodes join. -/
  | shared
  deriving DecidableEq, Repr

/-- An RF port (R79 to R101). -/
structure RfPort where
  /-- Running since the Tick boundary at which it was enabled; the slot of ASN 0 has started. -/
  enabled : Bool := false
  started : Bool := false
  asn : Nat := 0
  /-- Start of the current timeslot in ET ns, and the grid's next slot start. -/
  slotEt : Nat := 0
  slotNextEt : Nat := 0
  hop : List Nat := [0]
  /-- A schedule waiting for the next slotframe. -/
  hopNext : Option (List Nat) := none
  chsel : Nat := 0
  slot : SlotKind := .idle
  cells : List RfCell := []
  /-- 6P transactions outstanding: node and command (1 ADD, 2 DELETE, 3 RELOCATE, 7 CLEAR). -/
  sixtop : List (Nat × Nat) := []
  sixtopAnswers : Nat := 0
  down : List RfDown := []
  nextSeq : BitVec 8 := 0
  ebWait : Bool := false
  ebSent : Nat := 0
  /-- 0 no clock, 1 acquiring, 2 running. -/
  iqState : Nat := 0
  /-- Samples of the epoch, frozen in a gap; and the anchor's ET and MC. -/
  sampleCnt : Nat := 0
  sampleEpoch : Word16 := 0
  anchorEt64 : Nat := 0
  anchorMc : Nat := 0
  gaps : Nat := 0
  longestGapUs : Nat := 0
  inGap : Bool := false
  gapStartMc : Nat := 0
  stalled : Bool := false
  resumeEt : Nat := 0
  rxAborted : Nat := 0
  rxFrames : Nat := 0
  rxAuthFail : Nat := 0
  rxReplay : Nat := 0
  dwellHolds : Nat := 0
  acksSent : Nat := 0
  nacksSent : Nat := 0
  /-- Occupancy in µs by channel × 2^32 + 100 ms bucket of MC, and by 1 s bucket of MC (R97). -/
  dwell : Tbl Nat := []
  duty : Tbl Nat := []
  stGuard : Bool := false
  stDwell : Bool := false
  stAuthFail : Bool := false
  stIqGap : Bool := false
  stRxSat : Bool := false
  agcCode : BitVec 6 := 0
  agcManual : Bool := false
  intEnable : BitVec 5 := 0
  rxLat : Option Word64 := none
  txLat : Option Word64 := none
  joined : List Nat := []
  deriving DecidableEq, Repr

/-- The RF ports, and what they share (R79, R96). -/
structure RfSt where
  ports : Tbl RfPort := []
  /-- Consecutive resync frames not acknowledged, by MCX (R96). -/
  resyncMiss : Tbl Nat := []
  /-- Partners of a pair cell that get a 6P DELETE at their next contact: partner and child (R96). -/
  removals : List (Nat × Nat) := []
  /-- Pair cells to be added again: child, repeater, and the partners that have still to synchronise. -/
  readd : List (Nat × Nat × List Nat) := []
  /-- Meters whose last accepted frame counter belongs to a frame not admitted (R85, R86). -/
  unadmitted : List Nat := []
  deriving DecidableEq, Repr

/-- The engine's state of a cell (R109). -/
inductive CellState where
  | released | admitted | up | silent
  deriving DecidableEq, Repr

/-- What a downlink message of KCL is for (R115 to R119): a beacon descriptor, which may go in ROBO, a frame for a meter,
or a TONE_MAP_UPDATE of a hop link. -/
inductive DownKind where
  | beacon (port : Nat) (sf : Nat) (robo : Bool)
  | frame (port : Nat) (mcx : Nat)
  | control (port : Nat) (hop : Nat)
  /-- A multicast block (R386). -/
  | bcast (port : Nat)
  deriving DecidableEq, Repr

/-- A credit-controlled downlink message sent: acknowledged or not, and whether its REPORT has come. -/
structure DownMsg where
  dnum : Word32
  kind : DownKind
  acked : Bool := false
  reported : Bool := false
  sends : Nat := 1
  deriving DecidableEq, Repr

/-- An open backlog session (R124). `tail`: BACKLOG_END named this many chunks and the gap is not yet filled. -/
structure Backlog where
  id : Word32
  ack : Nat
  /-- Chunks above `ack` that wait for the gap to fill. -/
  held : Tbl (List UpBody) := []
  /-- Chunks accepted whose Tick is not yet known durable, with that Tick; they hold BACKLOG_ACK back. -/
  accepted : List (Nat × Nat) := []
  tail : Option Nat := none
  lastMc : Nat := 0
  deriving DecidableEq, Repr

/-- The engine's side of one cell (volatile; admissions and epochs are journalled). -/
structure CellPort where
  state : CellState := .released
  upSeen : Bool := false
  upEpoch : Word32 := 0
  upSeq : Word32 := 0
  /-- Bit i: SEQ upSeq − i has been accepted. -/
  upWindow : BitVec 256 := 0
  downSeq : Nat := 0
  /-- DNUM_ACK: every uplink DNUM below it has been received and may be acknowledged. -/
  upAck : Word32 := 0
  /-- DNUMs received at or above `upAck`, with the Tick they were admitted in. -/
  upRecv : List (Word32 × Nat) := []
  upLimit : Word32 := 0
  downNext : Word32 := 0
  downLimit : Word32 := 0
  downBuf : Nat := 0
  down : List DownMsg := []
  /-- Messages that wait for credit. -/
  waiting : List DownKind := []
  backlog : Option Backlog := none
  /-- Remembered sessions: BACKLOG_ID, BACKLOG_ACK, MC at which each was closed. -/
  remembered : List (Word32 × Nat × Nat) := []
  fw : Word32 := 0
  measureFitted : Bool := false
  ptpState : Nat := 0
  backlogPending : Bool := false
  status : Option CellStatusBody := none
  timeInvalid : Bool := false
  alignOut : Bool := false
  alignSent : Nat := 0
  helloSent : Nat := 0
  creditSent : Nat := 0
  /-- Messages accepted. -/
  rxFrames : Nat := 0
  discards : Nat := 0
  duplicates : Nat := 0
  lastMsgMc : Nat := 0
  deriving DecidableEq, Repr

/-- The remote cells (R105). -/
structure CellSt where
  cells : Tbl CellPort := []
  /-- Messages discarded from cells not admitted. -/
  strangers : Nat := 0
  deriving DecidableEq, Repr

end Sys2Proof.Machine
end

