-- ==== Sys2Proof/Machine/PartsUpd.lean ====
section
/-! DEFINITION. State of the engine's own updates (R367 to R382) and of campaigns and tariff pushes (R383 to R389). -/

namespace Sys2Proof.Machine
open Sys2Proof

/-- States of an update (R373), in the order of its table. -/
inductive UpdPhase where
  | idle | receiving | verifying | staged | activating
  deriving DecidableEq, Repr

/-- An image-set record of the vault (R368): its parts by code. -/
structure ImageSet where
  epoch : Nat := 0
  seq : Nat := 0
  bank : Nat := 0
  parts : Tbl PartEntry := []
  deriving DecidableEq, Repr

/-- The update of the engine's own images in progress, and the image sets (R368, R373 to R378). -/
structure UpdSt where
  phase : UpdPhase := .idle
  /-- The holder's mailbox; 0xFF when the lock is free. -/
  holder : Nat := 0xFF
  man : Option Manifest := none
  /-- Chunks received. -/
  chunks : List Nat := []
  failPart : Nat := 0
  /-- MC of the holder's last UPD_* command. -/
  lastMc : Nat := 0
  /-- What verification found in the GRAPH, RULES and FE_CAL parts. -/
  graph : Option GraphImage := none
  rules : List RulesPkg := []
  /-- Preparation (R378): when it started, and which steps are complete or not needed. -/
  startMc : Nat := 0
  prepB : Bool := false
  prepRewrap : Bool := false
  prepBank : Bool := false
  /-- Re-wrap is part of this activation. -/
  rewrapping : Bool := false
  /-- The commit operation has been made; pair A boots the new Gamokor. -/
  grafted : Bool := false
  /-- The vault's two image-set records, and the set that runs. -/
  rec0 : Option ImageSet := none
  rec1 : Option ImageSet := none
  run : ImageSet := {}
  deriving DecidableEq, Repr

/-- A round of a campaign in progress (R385): its group (link, cell port, key value), or one meter; the blocks still to send
(none: every block from `next` on), its members. -/
structure Round where
  group : Option (Nat × Nat × Nat) := none
  members : List Nat
  todo : Option (List Nat) := none
  next : Nat := 0
  /-- Members that the block in progress has gone to, where it goes by unicast. -/
  sub : Nat := 0
  deriving DecidableEq, Repr

/-- A campaign or tariff push (R383, R389). -/
structure Campaign where
  creator : Nat
  tariff : Bool := false
  name : Nat := 0
  hash : Nat := 0
  imageLen : Nat := 0
  blockSize : Nat := 64
  imageId : Nat := 0
  /-- Activation time in ET ns, 0 for at once. -/
  activate : Nat := 0
  started : Bool := false
  paused : Bool := false
  members : List Nat := []
  /-- Targets skipped at creation: they keep the field of another campaign. -/
  skipped : List Nat := []
  /-- Blocks a member reported missing; a member not listed misses every block. -/
  missing : Tbl (List Nat) := []
  rounds : List Round := []
  /-- Unicast work not yet answered, by meter: the MC at which it was issued. -/
  asked : Tbl Nat := []
  /-- Results of members whose field a later campaign took over. -/
  kept : Tbl CampField := []
  doneSent : Bool := false
  cancelled : Bool := false
  deriving DecidableEq, Repr

end Sys2Proof.Machine
end

