-- ==== Sys2Proof/Machine/Persist.lean ====
section
/-! DEFINITION. The part of the state that the billing journal covers and the store restores. -/

namespace Sys2Proof.Machine
open Sys2Proof

/-- An admitted cell (R108): the command's fields, and the EPOCHs of its link (R106). -/
structure Admission where
  ports : BitVec 8
  bands : BitVec 8
  key : Word32
  addr : Nat
  measure : Bool
  downEpoch : Nat := 0
  deriving DecidableEq, Repr

/-- Journalled state (R328): restored by the restart, replaced by a resync. -/
structure Persist where
  /-- Parameters in force that differ from their default. -/
  params : List (ParamId × PVal) := []
  roleEpoch : Nat := 0
  /-- EPOCH of the peer link (R394). -/
  peerLinkEpoch : Nat := 0
  /-- The Meter Context Table; an MCX not listed is FREE. -/
  mct : Tbl Mct := []
  /-- The current bank of the key table. -/
  keys : Bank := {}
  /-- The last four BATCH_IDs and the index of the last record committed of each, newest first (R155). -/
  batches : List (Word64 × Nat) := []
  /-- Class tables in force: RULES_ID and table (R210). -/
  rules : Tbl (Word64 × ClassTable) := []
  /-- Every class table loaded, by class and RULES_ID. -/
  rulesLib : List LoadedRules := []
  /-- When the class table of a class last came into force (ET ns). -/
  rulesAt : Tbl Nat := []
  /-- The graph in force (R195). -/
  graph : Option GraphImage := none
  /-- The estimate ledger and the class profiles. -/
  ledger : List LedgerEnt := []
  profiles : List Profile := []
  bill : Billing := {}
  bal : Balance := {}
  /-- Admitted cells (R108). -/
  cells : Tbl Admission := []
  /-- EPOCH last used on the link of a cell, admitted or released. -/
  cellEpochs : Tbl Nat := []
  /-- Lock groups: group to channels (R77). -/
  groups : Tbl (List Nat) := []
  /-- Slotframe schedules of the RF ports (R88). -/
  rfHop : Tbl (List Nat) := []
  /-- Pair Tick number of the boundary at which ASN 0 of a port started (R88, R402). -/
  rfOrigin : Tbl Nat := []
  /-- Transmit counters of the RF ports by 2 × port + key (R87). -/
  rfTx : Tbl Nat := []
  /-- Campaigns by slot, and the broadcast invocation counters by key value (R386). -/
  camps : Tbl Campaign := []
  /-- Images in the campaign slots: hash and length (R383). -/
  campImg : Tbl (Nat × Nat) := []
  bic : Tbl Nat := []
  deriving DecidableEq, Repr

end Sys2Proof.Machine
end

