-- ==== Sys2Proof/Machine/PartsStore.lean ====
section
/-! DEFINITION. State of the ring store (R315 to R345). -/

namespace Sys2Proof.Machine
open Sys2Proof

/-- What a record of a series is (R320). -/
inductive SBody where
  | interval (r : IRec)
  | billing (mcx : Nat) (b : Brt)
  | balance (r : BRec)
  | event (a : AlarmItem)
  /-- A supply record: the node (0xFFFF for a report no node names), the cell or tap it comes from, and the report. -/
  | supply (node source srcId : Nat) (m : MeasBody)
  deriving DecidableEq, Repr

/-- A record: its place in the stream, the Tick whose journal carries it, when STORE_APPEND took it, and the coarse unit it
was folded into. -/
structure SRec where
  id : Nat
  body : SBody
  tick : Nat
  atNs : Nat
  uncommitted : Bool := false
  unit : Option Nat := none
  lost : Bool := false
  deriving DecidableEq, Repr

/-- A coarse unit of 1 MiB (R323). `slot` none: promoted to fine units in the hot pool. Instants in MC ns. -/
structure CUnit where
  cls : Nat
  win : Nat
  index : Bool
  slot : Option Nat
  used : Nat := 0
  rewrites : List Nat := []
  lastMc : Nat := 0
  writtenMc : Nat := 0
  lost : Bool := false
  deriving DecidableEq, Repr

/-- Which pool holds a superblock slot. -/
inductive Pool where
  | free | series | hot | retired
  deriving DecidableEq, Repr

/-- A superblock slot. A slot not listed is free and unworn. `wears` lists the wear of its four blocks. -/
structure Slot where
  pool : Pool := .free
  cls : Nat := 0
  closed : Bool := false
  /-- Order of closing, and coarse units written. -/
  closeSeq : Nat := 0
  fill : Nat := 0
  wears : List Nat := [0, 0, 0, 0]
  /-- To be evacuated after a failure, with the die whose block is to be retired once it is empty. -/
  evacuate : Bool := false
  failed : Option Nat := none
  /-- Instants (MC ns) of pages rebuilt, with their dies. -/
  rebuilt : List (Nat × Nat) := []
  deriving DecidableEq, Repr

/-- A GC pass: victim and open target. -/
structure GcPass where
  victim : Nat
  target : Nat
  deriving DecidableEq, Repr

/-- A Tick's stream in staging: its records, its bytes, and how many are programmed; with its commit entry the state
committed. -/
structure Staged where
  tick : Nat
  recs : List SRec
  bytes : Nat
  programmed : Nat := 0
  state : Persist
  deriving DecidableEq, Repr

/-- A journal segment in the hot pool: its bytes, the last record in it and the sweep in progress when it was written. -/
structure Seg where
  bytes : Nat
  last : Nat
  sweep : Nat
  deriving DecidableEq, Repr

/-- STATE of STORE_STATUS. -/
inductive StoreState where
  | bringup | normal | full | readonly | replay
  deriving DecidableEq, Repr

/-- The ring store (R315 to R344): the journal, the series and hot pools, garbage collection and its counters. -/
structure StoreSt where
  /-- Formatted at the transition from BLANK to PROVISIONED. -/
  formatted : Bool := false
  state : StoreState := .bringup
  /-- The highest Tick whose journal is durable (R325), and the state its commit entry carries. -/
  durable : Nat := 0
  durableP : Persist := {}
  staging : List Staged := []
  /-- Records that STORE_APPEND took in the current Tick. -/
  stream : List SRec := []
  nextId : Nat := 0
  segs : List Seg := []
  /-- Journalled records not yet folded, oldest first; folded and held ones. -/
  unfolded : List SRec := []
  series : List SRec := []
  holding : List SRec := []
  units : Tbl CUnit := []
  nextUnit : Nat := 0
  slots : Tbl Slot := []
  /-- The open superblock of each class; closing order. -/
  openSb : Tbl Nat := []
  closeCtr : Nat := 0
  spares : List Nat := [0, 0, 0, 0]
  retiredBlocks : List Nat := [0, 0, 0, 0]
  retiredSlots : Nat := 0
  lostDie : Option Nat := none
  migrating : Nat := 0
  gcOn : Bool := false
  gc : Option GcPass := none
  /-- Emptied victims that wait for the Tick given to be durable (R338). -/
  gcErase : List (Nat × Nat) := []
  gcPasses : Nat := 0
  gcAborted : Nat := 0
  rebuilt : Nat := 0
  lostPages : Nat := 0
  promotions : Nat := 0
  bypassing : Bool := false
  bypassed : Nat := 0
  lost : Nat := 0
  lostTick : Bool := false
  stGcTargetFail : Bool := false
  stBlockRetired : Bool := false
  stParityRebuild : Bool := false
  stMediaError : Bool := false
  stHolding : Bool := false
  stBypass : Bool := false
  stCapacityShrunk : Bool := false
  intEnable : BitVec 7 := 0
  /-- The checkpoint sweep in progress: its number, its first Tick, journal bytes written since, chunks written. -/
  sweep : Nat := 1
  sweepTick : Nat := 0
  sweepBytes : Nat := 0
  sweepChunks : Nat := 0
  lastSweepTick : Nat := 0
  /-- The day window of the last Tick boundary (R321). -/
  day : Nat := 0
  /-- A window expiry or a reclaim is due. -/
  expiryDue : Bool := false
  /-- Records made outside the graph, on their way to STORE_APPEND and to EXPORT_STREAM. -/
  toStore : List SBody := []
  toExport : List SBody := []
  deriving DecidableEq, Repr

end Sys2Proof.Machine
end

