-- ==== Sys2Proof/Machine/PartsPeer.lean ====
section
/-! DEFINITION. What the peer link carries besides heartbeats and mailbox messages: deltas, copies and packages (R394, R398 to R401). -/

namespace Sys2Proof.Machine
open Sys2Proof

/-- An input of billing, in the order in which the ACTIVE consumed them: an interval record, a close that the close sweep or a
command made, a demand register reset. -/
inductive BillIn where
  | ival (r : IRec)
  | close (mcx at_ : Nat) (forced : Bool)
  | resetMd (mcx rate : Nat)
  deriving DecidableEq, Repr

/-- What both engines share of the links (R402, R405): the ports with their members, grants and tone maps, the RF schedule, and the state of
KCL. -/
structure LinkImage where
  plc : Tbl PlcPort := []
  rf : RfSt := {}
  cells : Tbl CellPort := []
  deriving DecidableEq, Repr

/-- A Tick's replication delta (R398): the after-images of the journalled state, the inputs of billing and balance, the records that
entered the journal, and the ACTIVE's digest and HEALTH. `img` stands for the state after the Tick but for what is recomputed. -/
structure Delta where
  pairTick : Nat
  img : Persist
  bill : List BillIn := []
  measures : List (Nat × MeasBody) := []
  /-- Tap latches: start of the Tick (ET ns), re-phased, sums by 3 × tap + phase. -/
  taps : Option (Nat × Bool × List (Nat × TapSum)) := none
  recs : List SBody := []
  links : LinkImage := {}
  digest : Nat := 0
  health : Word32 := 0
  isFinal : Bool := false
  deriving DecidableEq, Repr

/-- What the last RESYNC_CHUNK of a copy completes (R401): every region, or the billing registers and the balance state alone (R408). -/
inductive Resync where
  | all (fromTick : Nat) (img : Persist) (links : LinkImage) (recs : List SBody) (rec0 rec1 : Option ImageSet)
  | classB (brt : Tbl Brt) (bal : Balance)
  deriving DecidableEq, Repr

/-- An IMAGE message: a campaign's image (slot, hash, length), or a configuration package that the ACTIVE has accepted. -/
inductive PeerImage where
  | campaign (slot : Fin 8) (hash len : Nat)
  | graph (g : GraphImage)
  | rules (p : RulesPkg)
  | calendar (p : CalPkg)
  | topology (p : TopoPkg)
  | access (p : AccessPkg)
  deriving DecidableEq, Repr

end Sys2Proof.Machine
end

