-- ==== Sys2Proof/Syntax.lean ====
section
/-! DEFINITION. The commands of the block: one constructor per row of the opcode table, with its operands. -/

namespace Sys2Proof
open Sys2Proof.Machine

/-- The commands. Each docstring names the rule of its row. A GMI command carries its request `r`. -/
inductive Instr where
  /-- R521. Supplies come up and the vault releases the trunk die, which starts the boot. -/
  | powerOn (recOk : Bool) (rom : Nat)
  /-- R521. The boot loader has been read and measured, and the Warden starts. -/
  | wardenBoot (loader : Nat)
  /-- R521. Gamokor and the stream microcode are decrypted and measured, KEKs are derived, and MB0 and MB1 accept ENABLE. -/
  | mailboxReady (gamokor : Nat) (microcode : Nat)
  /-- R330. The store loads maps and checkpoints and applies committed after-images to restore state. -/
  | storeRestart (badPage : Option Nat)
  /-- R521. Restart completes and BOOT_STAGE reaches SERVICE. -/
  | fullService
  /-- R515. PFW_N has been low for 10 µs and the shutdown sequence runs. -/
  | pfwNFall (closeDone : Bool) (stagingDone : Bool)
  /-- R517. PFW_N returns high with supplies in limits, and the vault power-cycles the engine after 100 ms. -/
  | pfwNReturn
  /-- R517. REFCLK is lost for more than 2 µs, which is handled as a power loss. -/
  | refclkLoss (closeDone : Bool) (stagingDone : Bool)
  /-- R514. A supply leaves its limits, which is treated as a fall of PFW_N. -/
  | supplyExcursion (supply : Fin 13) (closeDone : Bool) (stagingDone : Bool)
  /-- R520. RST_N is held low for 1 µs or more and resets every die except the vault. -/
  | rstN
  /-- R519. PERST_N resets the PCIe link and both functions' attachments. -/
  | perstN
  /-- R439. A Function Level Reset resets only that function's host attachment. -/
  | functionLevelReset (fn : Fin 2)
  /-- R181. A tamper monitor trips, and the vault zeroises the taproot and sets TAMPERED. -/
  | tamperTrip (monitor : Fin 8)
  /-- R519. No trunk service request reaches the vault for 1 s, and the engine resets. -/
  | vaultWatchdog
  /-- R522. A boot image fails its hash or its decryption, and the boot is retried or held. -/
  | bootFailure
  /-- R460. An error of some class is detected, written to the trouble log and captured if it is the first. -/
  | hardwareError (e : ErrRep)
  /-- R462. The error handler has run for more than 2 ms, which is a double fault. -/
  | handlerWatchdog (pc : Word32)
  /-- R463. The active Warden pair halts and the idle HEALTHY pair takes over, or the vault resets. -/
  | doubleFault (memory : Bool) (pc : Word32)
  /-- R463. A WARDEN-class error in the idle pair starts its lockstep self-test. -/
  | idlePairError (memory : Bool) (pc : Word32)
  /-- R463. A Warden pair's self-test ends, and the pair becomes HEALTHY idle or is withdrawn. -/
  | pairSelftestDone (pairB : Bool) (pass : Bool)
  /-- R460. Writing 1 to FIRST_INFO.VALID acknowledges a capture set and clears VALID and COUNT. -/
  | firstInfoAck (fn : Fin 2) (cls : Fin 18)
  /-- R38. A Tick boundary numbers the new Tick, applies pending changes and starts closing work. -/
  | tickBoundary (latch : List (Nat × List TickPhase))
  /-- R41. The closing work of the Tick just ended runs in its fixed order. -/
  | tickClose
  /-- R17. Writing TIME_CTRL.SNAP latches ET, MC, the Tick number and both domain times into the function's bank. -/
  | timeSnap (fn : Fin 2)
  /-- R18. The servo owner writes an increment register, which is clamped and takes effect two cycles later. -/
  | incrWrite (fn : Fin 2) (reg : Fin 3) (part : RegPart) (value : Word64)
  /-- R19. A 32-bit write to the low half of ADJ_A or ADJ_B is held in the latch. -/
  | adjLowWrite (fn : Fin 2) (d : Dom) (value : Word32)
  /-- R19. A 64-bit or high-half write to ADJ_A or ADJ_B steps the domain time. -/
  | adjWrite (fn : Fin 2) (d : Dom) (highOnly : Bool) (value : Word64)
  /-- R500. The servo owner changes TIME_CTRL.SLEW_EN, which turns the slew term on or off. -/
  | slewEnWrite (fn : Fin 2) (value : Word64)
  /-- R24. A Sync message is received in a slave domain and drives the servo and the domain state. -/
  | ptpSyncRx (d : Dom) (m : SyncMsg)
  /-- R534. An Announce message enters the best master clock algorithm of a domain. -/
  | ptpAnnounceRx (d : Dom) (a : Announce)
  /-- R24. The selected master's announce receipt timeout expires, and the domain moves to HOLDOVER or LISTENING. -/
  | announceReceiptTimeout (d : Dom)
  /-- R22. A Delay_Resp completes an end-to-end delay measurement. -/
  | ptpDelayRespRx (d : Dom) (pathNs : Nat)
  /-- R22. The engine answers a Pdelay_Req received on the port. -/
  | pdelayReqRx (d : Dom)
  /-- R22. A Pdelay response completes a peer delay measurement. -/
  | pdelayRespRx (d : Dom) (pathNs : Nat)
  /-- R22. A management message is received and counted, not answered. -/
  | ptpManagementRx (port : Fin 4)
  /-- R23. The boundary-clock master on ETH_D sends Sync at its interval. -/
  | ptpMasterSyncSend
  /-- R23. The boundary clock sends Announce on ETH_D with the clockClass of the ET state. -/
  | ptpMasterAnnounceSend
  /-- R23. A cell's Delay_Req on ETH_D is answered by the master. -/
  | ptpDelayReqRx (cell : Fin 1024)
  /-- R27. Under AUTO the selected domain has been out of LOCKED for the holdoff, and ET switches domains. -/
  | autoHoldoffExpiry
  /-- R33. HOLDOVER has lasted beyond the limit, so UNSYNCED is set and posted. -/
  | holdoverLimitExpiry
  /-- R21. The host servo watchdog expires, and ownership returns to WARDEN. -/
  | hostWatchdogExpiry
  /-- R13. While ET is TRACKING, Gamokor writes ET to the vault RTC every 64 s. -/
  | rtcWrite
  /-- R35. ET reaches a held head frame's launch time, and the frame is released or judged late. -/
  | launchTimeReached (e : LaunchAt)
  /-- R50. A zero-cross detector reports a crossing, which updates its state and prediction. -/
  | zcCrossing (det : Fin 4) (et : Nat)
  /-- R50. 50 ms pass without a crossing, and the detector enters LOST. -/
  | zcSilence (det : Fin 4)
  /-- R58. A coordinated superframe starts on a channel or cell port. -/
  | superframeBoundary (lp : Fin 4112)
  /-- R71. Loopback decoding of a sent beacon completes and may set BEACON_IMPAIRED. -/
  | beaconVerify (ch : Fin 16) (ok : Bool) (snr : Int)
  /-- R64. A contention-free slot starts, with its receive or transmit timing. -/
  | slotStart (ch : Fin 16) (slot : Nat)
  /-- R66. A coordinated frame is received, admitted and acknowledged, or refused with NACK. -/
  | plcFrameRx (ch : Fin 16) (f : PlcRx)
  /-- R48. A member's ACK for an engine downlink frame is received. -/
  | plcAckRx (ch : Fin 16) (seq : BitVec 8)
  /-- R69. A member's NACK triggers a retransmission under zone overrides. -/
  | plcNackRx (ch : Fin 16) (seq reason zoneFault retxSlot : BitVec 8)
  /-- R68. The slot ends without an ACK, and the sender retries or gives up. -/
  | plcAckTimeout (ch : Fin 16) (seq : BitVec 8)
  /-- R72. A member's JOIN_REQ is answered with GRANT frames. -/
  | joinReqRx (lp : Fin 4112) (src : Sender) (micOk : Bool) (snr : Int)
  /-- R75. A NEIGHBOUR_REPORT updates the neighbour SNRs used by repeater selection. -/
  | neighbourReportRx (lp : Fin 4112) (src : Word16) (micOk : Bool) (l : List (Word16 × Int))
  /-- R57. A member's TONE_MAP_UPDATE is applied to an engine transmit link. -/
  | toneMapUpdateRx (lp : Fin 4112) (src frm : Word16) (micOk : Bool) (a : TmArg)
  /-- R65. A member's KEEPALIVE in its grant is received. -/
  | keepaliveRx (lp : Fin 4112) (src : Word16) (micOk : Bool)
  /-- R47. A G.9903 compatibility frame is received and served. -/
  | plcCompatFrameRx (ch : Fin 16) (f : PlcRx)
  /-- R47. A G.9903 beacon request is answered. -/
  | beaconRequestRx (ch : Fin 16)
  /-- R47. A LOADng RREQ addressed to the engine is answered with RREP. -/
  | rreqRx (ch : Fin 16) (forEngine : Bool)
  /-- R47. A G.9903 tone-map request is answered. -/
  | toneMapRequestRx (ch : Fin 16)
  /-- R47. An LBP/EAP-PSK bootstrap message is served by the engine as server. -/
  | lbpBootstrapRx (ch : Fin 16) (eui : Word64) (completes : Bool)
  /-- R89. An RF timeslot starts: the strobe is sent, and the cell is served. -/
  | timeslotStart (port : Fin 4)
  /-- R84. A received RF frame is filtered, counter-checked, verified, admitted and acknowledged. -/
  | rfFrameRx (port : Fin 4) (f : RfRx)
  /-- R93. A meter's Enhanced ACK is received and updates its drift bound. -/
  | rfEnhancedAckRx (port : Fin 4) (seq : BitVec 8) (micOk nack : Bool) (offsetNs : Int)
  /-- R96. A transmission or resync frame goes unacknowledged, which counts toward resync_tries. -/
  | rfAckTimeout (port : Fin 4) (seq : BitVec 8) (child : Option (Fin 1048576))
  /-- R83. A 6P response to ADD, DELETE, RELOCATE or CLEAR is received. -/
  | sixtopResponseRx (port : Fin 4) (src : Sender) (micOk ok : Bool)
  /-- R83. A 6P COUNT or LIST request is answered. -/
  | sixtopRequestRx (port : Fin 4) (src : Sender) (micOk list : Bool)
  /-- R100. No sample arrives for 8 periods, and frames in progress are aborted. -/
  | iqGap (port : Fin 4) (receiving sending : Bool)
  /-- R101. A gap exceeds 100 ms, and the port becomes STALLED. -/
  | iqStall (port : Fin 4)
  /-- R100. Samples return, and a new epoch and anchor are captured. -/
  | iqResume (port : Fin 4)
  /-- R111. A verified CELL_HELLO is answered, bringing the cell UP. -/
  | cellHelloRx (c : Fin 1024) (h : KclHdr) (b : HelloBody)
  /-- R110. A CELL_STATUS reports the cell's state, buffers and crossings. -/
  | cellStatusRx (c : Fin 1024) (h : KclHdr) (b : CellStatusBody)
  /-- R112. An UP_FRAME within credit is received for CELL_RX. -/
  | upFrameRx (c : Fin 1024) (h : KclHdr) (dnum : Word32) (b : UpBody)
  /-- R295. A CELL_MEASURE report is received for the balance unit. -/
  | cellMeasureRx (c : Fin 1024) (h : KclHdr) (dnum : Word32) (b : MeasBody)
  /-- R125. BACKLOG_BEGIN opens or reopens a backlog session. -/
  | backlogBeginRx (c : Fin 1024) (h : KclHdr) (dnum id first : Word32)
  /-- R124. A backlog chunk is passed in order, discarded or held. -/
  | backlogChunkRx (c : Fin 1024) (h : KclHdr) (dnum id chunk : Word32) (recs : List UpBody)
  /-- R125. BACKLOG_END closes the backlog session. -/
  | backlogEndRx (c : Fin 1024) (h : KclHdr) (dnum id chunks : Word32)
  /-- R121. A cell's TIME_ALIGN answer is checked against the offset limit. -/
  | timeAlignRx (c : Fin 1024) (h : KclHdr) (ptpState : Fin 3) (offsetNs : Int)
  /-- R115. A cell's CREDIT carries acknowledgements and transmit REPORTs. -/
  | creditRx (c : Fin 1024) (h : KclHdr) (b : CreditBody)
  /-- R109. No verified message for kcl.silence_ms moves the cell to SILENT. -/
  | cellSilence (c : Fin 1024)
  /-- R112. An unacknowledged downlink message is resent after kcl.rto_ms. -/
  | kclRto (c : Fin 1024) (dnum : Word32)
  /-- R125. A backlog session idle for kcl.backlog_timeout_s is closed. -/
  | backlogTimeout (c : Fin 1024)
  /-- R125. A remembered backlog ID is forgotten after kcl.backlog_keep_s. -/
  | backlogKeepExpiry (c : Fin 1024) (id : Word32)
  /-- R121. A periodic TIME_ALIGN is sent to a cell. -/
  | timeAlignSend (c : Fin 1024)
  /-- R117. A BEACON_DESC is sent kcl.desc_lead_ms before its beacon's launch. -/
  | descriptorSend (c : Fin 1024) (port : Fin 4)
  /-- R112. The engine sends CREDIT with acknowledgements and limits. -/
  | creditSend (c : Fin 1024)
  /-- R150. A meter session slot idle for meter_idle_s closes. -/
  | sessionIdleExpiry (slot : Fin 16384)
  /-- R150. A meter session slot reaching meter_life_s closes. -/
  | sessionLifeExpiry (slot : Fin 16384)
  /-- R150. A TLS slot without records for tls_idle_s closes. -/
  | tlsIdleExpiry (sess : Nat)
  /-- R154. A Tick's share of bulk package records is provisioned. -/
  | bulkLoadRecords
  /-- R172. A quarantined frame held for quarantine_hold_s is discarded. -/
  | quarantineExpiry
  /-- R197. A free stream core requests work and is given a ready lane or blocks. -/
  | coreWorkRequest (core : Fin 64)
  /-- R197. A dispatch ends, cells are released, and the lane re-enters its ready list. -/
  | dispatchEnd (core : Fin 64)
  /-- R198. A dispatch runs beyond BATCH_MAX × 200 µs, and a SCHED entry is written. -/
  | dispatchBoundExceeded (core : Fin 64)
  /-- R195. A checked graph is activated at a Tick boundary, and old edges start draining. -/
  | graphActivation
  /-- R195. The drain of old edges ends, and leftover items are FLUSHED. -/
  | graphDrainEnd
  /-- R203. The Tick's journal reaches the limit, and every source is under pressure. -/
  | journalLimitReached
  /-- R201. A TLS send window stays full for export_stall_ms, and emission stops. -/
  | exportStall (exp : Nat) (on : Bool)
  /-- R190. A LINK_RX dispatch takes admitted frames from a local link. -/
  | linkRx (core : Fin 64)
  /-- R190. A CELL_RX dispatch takes verified KCL uplink and splits chunks. -/
  | cellRx (core : Fin 64)
  /-- R200. A PORT_RX dispatch takes head-end requests for meter work. -/
  | portRx (port : Fin 2) (sess : Nat) (mcx : Fin 1048576) (bytes : Nat)
  /-- R129. A DEFRAG dispatch reassembles fragments and looks up the context. -/
  | defrag (core : Fin 64)
  /-- R141. A DECRYPT_VERIFY dispatch applies the window pre-test and verifies frames. -/
  | decryptVerify (core : Fin 64) (lane : Fin 16)
  /-- R141. A REPLAY_CHECK dispatch commits the window test-and-set. -/
  | replayCheck (core : Fin 64)
  /-- R190. A PARSE_APDU dispatch splits APDUs into readings, events and responses. -/
  | parseApdu (core : Fin 64)
  /-- R190. A CONTEXT_UPDATE dispatch updates LAST_RX, LAST_REGS and context state. -/
  | contextUpdate (core : Fin 64)
  /-- R216. A VALIDATE dispatch checks and places an APDU's intervals and register reads. -/
  | validate (core : Fin 64)
  /-- R229. An ESTIMATE dispatch makes estimates, interpolations and re-spreads. -/
  | estimate (core : Fin 64)
  /-- R225. A sweep point is reached, and missing intervals are estimated. -/
  | gapSweep
  /-- R246. A BILL_POST dispatch posts DELTA under the rate in force. -/
  | billPost (core : Fin 64)
  /-- R250. A DEMAND dispatch adds energy to demand windows and completes them. -/
  | demand (core : Fin 64)
  /-- R253. The close sweep of a boundary closes the periods of meters still open. -/
  | closeSweep
  /-- R299. A BALANCE_ACCUM dispatch adds DELTA and coverage to nodes. -/
  | balanceAccum (core : Fin 64)
  /-- R301. An interval's cutoff is reached, and node balances are computed. -/
  | balanceCutoff
  /-- R293. A checked topology takes effect at its first interval end. -/
  | topologyActivation
  /-- R307. A PHASE_CORR dispatch updates correlations and may propose a phase. -/
  | phaseCorr (core : Fin 64)
  /-- R312. The day's scoring sweep updates suspicion scores. -/
  | scoringSweep
  /-- R324. A STORE_APPEND dispatch hands records to the journal stream. -/
  | storeAppend (core : Option (Fin 64))
  /-- R491. An EXPORT_STREAM dispatch emits Dyllisan records to export sessions. -/
  | exportStream (core : Option (Fin 64))
  /-- R190. An ALARM dispatch sends events to export and to the recorder. -/
  | alarm (core : Option (Fin 64))
  /-- R385. A CAMPAIGN_TRACK dispatch advances meters through campaign steps. -/
  | campaignTrack (core : Option (Fin 64))
  /-- R385. A meter silent for camp.meter_timeout_h is FAILED with TIMEOUT. -/
  | campaignMeterTimeout (m : Fin 1048576)
  /-- R146. A DOWNLINK_BUILD dispatch builds APDUs and reserves DOWN_IC. -/
  | downlinkBuild (core : Fin 64)
  /-- R176. An ENCRYPT dispatch protects downlink and holds new-generation frames. -/
  | encrypt (core : Fin 64) (lane : Fin 16)
  /-- R190. A LINK_TX dispatch places frames on egress queues with launch times. -/
  | linkTx (core : Fin 64)
  /-- R275. A tap's tracking source gives an accepted rising crossing, which starts a new resampler cycle. -/
  | tapCrossing (tap : Fin 16) (et : Nat) (phases : List CyclePhase)
  /-- R278. A response fade completes, and any pending request starts. -/
  | fadeEnd (c : Fin 96)
  /-- R280. Four missing sample periods put a channel in CHAIN_GAP. -/
  | chainGap (c : Fin 96) (firstMc : Nat)
  /-- R282. A sample returns, the chain state is cleared, and SETTLING starts. -/
  | chainGapEnd (c : Fin 96) (durNs : Nat)
  /-- R282. SETTLING ends, and the channel is RUNNING. -/
  | settlingEnd (c : Fin 96)
  /-- R325. The stripe holding a commit entry is programmed, and that Tick is durable. -/
  | journalDurable
  /-- R326. Journal records are folded into their class's TLC superblock. -/
  | fold (count : Nat)
  /-- R323. A promoted unit without writes for 24 hours is demoted. -/
  | unitDemotion (unit : Nat)
  /-- R337. The free list falls below start_free, and GC passes begin. -/
  | gcStart
  /-- R338. A copied unit is fully programmed and remapped, and the emptied victim is erased. -/
  | gcUnitCommit
  /-- R339. A program fails in a GC target, which is closed and redirected. -/
  | gcProgramFail (die : Fin 4)
  /-- R329. A checkpoint sweep completes, and the next one starts. -/
  | checkpointSweepEnd
  /-- R321. At a day window's first boundary, expired windows are deleted. -/
  | retentionDelete
  /-- R340. Free space falls below reclaim_free_gib, and the oldest windows are deleted. -/
  | reclaim
  /-- R332. A page is rebuilt from parity or lost. -/
  | pageUncorrectable (slot : Fin 5320) (die : Fin 4) (page : Fin 1536) (second : Bool)
  /-- R333. A NAND die is declared lost, and the store enters 3-die mode. -/
  | dieLost (die : Fin 4)
  /-- R333. Migration into 3-die superblocks completes. -/
  | migrationEnd
  /-- R353. A record reaches the recorder's write port and is written and read back. -/
  | recordWrite (res : RecWrite)
  /-- R394. A HEARTBEAT is sent on ETH_C every 1 ms. -/
  | heartbeatSend
  /-- R395. A peer HEARTBEAT updates the peer role, DELTA_ACK and swap flags. -/
  | heartbeatRx (h : KclHdr) (b : Heartbeat)
  /-- R396. A valid heartbeat pin period is decoded as the peer's role. -/
  | hbInPeriod (lenNs highNs : Nat)
  /-- R397. A peer path is silent for 5 ms, and PEER_LOST is posted. -/
  | pathSilence (pin : Bool)
  /-- R403. A STANDBY hears nothing for 30 ms, and promotes or enters HELD. -/
  | promoteTimeout
  /-- R403. An ACTIVE hears nothing for 40 ms and demotes to HELD. -/
  | demoteTimeout
  /-- R400. The STANDBY applies a delta and shadow-computes billing and balance. -/
  | deltaRx (h : KclHdr) (d : Delta)
  /-- R401. A RESYNC_CHUNK is copied into a region of the replica. -/
  | resyncChunkRx (h : KclHdr) (done : Option Resync)
  /-- R399. A forwarded configuration package or campaign image is checked and staged. -/
  | peerImageRx (h : KclHdr) (img : PeerImage)
  /-- R456. A GMI message of MB4 arrives in a peer-link frame. -/
  | peerGmiRx (h : KclHdr) (tag : Word16) (ndesc : Nat) (note : ReadyNote)
  /-- R392. No peer is heard for boot_wait_ms, and the engine promotes or enters HELD. -/
  | bootWaitExpiry
  /-- R411. A planned swap falls due, and a quiet Tick is sought or the swap deferred. -/
  | swapDue
  /-- R412. At the quiet boundary, the ACTIVE sends its final delta and demotes to STANDBY. -/
  | swapBoundary
  /-- R413. The post-swap verification period ends. -/
  | swapVerifyEnd
  /-- R409. A crypto unit runs its known-answer test, and is withdrawn if it fails. -/
  | katRun (unit : Fin 20) (pass : Bool)
  /-- R409. Idle SRAM is scrubbed, and errors are corrected or withdrawn. -/
  | scrubPass (corr : Nat) (lost : List Nat)
  /-- R375. The update holder is idle for lock_idle_s, and the lock is released. -/
  | updLockIdleExpiry
  /-- R377. Staging verification ends with STAGED or IMAGE_INVALID. -/
  | updVerifyDone (fail : Option (Fin 9)) (graph : Option GraphImage) (rules : List RulesPkg)
  /-- R378. Warden pair B has booted and loaded the handover state. -/
  | pairBReady (ok : Bool)
  /-- R178. The re-wrapped key bank's checkpoint is durable. -/
  | rewrapDone (ok : Bool)
  /-- R378. The idle boot bank is written and read back, and the image-set record is stored. -/
  | bootBankWritten (ok : Bool)
  /-- R379. At the graft boundary, the vault commits and the new image set takes over. -/
  | graft
  /-- R381. Preparation misses graft_timeout_s, and the update reverts to STAGED. -/
  | graftTimeout
  /-- R380. Pair A boots the new Gamokor and becomes idle, and the update completes. -/
  | pairAReady
  /-- R446. The host writes a new request producer index. -/
  | mbDoorbell (fn : Fin 2) (m : Fin 8) (producer : Word32) (note : ReadyNote)
  /-- R452. Setting MB_CTRL.ENABLE zeroes the indices and starts the mailbox. -/
  | mbEnable (fn : Fin 2) (m : Fin 8)
  /-- R452. Clearing ENABLE stops the taking of requests and discards later answers. -/
  | mbDisable (fn : Fin 2) (m : Fin 8)
  /-- R447. The host advances the response consumer index, which frees room. -/
  | mbRspTail (fn : Fin 2) (m : Fin 8) (index : Word32)
  /-- R451. The host advances the event consumer index, and waiting FINAL events are written. -/
  | mbEvtTail (fn : Fin 2) (m : Fin 8) (index : Word32)
  /-- R445. A request chain's next message is not ready within 1 s, and it is answered BAD_PARAM. -/
  | chainTimeout (m : Fin 8)
  /-- R453. A TLS handshake completes, and the session is bound to a mailbox. -/
  | tlsHandshakeDone (port : Fin 2) (identity : Word32) (anchor : Option Word32)
  /-- R455. A TLS session closes, with its export, and its answers are discarded. -/
  | tlsSessionClose (sess : Nat)
  /-- R188. A KeyUpdate is sent after the record limit or answered when received. -/
  | tlsKeyUpdate (sess : Nat) (received : Bool)
  /-- R454. A GMI tunnel frame carries a request into the bound mailbox ring. -/
  | tunnelGmiFrame (sess : Nat) (tag : Word16) (ndesc : Nat) (note : ReadyNote)
  /-- R454. A KEEPALIVE tunnel frame is received. -/
  | tunnelKeepalive (sess : Nat)
  /-- R454. A malformed tunnel frame closes the session with decode_error. -/
  | tunnelFrameInvalid (sess : Nat)
  /-- R441. The host clears a pending bit, which re-sets if its condition holds. -/
  | intPendClear (fn : Fin 2) (which : Fin 66) (mask : Word64)
  /-- R493. A write to a register without behaviour of its own, judged for violations. -/
  | registerWrite (fn : Fin 2) (offset size : Nat) (value : Word64)
  /-- R458. A read of an undecoded, world-mismatched or misaligned offset is answered with an error and logged. -/
  | pcieReadViolation (fn : Fin 2) (offset size : Nat)
  /-- R494. A 32-bit low-half read latches the high half into the function's shadow. -/
  | shadowHalfRead (fn : Fin 2) (offset : Nat)
  /-- R420. OPEN reserves an item's length slot. -/
  | qOpen (fn : Fin 2) (q : Fin 2048)
  /-- R420. PUSH appends one word to the writer's open item. -/
  | qPush (fn : Fin 2) (q : Fin 2048) (value : Word64)
  /-- R420. CLOSE writes header word 0 and makes the item visible. -/
  | qClose (fn : Fin 2) (q : Fin 2048) (value : Word64)
  /-- R421. POP returns the next word of the oldest closed item. -/
  | qPop (fn : Fin 2) (q : Fin 2048)
  /-- R422. Writing FLUSH empties the queue and discards open items. -/
  | qFlush (fn : Fin 2) (q : Fin 2048)
  /-- R423. Setting ENABLE lets the queue accept writes. -/
  | qEnable (fn : Fin 2) (q : Fin 2048)
  /-- R423. Clearing ENABLE flushes the queue. -/
  | qDisable (fn : Fin 2) (q : Fin 2048)
  /-- R417. PF0 moves a disabled queue between FREE, SECURE and NORMAL. -/
  | qOwnerWrite (fn : Fin 2) (q : Fin 2048) (owner : Fin 4)
  /-- R495. Reading Q_WATERMARK returns and clears PEAK_CELLS. -/
  | peakCellsRead (fn : Fin 2) (q : Fin 2048) (full : Bool)
  /-- R427. START begins a channel's descriptor chain. -/
  | dmaStart (fn : Fin 2) (n : Fin 32)
  /-- R434. RESTART resumes a HALTED channel's faulting operation. -/
  | dmaRestart (fn : Fin 2) (n : Fin 32)
  /-- R434. ABORT ends the chain with an ABORTED record. -/
  | dmaAbort (fn : Fin 2) (n : Fin 32)
  /-- R432. Writing DMA_CR_BASE while IDLE sets the ring base and zeroes HEAD and TAIL. -/
  | dmaCrBaseWrite (fn : Fin 2) (n : Fin 32) (value : Word64)
  /-- R432. Advancing TAIL frees ring room for a channel in WAIT_RING. -/
  | dmaCrTailWrite (fn : Fin 2) (n : Fin 32) (value : Word32)
  /-- R431. A descriptor's transfer completes, and its record and interrupt follow. -/
  | dmaDescriptorDone (n : Fin 32) (d : DmaDesc) (items : List (List Nat))
  /-- R433. A transfer fault or failed descriptor check halts the channel. -/
  | dmaFault (n : Fin 32) (code : Status) (dir : Fin 4) (addr offset : Nat) (descId : Word16)
  /-- R502. An Ethernet port's PCS lock or fault state changes. -/
  | ethLinkChange (port : Fin 4) (lock localFault remoteFault : Bool)
  /-- R502. A PAUSE or PFC frame from the link partner pauses transmission. -/
  | pauseRx (port : Fin 4) (f : PauseFrame)
  /-- R473. Returns DEVICE_ID, part, BMR and image versions. -/
  | getIdentity (r : Req)
  /-- R473. Returns the engine's capacity counts. -/
  | getCaps (r : Req)
  /-- R473. Returns the reset cause, the HEALTH word and status words. -/
  | getHealth (r : Req)
  /-- R472. Sets one parameter for the next boundary. -/
  | setParam (r : Req) (p : ParamArg)
  /-- R472. Returns one parameter in force. -/
  | getParam (r : Req) (name : Option ParamId)
  /-- R519. Resets the engine after the shutdown, optionally clearing safe hold. -/
  | resetEngine (r : Req) (flags : Word32) (closeDone stagingDone : Bool)
  /-- R474. Returns the lifecycle state and draws a new challenge. -/
  | getLifecycle (r : Req)
  /-- R184. Moves the lifecycle along a permitted transition. -/
  | advanceLifecycle (r : Req) (target : BitVec 8) (handle : Word32) (sig : Option Bool)
  /-- R475. Returns ET, MC, the Tick number and the time state. -/
  | timeGet (r : Req)
  /-- R42. Configures one PTP domain. -/
  | timeConfigDomain (r : Req) (domain enable profile port transport number : BitVec 8)
  /-- R27. Chooses which domain ET follows. -/
  | timeSelect (r : Req) (select : BitVec 8)
  /-- R31. Steps ET by a signed amount at the next boundary. -/
  | calendarStep (r : Req) (stepNs : Word64)
  /-- R475. Returns the domain states and servo state. -/
  | timeStatus (r : Req)
  /-- R20. Transfers servo ownership to HOST_SECURE or returns it to WARDEN. -/
  | servoOwner (r : Req) (owner : BitVec 8)
  /-- R476. Sets a link's parameters together at the link's boundary. -/
  | linkConfigure (r : Req) (link : Word16) (port : BitVec 8) (params : List ParamArg)
  /-- R476. Returns a link's state and counters. -/
  | linkStatus (r : Req) (link : Word16)
  /-- R77. Forms or dissolves a PLC lock group. -/
  | linkLockGroup (r : Req) (group count : BitVec 8) (channels : List (BitVec 8))
  /-- R476. Returns a hop link's tone maps and fault counts. -/
  | plcTonemapGet (r : Req) (link : Word16) (port : BitVec 8) (frm upTo : Word16)
  /-- R88. Installs an RF port's slotframe and hop sequence. -/
  | rfScheduleSet (r : Req) (port : BitVec 8) (tsUs : Word32) (sfLen : Word16) (hop : List (BitVec 8))
  /-- R108. Admits a cell and takes its session slot. -/
  | cellAdmit (r : Req) (cell : Word16) (ports bands : BitVec 8) (key : Word32) (addr : Nat) (flags : BitVec 8)
  /-- R108. Releases a cell, its messages, slot and grants. -/
  | cellRelease (r : Req) (cell : Word16)
  /-- R154. Provisions one meter context from a record. -/
  | ctxProvision (r : Req) (importKek : Word32) (rec : ProvRec)
  /-- R139. Returns an MCT entry as it stands in the cache. -/
  | ctxGet (r : Req) (mcx : Word32)
  /-- R131. Changes permitted entry fields or resumes a suspended meter. -/
  | ctxUpdate (r : Req) (mcx updSeq : Word32) (mask cls cal : BitVec 8) (topo : Word16) (feeder flags : BitVec 8)
  /-- R132. Suspends a meter context. -/
  | ctxSuspend (r : Req) (mcx : Word32)
  /-- R134. Retires a meter context, or releases it with RELEASE. -/
  | ctxRetire (r : Req) (mcx flags : Word32)
  /-- R154. Starts provisioning of a bulk package by DMA. -/
  | ctxBulkLoad (r : Req) (pkg : Fetch BulkPkg)
  /-- R477. Finds contexts by EUI-64, link address or filter. -/
  | ctxQuery (r : Req) (by_ mask : BitVec 8) (link : Word16) (port : BitVec 8) (short : Word16) (eui cursor : Word64)
  /-- R185. Imports a wrapped key into a general slot. -/
  | keyImportWrapped (r : Req) (a : ImportArg)
  /-- R182. Generates a key, or regenerates the taproot after tamper. -/
  | keyGenerate (r : Req) (target : Word32) (a : KeyAttr)
  /-- R170. Invalidates a key and its whole lineage. -/
  | keyInvalidate (r : Req) (h : Word32)
  /-- R174. Installs, commits or cancels pending meter keys. -/
  | keyRotateMeter (r : Req) (mcx : Word32) (mask op : BitVec 8) (kek : Word32) (wUc wAk wBk : Option Wrapped)
  /-- R164. Returns a key's attribute record. -/
  | keyAttrGet (r : Req) (h : Word32)
  /-- R185. Returns a public key whose PUBLIC_EXPORT flag is set. -/
  | keyExportPublic (r : Req) (h : Word32)
  /-- R194. Fetches and checks a graph image for activation. -/
  | graphLoad (r : Req) (img : Fetch GraphImage)
  /-- R480. Returns the graph in force and its drain state. -/
  | graphStatus (r : Req)
  /-- R208. Installs a validation rule table for a class. -/
  | rulesLoad (r : Req) (pkg : Fetch RulesPkg)
  /-- R480. Returns scheduler registers and per-instance records. -/
  | schedStats (r : Req) (firstNode count : Word16)
  /-- R481. Reads a COSEM-modelled object. -/
  | objGet (r : Req) (o : ObjRef) (d : ObjData)
  /-- R264. Writes one of the permitted object attributes. -/
  | objSet (r : Req) (o : ObjRef) (d : ObjData)
  /-- R264. Invokes one of the permitted object methods. -/
  | objAction (r : Req) (o : ObjRef) (d : ObjData)
  /-- R243. Fetches and checks a calendar package into a calendar. -/
  | calendarLoad (r : Req) (pkg : Fetch CalPkg)
  /-- R244. Returns a calendar's parts, boundaries and unclosed meters. -/
  | calendarStatus (r : Req) (calendar : BitVec 8)
  /-- R255. Closes a calendar's or one meter's period now. -/
  | billingCloseNow (r : Req) (kind : BitVec 8) (ident : Word32)
  /-- R265. Installs a signed access table. -/
  | accessTableLoad (r : Req) (pkg : Fetch AccessPkg)
  /-- R288. Configures a tap and its channels for the next boundary. -/
  | tapConfigure (r : Req) (tap : BitVec 8) (params : List ParamArg)
  /-- R278. Requests a response change with a fade on chosen channels. -/
  | chainSelectResponse (r : Req) (channels : BitVec 96) (response : BitVec 8) (fadeLen : Word16)
  /-- R292. Fetches and checks a topology package. -/
  | topologyLoad (r : Req) (pkg : Fetch TopoPkg)
  /-- R304. Returns balance records for nodes and a span. -/
  | balanceReport (r : Req) (node : Word16) (flags : BitVec 8) (fromEnd toEnd cursor : Word64)
  /-- R309. Returns phase identification entries of a node's meters. -/
  | phaseReport (r : Req) (node : Word16) (flags : BitVec 8) (cursor : Word64)
  /-- R313. Returns suspicion-table entries. -/
  | suspicionReport (r : Req) (kind minScore : BitVec 8) (node : Word16) (cursor : Word64) (mcxs : List Word32)
  /-- R483. Returns the store registers and per-class retention state. -/
  | storeStatus (r : Req)
  /-- R345. Sets store parameters together. -/
  | storeConfigure (r : Req) (params : List ParamArg)
  /-- R483. Returns stored records by class, MCX range and windows. -/
  | storeReadSeries (r : Req) (cls : BitVec 8) (mcxLo mcxHi winFrom winTo : Word32) (cursor : Word64)
  /-- R345. Sets a class's retention days and floor. -/
  | storeRetentionSet (r : Req) (cls : BitVec 8) (days floor : Word16)
  /-- R483. Returns recorder registers and the mailbox's marks. -/
  | recStatus (r : Req)
  /-- R484. Returns held recorder records from a sequence. -/
  | recRead (r : Req) (fromSeq : Word32) (count : BitVec 8)
  /-- R358. Sets a rewind mark's sequence. -/
  | recMarkSet (r : Req) (slot : BitVec 8) (seq : Word32)
  /-- R358. Returns a rewind mark and clears its LOST count. -/
  | recMarkGet (r : Req) (slot : BitVec 8)
  /-- R364. Returns trouble-log entries from an entry number. -/
  | troubleRead (r : Req) (fromEntry : Word32) (maxCount : Word16)
  /-- R374. Checks a manifest and takes the update lock. -/
  | updBegin (r : Req) (man : Manifest)
  /-- R376. Stores one encrypted chunk of the image stream. -/
  | updChunk (r : Req) (chunk : Word32) (len : Nat)
  /-- R377. Starts decryption and hash verification of the staged parts. -/
  | updVerify (r : Req)
  /-- R378. Starts preparation of the graft. -/
  | updActivate (r : Req)
  /-- R375. Ends the update and releases the lock. -/
  | updAbort (r : Req)
  /-- R373. Returns the update state, holder and missing chunks. -/
  | updStatus (r : Req)
  /-- R383. Creates a campaign with its image and targets. -/
  | campCreate (r : Req) (a : CampArg)
  /-- R385. Starts a campaign's transfer to its members. -/
  | campStart (r : Req) (slot : BitVec 8)
  /-- R486. Returns a campaign's per-state counts and members. -/
  | campStatus (r : Req) (slot : BitVec 8) (cursor : Word64)
  /-- R387. Cancels a campaign's non-final members. -/
  | campCancel (r : Req) (slot : BitVec 8)
  /-- R389. Starts pushing a calendar package to meters. -/
  | tariffPush (r : Req) (slot : BitVec 8) (targets : Targets) (pkg : CalPkg)
  /-- R392. Sets the pair mode, peer and key, or requests RESYNC_B. -/
  | pairConfigure (r : Req) (op mode : BitVec 8) (key : Word32) (peerId : BitVec 128)
  /-- R488. Returns the pairing registers. -/
  | pairStatus (r : Req)
  /-- R411. Makes a planned swap due at once. -/
  | pairSwap (r : Req)
  /-- R406. Forces the role to ACTIVE, STANDBY or HELD. -/
  | pairForceRole (r : Req) (role flags : BitVec 8)
  /-- R489. Opens a live or bulk export on the session. -/
  | exportOpen (r : Req) (classes mode : BitVec 8) (mcxLo mcxHi winFrom winTo : Word32)
  /-- R489. Closes an export and returns its last sequence. -/
  | exportClose (r : Req) (id : Word32)
  /-- R488. Returns the state of open exports. -/
  | exportStatus (r : Req) (id : Word32)
  /-- R489. Switches a permitted power domain on or off. -/
  | powerDomainSet (r : Req) (domain on : BitVec 8)
  /-- R488. Runs self-tests of the chosen units. -/
  | diagSelftest (r : Req) (scope : Word32)
  /-- R489. Runs a loopback test on an idle link or port. -/
  | diagLoopback (r : Req) (target : Word16) (mode : BitVec 8) (frames : Word32)
  /-- R276. While a tap is in HOLD, or has never locked, a resampler cycle starts at a predicted crossing spaced by the last or nominal T, closing the energy cycle and writing cycle output. -/
  | predictedCycleStart (tap : Fin 16) (phases : List CyclePhase)
  /-- R149. A TLS ClientHello on ETH_A or ETH_B is taken, and the handshake is refused before the server's first flight when the TLS pool is full or the engine is not ACTIVE. -/
  | tlsHandshakeBegin (port : Fin 2) (identity : Word32)
  /-- R22. A slave domain sends its Delay_Req, or a peer-delay port sends its Pdelay_Req, at its own interval. -/
  | delayReqSend (d : Dom)
  /-- R22. A Follow_Up from a two-step master is received and completes the Sync measurement of the domain. -/
  | followUpRx (d : Dom) (master : Word64) (offsetNs : Int)
  /-- R200. While PORT_RX is under pressure, the port renews its PAUSE with quanta 0xFFFF every 3,000 ns of quanta time. -/
  | pauseRenewal (port : Fin 2)
  /-- R523. A die sensor crosses 105 °C, and ALERT_N is driven low, or released when the temperature falls back. -/
  | dieTemperatureAlert (die : Fin 4) (hot : Bool)
  /-- R488. The self-tests started by DIAG_SELFTEST end, and the final event with their results is posted. -/
  | diagSelftestDone (found : List DiagEntry)
  /-- R489. The loopback frames of DIAG_LOOPBACK have been sent and received, and the final event with counts and latency is posted. -/
  | diagLoopbackDone (sent received errors maxLat : Word32)
  /-- R385. ET reaches a campaign's activation time, and image_activate is sent to its VERIFIED meters. -/
  | campaignActivationTime (slot : Fin 8)
  /-- R325. A full journal stripe without a commit entry finishes programming, which frees staging room and lets a waiting step 3 of closing work proceed. -/
  | stripeProgrammed
  /-- R524. At each whole ET second outside FREE_RUN, PPS_OUT rises and then falls 100 ms later. -/
  | ppsOutEdge (rise : Bool)
  deriving DecidableEq, Repr

end Sys2Proof
end

