-- ==== Sys2Proof/Decode.lean ====
section
/-! DEFINITION. The commands that a word of the opcode table spells. The table gives its rows no bits: commands reach the block
from outside, as register accesses, messages, frames and events, and none of them is spelled by a word. -/

namespace Sys2Proof

/-- The command that `w`, of `nbits` bits, spells by the table: none, since no row has bits. -/
def decodeTableWord (_nbits _w : Nat) : Option Instr := none

end Sys2Proof
end

