-- ==== Sys2Proof/Config.lean ====
section
/-! DEFINITION. The free values: constants without a body for what the manual leaves open or what only a
computation outside the model (a hash, a random source) gives. A claim that holds, holds for every value of them. -/

namespace Sys2Proof.Config
open Sys2Proof

/-- The random source of the vault and other values fresh at each use: applied to `State.freeCtr`. -/
opaque freeValue : Nat → Nat

/-- SHA-384 as the boot measurement register is extended: old value and measured value (R159). -/
opaque extend : Nat → Nat → Nat

/-- The 16-byte digest over numbers that stand for the bytes hashed (R408). -/
opaque digest : List Nat → Nat

/-- Initial analog path latencies of PLC channels: 0 receive, 1 transmit (the manual: they cover the path inside the package). -/
opaque plcLat : Nat → Nat → BitVec 32

/-- Initial I/Q path latencies of RF ports: 0 receive, 1 transmit. -/
opaque rfLat : Nat → Nat → BitVec 32

/-- The transmit gain the analog front end starts with; kept for registers whose path the manual does not state. -/
opaque afeGain : Nat → BitVec 16

/-- What Gamokor's servo writes to an increment register after a Sync: of the register, the offset and the mean path. -/
opaque servoIncr : Nat → Int → Nat → Nat

/-- The step in ns Gamokor's servo gives a domain after a Sync: of the offset and the mean path. -/
opaque servoStep : Int → Nat → Int

/-- Airtime in µs of a frame of so many octets in an RF port's mode (the mode's parameters as a list); the PHY is that
of IEEE 802.15.4, which the manual cites and does not copy (R82, R89). -/
opaque rfAirtime : List Int → Nat → Nat

/-- Airtime in µs of an Enhanced ACK in an RF port's mode (R89). -/
opaque rfAckAirtime : List Int → Nat

/-- TXGAIN of an estimated tone map (R55, R56 state no rule for it): of the link port and the MOD. -/
opaque tmGain : Nat → Nat → Nat

/-- The public point of a private key (R478). -/
opaque pubPoint : Nat → Nat

/-- KEY of an event of the engine as a whole, for which R418 gives no form. -/
opaque keyNone : Nat

/-- A decayed sum of phase identification after an update, as binary32 bits (R307 states no rounding): of its old bits,
the interval length in s, the half-life in h and the two factors added. -/
opaque corrStep : Nat → Nat → Nat → Int → Int → Nat

/-- A correlation of R308 in units of 2^-32: of the bits of SXY, SXX and SYY. -/
opaque corrOf : Nat → Nat → Nat → Int

/-- The value of a binary32 in units of 2^-32, rounded by the engine's own rule. -/
opaque corrWeight : Nat → Nat

/-- EVENT of the record that a reclaim writes (R340 names no code). -/
opaque reclaimEvent : Nat

/-- The places where the manual gives a quotient or a root and states no rounding: ties of a rounding to the nearest;
the mean and variance of R221; the profiles of R227; the daily mean of R312; the drift and uncertainty of R92 and R93; ETX and
metrics (R74, R75); SNR estimates; half periods (R50); voltages and currents (R298); tap energies (R295, R296);
clock skew (R217); the mean wear. -/
inductive Rounding where
  | tie | mean | variance | profile | meanDay | drift | uncertainty | metric | snr | halfPeriod | volt | energy | skew | wear
  deriving DecidableEq, Repr

/-- At such a place, of a numerator and a denominator that leave a remainder: the result lies above the quotient. -/
opaque roundsUp : Rounding → Int → Int → Bool

/-- Whether Gamokor passes over a free superframe offset or slot when it places grants (R63 leaves the choice): of the
free-value counter, the meter and the candidate. -/
opaque grantSkip : Nat → Nat → Nat → Bool

/-- Spare blocks of a die beyond the 141 that R319 gives at least. -/
opaque extraSpares : Nat → Nat

/-- Airtime in µs of a PLC frame of so many bytes in a band (R64); the PHY is that of ITU-T G.9903. -/
opaque plcAirtime : Nat → Nat → Nat

/-- PAIR_SILENCE's halves while no HEARTBEAT (`false`) or pin period (`true`) has been received: of the mission clock. -/
opaque silenceUnheard : Bool → Nat → Nat

/-- The handover version of a Gamokor image (R369, R374), by the number that stands for its hash. -/
opaque handoverOf : Nat → Nat

end Sys2Proof.Config
end

