-- ==== Sys2Proof/Machine/PartsFlow.lean ====
section
/-! DEFINITION. State of the ingestion graph, its edges, its dispatches and the work that its items carry (R190 to R206). -/

namespace Sys2Proof.Machine
open Sys2Proof

/-- How far the graph has brought an application frame. -/
inductive Stage where
  | raw | found | verified | committed | parsed
  deriving DecidableEq, Repr

/-- An application frame in the graph. `link` and `cport` name where it arrived; `rx` is its ingress timestamp (ET ns). -/
structure InFrame where
  f : AppFrame
  link : Nat
  cport : Nat := 0
  rx : Nat
  unsynced : Bool := false
  timeInvalid : Bool := false
  stage : Stage := .raw
  mcx : Option Nat := none
  /-- It verified under the pending set (R175). -/
  underPend : Bool := false
  deriving DecidableEq, Repr

/-- What a downlink item does for a meter. -/
inductive DownTask where
  | request (sess : Nat)
  | campInitiate | campBlock (n : Nat) | campStatus | campVerify | campActivate
  | pushSet | pushPassive | pushActive
  deriving DecidableEq, Repr

/-- Downlink work: for a meter, or for the multicast group of a link and port under a broadcast key's value. -/
structure DownWork where
  mcx : Nat
  task : DownTask
  bytes : Nat := 64
  needsAssoc : Bool := true
  /-- Broadcast to a link and cell port under a broadcast key's value (R386). -/
  group : Option (Nat × Nat × Nat) := none
  /-- After DOWNLINK_BUILD: the invocation counter reserved; after ENCRYPT: protected under this generation. -/
  counter : Option Nat := none
  sealedGen : Option (BitVec 8) := none
  deriving DecidableEq, Repr

/-- What an item carries. -/
inductive Work where
  | frame (f : InFrame)
  | ival (r : IRec)
  /-- A billing snapshot (R254). -/
  | snap (mcx : Nat) (b : Brt)
  /-- A register read adopted (R229): meter, previous and new capture time, register deltas of A+ and A− less the measured
  sums of the span. -/
  | readAdopted (mcx prevNs newNs : Nat) (dAp dAn : Int)
  /-- Interpolated estimates to re-spread (R230): meter, SPAN, the measured values and the estimate replaced. -/
  | respread (mcx span : Nat) (measured est : Qty4)
  | measure (cell : Nat) (m : MeasBody)
  /-- A backlog chunk, which CELL_RX splits into its frames. -/
  | chunk (l : List InFrame)
  | down (d : DownWork)
  deriving DecidableEq, Repr

/-- An item on an edge (R191): its key, its cells, its work. -/
structure Item where
  key : Nat
  cells : Nat
  work : Work
  deriving DecidableEq, Repr

/-- An edge at run time. -/
structure EdgeSt where
  items : List Item := []
  /-- Cells reserved by running dispatches (R196). -/
  reserved : Nat := 0
  /-- Highest number of cells in use since the last read (PEAK_CELLS). -/
  peak : Nat := 0
  deriving DecidableEq, Repr

/-- A lane of an instance. -/
structure Lane where
  node : Nat
  lane : Nat
  deriving DecidableEq, Repr

/-- A dispatch running on a core. -/
structure Run where
  lane : Lane
  type : Nat
  batch : List Item
  taken : Nat
  resv : List (Nat × Nat)
  startMc : Nat
  startTick : Nat
  locks : List Nat := []
  waiting : Option Nat := none
  waitNs : Nat := 0
  waitFrom : Nat := 0
  boundHit : Bool := false
  deriving DecidableEq, Repr

/-- Counters of an instance (SCHED_NODE). Times in ns. -/
structure NodeSt where
  usedNs : Nat := 0
  prevUsedNs : Nat := 0
  dispatches : Nat := 0
  itemsIn : Nat := 0
  overTicks : Nat := 0
  waitNs : Nat := 0
  pressure : Bool := false
  /-- The input edge whose turn it is (R196). -/
  turn : Nat := 0
  deriving DecidableEq, Repr

/-- The graph loaded and checked, waiting for the boundary that ends the Tick given. -/
structure PendGraph where
  img : GraphImage
  tick : Nat
  deriving DecidableEq, Repr

/-- The old graph while it drains (R195): its instances under NODE_ID + 1,024, its edges that did not pass to the new graph
under EDGE_ID + 2,048. -/
structure OldGraph where
  nodes : List GNode
  edges : List GEdge
  deriving DecidableEq, Repr

/-- A Tick that has ended: its number, its span in ET ns as it ran, the ET ns at which the next Tick starts (another where ET
steps there), its journal bytes. -/
structure CloseDue where
  tick : Nat
  fromEt : Nat
  toEt : Nat
  startEt : Nat
  journal : Nat
  deriving DecidableEq, Repr

/-- The scheduler and the graph at run time. -/
structure FlowSt where
  edges : Tbl EdgeSt := []
  nodes : Tbl NodeSt := []
  ready : List Lane := []
  cores : Tbl Run := []
  /-- Cores blocked on a work request. -/
  blocked : List Nat := []
  coreBusy : Tbl Nat := []
  corePrev : Tbl Nat := []
  /-- Dispatches waiting for a locked MCX, oldest first: core and MCX. -/
  lockWait : List (Nat × Nat) := []
  next : Option PendGraph := none
  old : Option OldGraph := none
  drainTicks : Nat := 0
  lastStatus : Status := .ok
  flushed : Nat := 0
  fence : Bool := false
  closing : Bool := false
  /-- Closing work due: the Ticks ended and not yet closed, oldest first. -/
  closeDue : List CloseDue := []
  /-- Steps 1 and 2 of the oldest closing work are done, and step 3 waits for room in staging. -/
  closeWaits : Bool := false
  overrun : Bool := false
  overrunTotal : Nat := 0
  overrunRun : Nat := 0
  overrunMax : Nat := 0
  overrunFirst : Nat := 0
  dispatches : Nat := 0
  busyNs : Nat := 0
  prevBusyNs : Nat := 0
  closeStartMc : Nat := 0
  closeFencedNs : Nat := 0
  closeWholeNs : Nat := 0
  journalBytes : Nat := 0
  prevJournal : Nat := 0
  journalLimit : Bool := false
  limitTicks : Nat := 0
  pressureTicks : Nat := 0
  /-- MC when a session's send window filled, by export (R201). -/
  exportStall : Tbl Nat := []
  /-- Records made outside the graph on their way to STORE_APPEND and EXPORT_STREAM are in the store's state. -/
  downSent : Nat := 0
  /-- Downlink work waiting for a DOWNLINK_BUILD dispatch, and protected frames held by ENCRYPT until a Tick's journal is durable (R176). -/
  downQ : List DownWork := []
  encHold : List (Nat × DownWork) := []
  /-- Downlink items that completed with a status other than OK: meter and status, newest first, for this Tick. -/
  completions : List (Nat × Status) := []
  deriving DecidableEq, Repr

end Sys2Proof.Machine
end

