-- ==== Sys2Proof/Machine/PartsHost.lean ====
section
/-! DEFINITION. State of the host attachment: mailboxes, tunnelled sessions, exports, interrupts, error capture,
the trouble log, the recorder and the plain registers. -/

namespace Sys2Proof.Machine
open Sys2Proof

/-- A payload: its fields in order, each a value and its size in bytes (R467). -/
abbrev Body := List (Nat × Nat)

/-- A command that has answered PENDING (R448). -/
structure PendCmd where
  code : Nat
  tag : Word16
  sess : Nat
  deriving DecidableEq, Repr

/-- A message of the engine in a ring: a response (`isEvent` false), a FINAL event or an async event (R444). -/
structure Msg where
  isEvent : Bool
  final : Bool
  lost : Bool
  code : Nat
  tag : Word16
  sess : Nat
  status : Status
  seq : Nat
  more : Bool
  body : Body
  ndesc : Nat
  deriving DecidableEq, Repr

/-- A request that has arrived through a tunnel or the peer link and is not yet taken (R455, R456). -/
structure Arrived where
  sess : Nat
  tag : Word16
  ndesc : Nat
  deriving DecidableEq, Repr

/-- A mailbox (R442 to R452): its registers and what its rings hold. -/
structure Mailbox where
  enable : Bool := false
  intRsp : Bool := false
  intEvt : Bool := false
  evtDropped : Bool := false
  rspDiscarded : Bool := false
  badRequest : Bool := false
  reqBase : Word64 := 0
  rspBase : Word64 := 0
  evtBase : Word64 := 0
  reqProd : Word32 := 0
  reqCons : Word32 := 0
  rspHead : Word32 := 0
  rspTail : Word32 := 0
  evtHead : Word32 := 0
  evtTail : Word32 := 0
  taken : Nat := 0
  dropped : Nat := 0
  discarded : Nat := 0
  /-- Commands PENDING, oldest first. -/
  pend : List PendCmd := []
  /-- Commands PENDING when the mailbox was disabled: their FINAL events are discarded (R452). -/
  orphans : List PendCmd := []
  /-- FINAL events that wait for room, and what waits behind them (R451). -/
  finals : List Msg := []
  /-- Messages of a response chain still to be written (R445). -/
  rspWait : List Msg := []
  /-- The tag of a request chain partly taken, and how many descriptors of it are taken. -/
  reqChain : Option (Word16 × Nat) := none
  /-- Async events were dropped since the last event written. -/
  lostNext : Bool := false
  /-- Requests of a tunnelled mailbox waiting to be taken. -/
  arrived : List Arrived := []
  /-- Messages the engine has written and the host has not consumed, oldest first. -/
  rspRing : List Msg := []
  evtRing : List Msg := []
  deriving DecidableEq, Repr

/-- A head-end TLS session (R149, R453). -/
structure TlsSess where
  port : Fin 2
  role : Role
  mb : Fin 8
  slot : Nat
  identity : Word32
  lastRecNs : Nat := 0
  /-- Records sent and received under the present traffic keys (R188). -/
  sentRecs : Nat := 0
  recvRecs : Nat := 0
  keyUpdates : Nat := 0
  /-- Requests arrived and not yet answered (R455). -/
  outstanding : Nat := 0
  deriving DecidableEq, Repr

/-- An open export (R489, R491). -/
structure ExportSt where
  sess : Nat
  port : Fin 2
  classes : BitVec 5
  mode : Nat
  mcxLo : Nat
  mcxHi : Nat
  winFrom : Nat
  winTo : Nat
  seq : Nat := 0
  sent : Nat := 0
  bypassed : Nat := 0
  stalledMs : Nat := 0
  bulkWindow : Nat := 0
  bulkDone : Bool := false
  stalled : Bool := false
  deriving DecidableEq, Repr

/-- A Dyllisan record as an export emits it (R491). -/
structure Dyl where
  expId : Nat
  kind : Nat
  bulk : Bool
  uncommitted : Bool
  holding : Bool
  status : Status
  seq : Nat
  body : Body := []
  deriving DecidableEq, Repr

/-- All mailboxes with their sessions and exports. -/
structure MbSt where
  boxes : Tbl Mailbox := []
  lastServed : Nat := 0
  tls : Tbl TlsSess := []
  /-- Next session number. -/
  nextSess : Nat := 1
  /-- Handshakes taken and not yet finished: port and identity key. -/
  handshakes : List (Fin 2 × Nat) := []
  exports : Tbl ExportSt := []
  nextExport : Nat := 1
  /-- Dyllisan records emitted in this Tick, newest first. -/
  emitted : List Dyl := []
  /-- Tunnel frames refused and alerts sent, per port (R454). -/
  alerts : Tbl Nat := []
  deriving DecidableEq, Repr

/-- The route of an interrupt source (R441). -/
structure Route where
  enable : Bool
  func : Fin 2
  entry : Nat
  deriving DecidableEq, Repr

/-- An MSI-X table entry as PCIe defines it. -/
structure MsixEntry where
  addr : Word64 := 0
  data : Word32 := 0
  mask : Bool := true
  deriving DecidableEq, Repr

/-- The interrupt block (R440, R441). Tables keyed by function times 64 plus entry. -/
structure IntSt where
  globalEn : Bool := true
  routes : Tbl Route := []
  pend : BitVec 128 := 0
  qpend : Tbl (BitVec 32) := []
  msix : Tbl MsixEntry := []
  pba : Tbl Unit := []
  /-- Messages sent per vector. -/
  sent : Tbl Nat := []
  deriving DecidableEq, Repr

/-- A capture set (R460). -/
structure CapSet where
  valid : Bool := false
  addr : Nat := 0
  loc : Nat := 0
  accessor : Nat := 0
  code : Status := .ok
  detail : Body := []
  mc : Nat := 0
  count : Nat := 0
  deriving DecidableEq, Repr

/-- A trouble-log entry (R362). -/
structure TEntry where
  mc : Nat
  addr : Nat
  loc : Nat
  cls : Nat
  accessor : Nat
  first : Bool
  code : Status
  detail : Body
  deriving DecidableEq, Repr

/-- A Warden pair: running as active, idle and HEALTHY, idle with its self-test due or running, halted, or withdrawn. -/
inductive WPair where
  | active | healthy | testing | halted | withdrawn
  deriving DecidableEq, Repr

/-- Error capture, the trouble log and the Warden pairs (R460 to R465). -/
structure ErrSt where
  sets : Tbl CapSet := []
  intEnable : BitVec 18 := 0x3FFFE
  /-- Entries held, oldest first, at most 4,096. -/
  tlog : List TEntry := []
  tnext : Nat := 0
  pairA : WPair := .active
  pairB : WPair := .healthy
  /-- MC at which the idle pair last passed its lockstep self-test. -/
  testMc : Nat := 0
  safeHold : Bool := false
  deriving DecidableEq, Repr

/-- A record of the event recorder (R349): its source, code, time and payload. -/
structure Rec where
  src : Nat
  code : Nat
  fmtCal : Bool
  t1 : Nat
  t2 : Nat
  body : Body
  deriving DecidableEq, Repr

/-- A rewind mark (R358). -/
structure RMark where
  seq : Nat := 0
  lost : Nat := 0
  deriving DecidableEq, Repr

/-- STATE of REC_STATUS. -/
inductive RecState where
  | recovering | running | stopped
  deriving DecidableEq, Repr

/-- The event recorder (R346 to R361): eMRAM contents and the control registers. -/
structure RecSt where
  /-- eMRAM: formatted, records held by sequence, checkpointed HEAD_SEQ (none: no record), marks by mailbox*8+slot. -/
  formatted : Bool := false
  held : Tbl Rec := []
  headSeq : Option Nat := none
  oldest : Nat := 4096
  wrapped : Bool := false
  cap : Nat := 122880
  spares : Nat := 60
  sapRetired : Nat := 0
  heartRetired : Nat := 0
  heartLost : Nat := 0
  heartWritten : Nat := 0
  heartFull : Bool := false
  /-- Heartwood pages lost without a spare: their unwritten sequences are skipped. -/
  lostPages : List Nat := []
  marks : Tbl RMark := []
  /-- HEARTWOOD_FAULT not yet recorded: page, first sequence, count. -/
  faultDue : List (Nat × Nat × Nat) := []
  /-- Trunk side. -/
  state : RecState := .recovering
  port : List Rec := []
  perSource : Tbl Nat := []
  overSource : Tbl Nat := []
  suppressed : Nat := 0
  stPageRetired : Bool := false
  stHeartFault : Bool := false
  stSuppressed : Bool := false
  stMarkMoved : Bool := false
  movedMarks : List Nat := []
  movedRecs : Nat := 0
  winBase0 : Word32 := 0
  winBase1 : Word32 := 0
  intEnable : BitVec 4 := 0
  deriving DecidableEq, Repr

/-- A latched high half for 32-bit reads (R494): the register's offset and the half. -/
structure Shadow where
  offset : Nat
  high : Word32
  deriving DecidableEq, Repr

/-- An Ethernet port (R502). -/
structure EthPort where
  up : Bool := false
  pcsLock : Bool := false
  localFault : Bool := false
  remoteFault : Bool := false
  pressure : Bool := false
  linkChange : Bool := false
  fcsErr : Bool := false
  fecUncorr : Bool := false
  rxDropSt : Bool := false
  rxFrames : Word64 := 0
  rxOctets : Word64 := 0
  rxFcsErr : Word64 := 0
  rxDrop : Word64 := 0
  txFrames : Word64 := 0
  txOctets : Word64 := 0
  pauseSent : Word32 := 0
  pauseRecv : Word32 := 0
  fecCorr : Word32 := 0
  fecUnc : Word32 := 0
  ptpStamped : Word32 := 0
  ptpLost : Word32 := 0
  /-- Tunnel frames that closed a session (R454). -/
  decodeErrors : Nat := 0
  /-- MC until which the link partner has paused transmission, and until which it has paused a priority (R502). -/
  pauseUntil : Nat := 0
  pfcUntil : Tbl Nat := []
  /-- MC at which this port last sent PAUSE (R200). -/
  lastPauseNs : Nat := 0
  deriving DecidableEq, Repr

/-- The four Ethernet ports (R502). -/
structure EthSt where
  p0 : EthPort := {}
  p1 : EthPort := {}
  p2 : EthPort := {}
  p3 : EthPort := {}
  deriving DecidableEq, Repr

/-- Plain registers: the scratch registers (R493), the read shadow of each function (R494), and what PCIe advanced error reporting counts (R437). -/
structure RegSt where
  scratch0 : Word64 := 0
  scratch1 : Word64 := 0
  shadow0 : Option Shadow := none
  shadow1 : Option Shadow := none
  /-- AER: advisory non-fatal Unsupported Requests reported and Completer Aborts returned, per function. -/
  aerUr : Tbl Nat := []
  aerCa : Tbl Nat := []
  deriving DecidableEq, Repr

end Sys2Proof.Machine
end

