-- ==== Sys2Proof/Machine/PartsMetro.lean ====
section
/-! DEFINITION. State of the metrology taps, their channels and their energy accumulators (R269 to R289). -/

namespace Sys2Proof.Machine
open Sys2Proof

/-- STATE of a channel. -/
inductive ChState where
  | off | running | gap | settling
  deriving DecidableEq, Repr

/-- A fade in progress (R277): the response faded out, its length in FIR outputs, and MC at its start. -/
structure Fade where
  frm : Nat
  len : Nat
  startMc : Nat
  deriving DecidableEq, Repr

/-- A metrology channel. -/
structure MetroCh where
  state : ChState := .off
  /-- Response in force; during a fade its target. -/
  resp : Nat := 0
  fade : Option Fade := none
  /-- The pending slot: response and fade length. -/
  pend : Option (Nat × Nat) := none
  stPendingReplaced : Bool := false
  stSwapDone : Bool := false
  stSat : Bool := false
  stClip : Bool := false
  stGapSeen : Bool := false
  fades : Nat := 0
  replaced : Nat := 0
  gaps : Nat := 0
  longestGapUs : Nat := 0
  gapLastMc : Nat := 0
  gapLastNs : Nat := 0
  peak : Nat := 0
  /-- Last resampler output, in the SAMPLES format. -/
  lastOut : Nat := 0
  outDrops : Nat := 0
  deriving DecidableEq, Repr

/-- The eight accumulators of a phase (R284), modulo 2^64. -/
structure Accs where
  aImp : Nat := 0
  aExp : Nat := 0
  q1 : Nat := 0
  q2 : Nat := 0
  q3 : Nat := 0
  q4 : Nat := 0
  v2t : Nat := 0
  i2t : Nat := 0
  deriving DecidableEq, Repr

/-- A Tick latch of a phase (R285). -/
structure Latch where
  acc : Accs := {}
  tick : Nat := 0
  samples : Nat := 0
  gapNs : Nat := 0
  gap : Bool := false
  qSettling : Bool := false
  clip : Bool := false
  stepped : Bool := false
  trackHold : Bool := false
  deriving DecidableEq, Repr

/-- A phase of a tap. -/
structure MetroPhase where
  acc : Accs := {}
  latch : Latch := {}
  deriving DecidableEq, Repr

/-- TRACK of a tap. -/
inductive Track where
  | never | locked | hold
  deriving DecidableEq, Repr

/-- A tap. -/
structure Tap where
  enabled : Bool := false
  track : Track := .never
  /-- The SELF detector. -/
  det : Detector := {}
  /-- Last T in ns; 0 before the first cycle. -/
  periodNs : Nat := 0
  ratio : Nat := 0
  cycleSeq : Nat := 0
  /-- Start of the open cycle (ET ns); whether the open cycle began at a predicted crossing; a cycle is open. -/
  cycleEt : Nat := 0
  cycleHold : Bool := false
  open_ : Bool := false
  /-- Some cycle of the Tick ran in HOLD. -/
  tickHold : Bool := false
  /-- A gap of the Tick has been posted. -/
  gapPosted : Bool := false
  phases : List MetroPhase := [{}, {}, {}]
  intEnable : BitVec 6 := 0
  deriving DecidableEq, Repr

/-- The metrology chain (R269). -/
structure MetroSt where
  chs : Tbl MetroCh := []
  taps : Tbl Tap := []
  /-- MC of sample 0, since the release of PD_METRO. -/
  anchorMc : Nat := 0
  deriving DecidableEq, Repr

end Sys2Proof.Machine
end

