-- ==== Sys2Proof/Machine/PartsPair.lean ====
section
/-! DEFINITION. State of the pair and of the self-tests. -/

namespace Sys2Proof.Machine
open Sys2Proof

/-- Roles of R391, with their codes. -/
inductive PairRole where
  | single | starting | resync | standby | active | held
  deriving DecidableEq, Repr

/-- Where a planned swap stands on this engine (R411 to R413). -/
inductive SwapPhase where
  | none
  /-- Due; a quiet Tick is sought until the ET second given. -/
  | seeking (untilSec : Nat)
  /-- ACTIVE: SWAP_REQ is set for the next boundary. -/
  | requested
  /-- STANDBY: SWAP_ACK is set; waits for the final delta. -/
  | acked
  /-- STANDBY: the final delta is applied; waits for the peer to show STANDBY. -/
  | finalApplied
  deriving DecidableEq, Repr

/-- Pairing state (R391 to R414). -/
structure PairSt where
  /-- pair.mode as taken at the last power-up: PAIR. -/
  modePair : Bool := false
  role : PairRole := .starting
  /-- Level of the ROLE pin. -/
  rolePin : Bool := false
  peerRole : Option PairRole := none
  peerEpoch : Nat := 0
  peerTick : Nat := 0
  peerAck : Nat := 0
  peerHealth : Word32 := 0
  peerManifest : Nat := 0
  peerInSync : Bool := false
  peerPinSeen : Bool := false
  swapReverted : Bool := false
  takeover : Bool := false
  digestMismatch : Bool := false
  pinLost : Bool := false
  linkLost : Bool := false
  peerLost : Bool := false
  inSync : Bool := false
  /-- Δ of R402. -/
  delta : Int := 0
  /-- STANDBY: highest pair Tick whose delta is applied. -/
  applied : Nat := 0
  health : BitVec 32 := 0
  mismatches : Nat := 0
  lastMismatch : Nat := 0
  hbMissed : Nat := 0
  pinInvalid : Nat := 0
  hbSent : Nat := 0
  /-- The last HEARTBEAT sent. -/
  hbOut : Option Heartbeat := none
  /-- MC of the last valid HEARTBEAT and pin period, and whether the path is silent by R397. -/
  hbLastMc : Nat := 0
  pinLastMc : Nat := 0
  /-- A HEARTBEAT, a pin period, has been received since power-up. -/
  hbEver : Bool := false
  pinEver : Bool := false
  hbSilent : Bool := false
  pinSilent : Bool := false
  /-- Consecutive pin periods that showed ACTIVE (R403). -/
  pinActiveRun : Nat := 0
  pinRole : Option PairRole := none
  /-- The peer has been heard in its present epoch. -/
  heardInEpoch : Bool := false
  swaps : Nat := 0
  takeovers : Nat := 0
  nextSwapSec : Nat := 0
  intEnable : BitVec 6 := 0
  /-- ACTIVE: deltas sent and not acknowledged: pair Tick and size in KiB. -/
  deltas : List (Nat × Nat) := []
  /-- Pair Tick at which a resync copy started, and regions copied (region number, chunks). -/
  resyncFrom : Option Nat := none
  resyncChunks : Nat := 0
  swapPhase : SwapPhase := .none
  /-- The peer shows SWAP_REQ, SWAP_ACK, DIGEST_MISMATCH. -/
  peerSwapReq : Bool := false
  peerSwapAck : Bool := false
  peerMismatch : Bool := false
  /-- The swap in progress is planned; the delta to send is the final one. -/
  swapping : Bool := false
  swapSuspended : Bool := false
  /-- After a planned swap: MC until which links are watched, and the links verified before it. -/
  verifyUntil : Option Nat := none
  verified : List (Nat × Nat) := []
  /-- The digest of the last Tick closed. -/
  digest : Nat := 0
  digestValid : Bool := false
  digestMatch : Bool := false
  /-- Downlink is held until the counters' jump is durable (R405): the Tick whose commit releases it. -/
  downHoldTick : Option Nat := none
  /-- Units withdrawn by a failed known-answer test (R409): 0 to 15 lanes, 16 to 19 public-key engines. -/
  withdrawn : List Nat := []
  katRuns : Nat := 0
  scrubOk : Bool := true
  scrubCorr : Nat := 0
  scrubTotal : Nat := 0
  scrubLost : List Nat := []
  /-- Highest EPOCH and SEQ seen on the peer link, and the replay window of R107. -/
  rxEpoch : Nat := 0
  rxSeq : Nat := 0
  rxWindow : BitVec 256 := 0
  txSeq : Nat := 0
  rxSeen : Bool := false
  /-- Copies of the billing registers and the balance state sent to the STANDBY (R408). -/
  resyncB : Nat := 0
  deriving DecidableEq, Repr

end Sys2Proof.Machine
end

