-- ==== Sys2Proof/Machine/PartsQueue.lean ====
section
/-! DEFINITION. State of the host queues and of the DMA channels (R416 to R435). -/

namespace Sys2Proof.Machine
open Sys2Proof

/-- OWNER of a queue (R417). ENGINE is read from the graph in force. -/
inductive QOwner where
  | free | secure | normal
  deriving DecidableEq, Repr

/-- A queue that is no edge (R416 to R424). Items are lists of words, header word 0 first. Writers are numbered 0 PF0, 1 PF1,
2 + n DMA channel n. -/
structure Queue where
  enable : Bool := false
  owner : QOwner := .free
  launch : Bool := false
  dropLate : Bool := false
  intLevel : Bool := false
  intNonempty : Bool := false
  cap : Nat := 0
  lateTol : Nat := 500
  complQueue : Nat := 0
  complEn : Bool := false
  level : Nat := 0
  peak : Nat := 0
  taken : Bool := false
  complLost : Bool := false
  lateDropped : Bool := false
  wrErr : Bool := false
  underrun : Bool := false
  /-- Closed items, oldest first; words popped of the oldest; words popped in the first cell in use. -/
  items : List (List Nat) := []
  popped : Nat := 0
  off : Nat := 0
  /-- Open items by writer: the words pushed. -/
  open_ : Tbl (List Nat) := []
  wr : Tbl Status := []
  /-- The word most recently returned by a POP. -/
  last : Nat := 0
  /-- Items that left through a port's egress. -/
  sent : Nat := 0
  deriving DecidableEq, Repr

/-- The host queues (R416). -/
structure QueueSt where
  qs : Tbl Queue := []
  poolFails : Nat := 0
  deriving DecidableEq, Repr

/-- STATE of a DMA channel (R433, R434). -/
inductive DmaState where
  | idle | running | halted | waitRing
  deriving DecidableEq, Repr

/-- A completion record (R432). -/
structure DmaRec where
  descId : Nat
  status : Status
  bytes : Nat
  etNs : Nat
  index : Nat
  phase : Bool
  channel : Nat
  deriving DecidableEq, Repr

/-- What a channel does after a record that waits for ring room: raise its interrupt, and go on at the next descriptor or end. -/
structure DmaAfter where
  interrupt : Bool
  next : Option Nat
  deriving DecidableEq, Repr

/-- A DMA channel. -/
structure DmaCh where
  relaxed : Bool := false
  intFault : Bool := false
  descSpace : Nat := 0
  descAddr : Nat := 0
  crBase : Nat := 0
  crSize : Nat := 0
  head : Word32 := 0
  tail : Word32 := 0
  state : DmaState := .idle
  lastStatus : Status := .ok
  done : Bool := false
  fault : Bool := false
  faultAddr : Nat := 0
  faultCode : Status := .ok
  faultDescId : Nat := 0
  faultIndex : Nat := 0
  faultCheck : Bool := false
  faultDir : Nat := 0
  faultOffset : Nat := 0
  bytes : Nat := 0
  descCount : Nat := 0
  index : Nat := 0
  /-- Bytes moved of the descriptor in progress, its DESC_ID, whether an item of it met FLUSHED, and the items that wait for
  room in the destination queue. -/
  descBytes : Nat := 0
  descId : Nat := 0
  descFlushed : Bool := false
  waiting : List (List Nat) := []
  waits : Bool := false
  /-- A record that waits for room in the ring. -/
  pend : Option (DmaRec × DmaAfter) := none
  /-- The completion ring in host memory, as far as the channel has written it. -/
  ring : Tbl DmaRec := []
  deriving DecidableEq, Repr

end Sys2Proof.Machine
end

