-- ==== Sys2Proof/Machine/PartsSys.lean ====
section
/-! DEFINITION. State of the vault, boot and power, and the time unit. -/

namespace Sys2Proof.Machine
open Sys2Proof

/-- The vault die (battery-backed; R12, R13, R14, R39, R159, R181 to R184, R464). -/
structure VaultSt where
  deviceId : BitVec 128 := 0
  macBase : BitVec 48 := 0
  life : Life := .blank
  /-- Lifecycle fuse word (R183). -/
  fuses : BitVec 32 := 0
  serviceEntries : Nat := 0
  taproot : Bool := false
  tampered : Bool := false
  tamperCause : BitVec 8 := 0
  /-- The 64 monotonic counters: 0 KEY_EPOCH, 1 to 15 update, 16 TAPROOT_REGEN. -/
  counters : Tbl Nat := []
  /-- The boot measurement register: a value standing for its 384 bits, and how often it was extended. -/
  bmr : Nat := Config.extend 0 0
  bmrExt : Nat := 1
  /-- The vault ROM, as the first extension measures it. -/
  rom : Nat := 0
  rtc : Option Nat := none
  opSeconds : Nat := 0
  /-- Nanoseconds of the operating second in progress. -/
  opFrac : Nat := 0
  powerCycles : Nat := 0
  tick : Nat := 0
  clean : Bool := false
  degraded : Bool := false
  /-- Operating seconds of earlier double-fault resets, newest first. -/
  dfHistory : List Nat := []
  cause : Nat := 1
  dfCount : Nat := 0
  haltedA : Bool := false
  haltedB : Bool := false
  safeHoldBoot : Bool := false
  challenge : Option Nat := none
  utcLast : Option Nat := none
  /-- The last 16 changes of the UTC offset in use: ET instant (ns), old and new offset, announced as a leap; newest first. -/
  utcChanges : List (Nat × Nat × Nat × Bool) := []
  deriving DecidableEq, Repr

/-- Boot, power and pins. -/
structure BootSt where
  powered : Bool := true
  /-- The trunk die is held in reset (RST_N low is an instant; R522 holds). -/
  held : Bool := false
  stage : Nat := 1
  bootFails : Nat := 0
  /-- MC at which full service was reached. -/
  serviceMc : Nat := 0
  /-- Supplies within limits and the excursion events (bit order of R504). -/
  rails : BitVec 13 := 0x1FFF
  railEvents : BitVec 13 := 0
  pfw : Bool := false
  pfwStep : Nat := 0
  pfwMc : Nat := 0
  /-- The shutdown abandoned closing work (R515 step 2). -/
  pfwAbandoned : Bool := false
  cleanSet : Bool := false
  /-- The Tick in progress when the engine last stopped (R148). -/
  stopTick : Nat := 0
  /-- RESET_ENGINE has been answered: the reset follows at once. -/
  resetDue : Bool := false
  refclk : Bool := true
  pllLocked : Bool := true
  pcieRef : Bool := true
  serdesRef : Bool := true
  xtal : Bool := true
  iqclk : BitVec 4 := 0xF
  domains : BitVec 14 := 0x3FFF
  temps : List Int := [0, 0, 0, 0]
  hot : BitVec 4 := 0
  powerMw : Nat := 0
  /-- Levels of the outputs: PPS_OUT is high, ALERT_N is low. -/
  ppsHigh : Bool := false
  alert : Bool := false
  /-- Resets of the PCIe link (R519). -/
  pcieResets : Nat := 0
  deriving DecidableEq, Repr

/-- An increment register (R18): its contents, the increment in effect, and written values on their way with the
cycles until each takes effect. -/
structure Incr where
  val : Nat := 0x0200000000
  clamped : Bool := false
  eff : Nat := 0x0200000000
  due : List (Nat × Nat) := []
  deriving DecidableEq, Repr

/-- A snapshot bank (R17): ns values; seconds and nanoseconds are read out of them. -/
structure Snap where
  et : Nat := 0
  mc : Nat := 0
  tick : Nat := 0
  domA : Nat := 0
  domB : Nat := 0
  deriving DecidableEq, Repr

/-- A PTP master a domain has heard (R534). -/
structure MasterSt where
  ann : Announce
  /-- Judged by its last Sync: none heard yet, in range, out of range. -/
  syncOk : Option Bool := none
  deriving DecidableEq, Repr

/-- A PTP slave domain (R24). -/
structure DomPtp where
  state : DomState := .listening
  acqFromHold : Bool := false
  consec : Nat := 0
  masters : List MasterSt := []
  master : Option Word64 := none
  /-- A two-step Sync waiting for its Follow_Up. -/
  syncWait : Option SyncMsg := none
  offsetNs : Int := 0
  meanPathNs : Nat := 0
  syncs : Nat := 0
  /-- A Delay_Req or Pdelay_Req of ours is outstanding, and how many were sent and answered. -/
  reqOut : Bool := false
  reqSent : Nat := 0
  respRecv : Nat := 0
  pdelayAnswered : Nat := 0
  management : Nat := 0
  gmId : Word64 := 0
  clockClass : Nat := 0
  stepsRemoved : Nat := 0
  utcOffset : Nat := 0
  utcValid : Bool := false
  leap61 : Bool := false
  leap59 : Bool := false
  deriving DecidableEq, Repr

/-- The time unit. `et`, `domA` and `domB` count units of 2^-32 ns; `mc` counts ns. -/
structure TimeSt where
  mc : Nat := 0
  et : Nat := 0
  domA : Nat := 0
  domB : Nat := 0
  incA : Incr := {}
  incB : Incr := {}
  incEt : Incr := {}
  latchA : Option Word32 := none
  latchB : Option Word32 := none
  tickInt : Bool := false
  slewEn : Bool := true
  snap0 : Snap := {}
  snap1 : Snap := {}
  hostOwner : Bool := false
  watchdogNs : Nat := 0
  ptpA : DomPtp := {}
  ptpB : DomPtp := {}
  following : Dom := .a
  /-- Under AUTO the selected domain has been out of LOCKED for the holdoff (R27). -/
  holdoffDone : Bool := false
  everLocked : Bool := false
  etState : EtState := .freeRun
  unsynced : Bool := true
  holdoverMc : Nat := 0
  utcOffset : Nat := 37
  /-- The Tick: its number is the vault's; whether the first Tick has started, its start and length, its end in ET. -/
  ticking : Bool := false
  tickStartMc : Nat := 0
  tickStartEt : Nat := 0
  tickLenNs : Nat := 0
  tickEndEt : Nat := 0
  /-- The current Tick was re-phased (R40). -/
  tickStepped : Bool := false
  /-- CALENDAR_STEPs accepted for the next boundary, in ns (R31). -/
  stepSum : Option Int := none
  /-- TRIM_NS of receive (port) and transmit (port + 4). -/
  trim : Tbl (BitVec 16) := []
  rtcWriteMc : Nat := 0
  /-- The boundary clock on ETH_D: sequence numbers and messages answered (R23). -/
  mSyncSeq : Word16 := 0
  mFollowSeq : Word16 := 0
  mAnnSeq : Word16 := 0
  mAnnClass : Nat := 248
  mAnnSteps : Nat := 0
  mAnnGm : Word64 := 0
  mDelayResp : Nat := 0
  management : Tbl Nat := []
  deriving DecidableEq, Repr

end Sys2Proof.Machine
end

