-- ==== Sys2Proof/Machine/State.lean ====
section
/-! DEFINITION. The state of the block, its faults and refusals, and the state after reset. -/

namespace Sys2Proof.Machine
open Sys2Proof

/-- When a parameter change waits for: the next Tick boundary, the next superframe of a link port, the next
slotframe of an RF port (R42, R44, R102), or the next power-up (R392). -/
inductive PBound where
  | tick | superframe (port : Nat) | slotframe (port : Nat) | powerUp
  deriving DecidableEq, Repr

/-- A parameter change accepted and waiting for its boundary. -/
structure PendParam where
  id : ParamId
  val : PVal
  bound : PBound
  deriving DecidableEq, Repr

/-- The whole block. -/
structure State where
  /-- Journalled state. -/
  p : Persist := {}
  vault : VaultSt := {}
  boot : BootSt := {}
  time : TimeSt := {}
  mb : MbSt := {}
  irq : IntSt := {}
  err : ErrSt := {}
  recd : RecSt := {}
  reg : RegSt := {}
  eth : EthSt := {}
  pair : PairSt := {}
  plc : PlcSt := {}
  rf : RfSt := {}
  cell : CellSt := {}
  ctx : CtxSt := {}
  val : ValSt := {}
  keys : KeySt := {}
  /-- The quarantine queue, oldest first: frame, failed handle, MC of arrival (R172). -/
  quar : List (InFrame × Word32 × Nat) := []
  flow : FlowSt := {}
  bill : BillSt := {}
  bal : BalSt := {}
  metro : MetroSt := {}
  store : StoreSt := {}
  q : QueueSt := {}
  dma : Tbl DmaCh := []
  upd : UpdSt := {}
  /-- Campaign blocks sent in the Tick (R387). -/
  campBlocks : Nat := 0
  pendParams : List PendParam := []
  /-- Events on the way to the ALARM node, oldest first. -/
  alarms : List AlarmItem := []
  /-- Free values used so far: the model's own field. -/
  freeCtr : Nat := 0
  /-- Commands waiting, first in, first out. -/
  pending : List Instr := []
  deriving DecidableEq, Repr

/-- Why a step can stop. -/
inductive Fault where
  /-- A register access names an offset outside the 64 MiB window of BAR0 (R436): no such address exists. Raised by the
  register commands. Safe: the command has no meaning there. -/
  | outsideBar0
  deriving DecidableEq, Repr

/-- Why a command has no meaning. -/
inductive Refusal where
  /-- No meaning is written for the command of that mnemonic. Safe: nothing is claimed of it. -/
  | notModelled (mnemonic : String)
  deriving DecidableEq, Repr

/-- The block right after an engine reset: the trunk die just released. -/
def State.reset : State := {}

end Sys2Proof.Machine
end

