-- ==== Sys2Proof/Machine/Params.lean ====
section
/-! DEFINITION. The parameters of R42, R78, R102, R103, R126, R156, R189, R207, R234, R268, R289, R314, R345, R366,
R390, R415, R466 and R503: defaults, types, ranges, who may set them and at which boundary a change takes effect. -/

namespace Sys2Proof.Machine
open Sys2Proof

/-- Index of PLC channel `n` among the link ports (cell `c` port `p` has index 4c + p). -/
def plcLp (n : Nat) : Nat := 4096 + n

def cellLp (c p : Nat) : Nat := 4 * c + p

/-- A value a parameter list gives a parameter. -/
def findParam (l : List (ParamId × PVal)) (id : ParamId) : Option Int :=
  match l with
  | [] => none
  | (k, v) :: t => if k = id then some v.val else findParam t id

def nthInt (l : List Int) (i : Nat) : Int := (l[i]?).getD 0

/-- The default of a parameter whose default depends on no other parameter. -/
def baseDefault (id : ParamId) : Int :=
  match id.key with
  | .tdNumber => id.idx
  | .tdProfile => 0
  | .tdPort => id.idx
  | .tdTransport => 0
  | .tdEnable => 1
  | .tSelect => 2
  | .tAutoHoldoff => 2000
  | .tLockThr => 1000
  | .tHoldLimit => 3600
  | .tUtcDefault => 37
  | .tHostWd => 10
  | .tEthdDomain => 0
  | .tEthdProfile => 0
  | .tEthdLogSync => -3
  | .tEthdOneStep => 0
  | .plcBand => 0
  | .plcMode => 0
  | .plcPanId => if id.idx < 4096 then 0x0100 + (id.idx % 4 : Nat) else 0x0100 + (id.idx - 4096 : Nat)
  | .plcSfTicks => 100
  | .plcBeaconTicks => 8
  | .plcSlotTicks => 8
  | .plcCfpSlots => 10
  | .plcBeaconOffset => 0
  | .plcZcDet => if id.idx < 4096 then 0 else ((id.idx - 4096) / 4 : Nat)
  | .plcZcPhase => 0
  | .plcRobustGain => 15
  | .plcMaxRetx => 3
  | .plcZoneFaultDb => 6
  | .plcTmMargin => 3
  | .plcTmRefresh => 3600
  | .plcMaxGrantPeriod => 128
  | .plcWorsen => 25
  | .plcSwitchMargin => 20
  | .plcMaxChildren => 32
  | .plcNbrAge => 512
  | .plcExclusive => 0
  | .rfMode => 0
  | .rfIqRate => 4000000
  | .rfFskRate => 100
  | .rfFskLevels => 2
  | .rfFskFec => 0
  | .rfFskPreamble => 8
  | .rfOfdmOption => 2
  | .rfOfdmMcs => 3
  | .rfPanId => 0x0200 + id.idx
  | .rfTsUs => 40000
  | .rfSfLen => 1024
  | .rfHopLen => 1
  | .rfMaxPsdu => 256
  | .rfEbPeriod => 4
  | .rfDwellBuckets => 200
  | .rfDwellLimit => 400000
  | .rfAckReserve => 20000
  | .rfDutyWindow => 0
  | .rfDutyLimit => 36000
  | .rfDriftInit => 20
  | .rfDriftFloor => 2
  | .rfResyncTries => 3
  | .kclUdpPort => 49810
  | .kclEngineAddr => -1
  | .kclDescLead => 100
  | .kclHoldoverSf => 6
  | .kclStatusPeriod => 1000
  | .kclSilence => 3000
  | .kclRto => 200
  | .kclWindow => 256
  | .kclBacklogTimeout => 60
  | .kclBacklogKeep => 86400
  | .kclAlignPeriod => 60
  | .kclAlignLimit => 2000
  | .cellMeasureInterval => 900
  | .ctxBulkPerTick => 500
  | .ctxRotateAlarm => 0xF0000000
  | .ctxMeterIdle => 120
  | .ctxMeterLife => 3600
  | .ctxEvictIdle => 30
  | .ctxTlsIdle => 600
  | .keyQuarItems => 8192
  | .keyQuarHold => 3600
  | .tamperMesh => 1
  | .tamperInEnable => 0
  | .tamperInLevel => 0
  | .tamperInDebounce => 100
  | .tlsKeyUpdate => 16777216
  | .tlsCertChain => -1
  | .schedCloseReserve => 64000
  | .schedJournalLimit => 2048
  | .schedExportStall => 500
  | .graphDrainTicks => 4
  | .ethFcMode => 0
  | .valSweepPerTick => 16384
  | .valLedgerDays => 35
  | .valEstOpenMax => 720
  | .valStatDup => 0
  | .valStatUnm => 0
  | .valStatRef => 0
  | .valStatEvict => 0
  | .billClosePerTick => 16384
  | .billProfileDepth => 24
  | .billMb1Role => 0
  | .tapEnable => 0
  | .tapVLsb => 48828
  | .tapILsb => 244141
  | .tapTrackSrc => 4
  | .tapNominalHz => 50
  | .chMaLen => 256
  | .chMaDec => 256
  | .chResponse => 0
  | .chK => 128
  | .chFadeLen => 256
  | .chOutQueue => -1
  | .balGrace => 2
  | .balRevise => 96
  | .balGapEstMax => 10
  | .balHalfLife => 168
  | .balMinWeight => 96
  | .balRMin => 900000
  | .balMargin => 100000
  | .balRunLen => 96
  | .balWeight => nthInt [40, 60, 80, 50, 30, 40] id.idx
  | .balDecay => 192
  | .balAlarmScore => 128
  | .balDropPct => 30
  | .balDropDays => 5
  | .balDropRefDays => 28
  | .balTamperEv => 0
  | .balMagneticEv => 0
  | .balNeutralEv => 0
  | .balScoreDelay => 120
  | .balScorePerTick => 16384
  | .balStatUnattr => 0
  | .balStatMismatch => 0
  | .balStatIgnored => 0
  | .balStatLate => 0
  | .balStatStale => 0
  | .stRetDays => nthInt [400, 1100, 400, 400, 400] id.idx
  | .stRetFloor => nthInt [35, 400, 62, 90, 62] id.idx
  | .stReclaimFree => 8
  | .stMinCapacity => 256
  | .stWearStatic => 1
  | .stSpreadLimit => 200
  | .stGcStart => 192
  | .stGcUrgent => 64
  | .stCkptTrigger => 1536
  | .stFineMax => 2048
  | .stRefreshDays => 365
  | .recPerSource => 64
  | .updCountersign => 0
  | .updLockIdle => 3600
  | .updGraftTimeout => 300
  | .campMulticastMin => 4
  | .campMaxRounds => 8
  | .campMeterTimeout => 72
  | .campBlocksPerTick => 256
  | .pairMode => 0
  | .pairPeerId => -1
  | .pairKey => 0
  | .pairServiceAddr => -1
  | .pairBootWait => 5000
  | .pairBootSolo => 0
  | .pairMaxLag => 2
  | .pairDeltaBuffer => 64
  | .pairResyncMbps => 8000
  | .pairScrubPeriod => 3600
  | .pairSwapPeriod => 7
  | .pairSwapWindow => 4
  | .pairSwapMaxBusy => 30
  | .pairSwapVerify => 60
  | .mbTunnelOutstanding => 16
  | .ethSpeed => 2
  | .ethFec => 2
  | .ethPfcPrio => 8

/-- The default, where it may depend on another parameter (R42, R78, R503), under given values. -/
def dfltWith (l : List (ParamId × PVal)) (id : ParamId) : Int :=
  let raw := fun k => (findParam l ⟨k, id.idx⟩).getD (baseDefault ⟨k, id.idx⟩)
  let bandMin : Int := if raw .plcBand = 0 then 8 else 3
  match id.key with
  | .plcBeaconTicks => bandMin
  | .plcSlotTicks => bandMin
  | .plcCfpSlots =>
    let b := (findParam l ⟨.plcBeaconTicks, id.idx⟩).getD bandMin
    let t := (findParam l ⟨.plcSlotTicks, id.idx⟩).getD bandMin
    (raw .plcSfTicks - b - 12) / t
  | .tEthdLogSync => if raw .tEthdProfile = 0 then -3 else 0
  | .ethFec => if raw .ethSpeed = 2 then 2 else 0
  | _ => baseDefault id

/-- The value of a parameter under a list of settings. -/
def prmIn (l : List (ParamId × PVal)) (k : ParamKey) (i : Nat) : Int :=
  (findParam l ⟨k, i⟩).getD (dfltWith l ⟨k, i⟩)

/-- A parameter in force. -/
def prm (s : State) (k : ParamKey) (i : Nat := 0) : Int := prmIn s.p.params k i

/-- A parameter in force, as a number. -/
def prmN (s : State) (k : ParamKey) (i : Nat := 0) : Nat := (prm s k i).toNat

/-- Set one entry of a list of settings. -/
def putParam : List (ParamId × PVal) → ParamId → PVal → List (ParamId × PVal)
  | [], id, v => [(id, v)]
  | (k, w) :: t, id, v => if k = id then (k, v) :: t else (k, w) :: putParam t id v

/-- The settings as they will stand once every accepted change has taken effect (R42). -/
def nextParams (s : State) : List (ParamId × PVal) :=
  s.pendParams.foldl (fun l q => putParam l q.id q.val) s.p.params

/-- TYPE of a parameter (R468). `tap out_queue` takes an integer or the token NONE. -/
def pType (k : ParamKey) : PTy :=
  match k with
  | .tdProfile | .tdPort | .tdTransport | .tSelect | .tEthdProfile | .plcBand | .plcMode | .rfMode | .rfFskFec
  | .tamperInLevel | .ethFcMode | .billMb1Role | .tapTrackSrc | .pairMode | .ethSpeed | .ethFec => .token
  | .balRMin | .balMargin => .decimal
  | .kclEngineAddr | .tlsCertChain | .pairPeerId | .pairServiceAddr => .bytes
  | _ => .integer

/-- How many indices a parameter has (1 for one without an index). -/
def pCount (k : ParamKey) : Nat :=
  match k with
  | .tdNumber | .tdProfile | .tdPort | .tdTransport | .tdEnable => 2
  | .plcBand | .plcMode | .plcPanId | .plcSfTicks | .plcBeaconTicks | .plcSlotTicks | .plcCfpSlots | .plcBeaconOffset
  | .plcZcDet | .plcZcPhase | .plcRobustGain | .plcMaxRetx | .plcZoneFaultDb | .plcTmMargin | .plcTmRefresh
  | .plcMaxGrantPeriod | .plcWorsen | .plcSwitchMargin | .plcMaxChildren | .plcNbrAge => 4112
  | .plcExclusive => 8
  | .rfMode | .rfIqRate | .rfFskRate | .rfFskLevels | .rfFskFec | .rfFskPreamble | .rfOfdmOption | .rfOfdmMcs | .rfPanId
  | .rfTsUs | .rfSfLen | .rfHopLen | .rfMaxPsdu | .rfEbPeriod | .rfDwellBuckets | .rfDwellLimit | .rfAckReserve
  | .rfDutyWindow | .rfDutyLimit => 4
  | .cellMeasureInterval => 1024
  | .tamperInEnable | .tamperInLevel | .tamperInDebounce => 4
  | .ethFcMode | .ethSpeed | .ethFec | .ethPfcPrio => 4
  | .tapEnable | .tapVLsb | .tapILsb | .tapTrackSrc | .tapNominalHz => 16
  | .chMaLen | .chMaDec | .chResponse | .chK | .chFadeLen | .chOutQueue => 96
  | .balWeight => 6
  | .balTamperEv | .balMagneticEv | .balNeutralEv => 8
  | .stRetDays | .stRetFloor => 5
  | .pairServiceAddr => 2
  | _ => 1

/-- An interval of integers. -/
def within (lo hi v : Int) : Bool := decide (lo ≤ v) && decide (v ≤ hi)

/-- An IPv6 address as the little-endian number of its 16 bytes that is a unicast address: neither unspecified nor multicast. -/
def unicast6 (v : Int) : Bool := decide (0 < v) && decide (v < 2 ^ 128) && decide (v % 256 ≠ 255)

def isPow2 (v : Int) : Bool := [1, 2, 4, 8, 16, 32, 64, 128, 256, 512, 1024, 2048, 4096].contains v

/-- A value lies in the range of its own row, whatever other parameters hold. -/
def ownRange (k : ParamKey) (v : Int) : Bool :=
  match k with
  | .tdNumber => within 0 255 v
  | .tdProfile => within 0 1 v
  | .tdPort => within 0 1 v
  | .tdTransport => within 0 2 v
  | .tdEnable => within 0 1 v
  | .tSelect => within 0 3 v
  | .tAutoHoldoff => within 100 60000 v
  | .tLockThr => within 50 100000 v
  | .tHoldLimit => within 60 86400 v
  | .tUtcDefault => within 0 255 v
  | .tHostWd => within 1 60 v
  | .tEthdDomain => within 0 255 v
  | .tEthdProfile => within 0 1 v
  | .tEthdLogSync => within (-5) 0 v
  | .tEthdOneStep => within 0 1 v
  | .plcBand => within 0 1 v
  | .plcMode => within 0 2 v
  | .plcPanId => within 0 0xFFFD v
  | .plcSfTicks => within 50 400 v
  | .plcBeaconTicks => within 3 20 v
  | .plcSlotTicks => within 3 16 v
  | .plcCfpSlots => within 1 132 v
  | .plcBeaconOffset => within 0 9000 v
  | .plcZcDet => within 0 3 v
  | .plcZcPhase => within 0 359 v
  | .plcRobustGain => within 0 15 v
  | .plcMaxRetx => within 0 7 v
  | .plcZoneFaultDb => within 2 20 v
  | .plcTmMargin => within 0 10 v
  | .plcTmRefresh => within 64 65535 v
  | .plcMaxGrantPeriod => isPow2 v
  | .plcWorsen => within 5 200 v
  | .plcSwitchMargin => within 0 100 v
  | .plcMaxChildren => within 1 255 v
  | .plcNbrAge => within 16 4096 v
  | .plcExclusive => within 0 1 v
  | .rfMode => within 0 2 v
  | .rfIqRate => within 1000000 4000000 v
  | .rfFskRate => [50, 100, 150, 200].contains v
  | .rfFskLevels => [2, 4].contains v
  | .rfFskFec => within 0 2 v
  | .rfFskPreamble => within 8 32 v
  | .rfOfdmOption => within 1 4 v
  | .rfOfdmMcs => within 0 6 v
  | .rfPanId => within 0 0xFFFD v
  | .rfTsUs => within 20000 50000 v && decide (v % 1000 = 0)
  | .rfSfLen => within 1 1024 v
  | .rfHopLen => within 1 129 v
  | .rfMaxPsdu => within 32 2047 v
  | .rfEbPeriod => within 1 64 v
  | .rfDwellBuckets => within 1 400 v
  | .rfDwellLimit => within 0 40000000 v
  | .rfAckReserve => within 0 100000 v
  | .rfDutyWindow => within 0 3600 v
  | .rfDutyLimit => within 0 3600000 v
  | .rfDriftInit => within 1 100 v
  | .rfDriftFloor => within 1 50 v
  | .rfResyncTries => within 1 8 v
  | .kclUdpPort => within 1024 65535 v
  | .kclEngineAddr => unicast6 v
  | .kclDescLead => within 30 1000 v
  | .kclHoldoverSf => within 3 8 v
  | .kclStatusPeriod => within 100 10000 v
  | .kclSilence => within 500 60000 v
  | .kclRto => within 20 5000 v
  | .kclWindow => within 16 4096 v
  | .kclBacklogTimeout => within 10 600 v
  | .kclBacklogKeep => within 600 604800 v
  | .kclAlignPeriod => within 1 3600 v
  | .kclAlignLimit => within 100 1000000 v
  | .cellMeasureInterval => within 60 3600 v
  | .ctxBulkPerTick => within 100 2000 v
  | .ctxRotateAlarm => within 0x80000000 0xFF000000 v
  | .ctxMeterIdle => within 10 3600 v
  | .ctxMeterLife => within 60 86400 v
  | .ctxEvictIdle => within 5 3600 v
  | .ctxTlsIdle => within 30 86400 v
  | .keyQuarItems => within 1024 32768 v
  | .keyQuarHold => within 60 86400 v
  | .tamperMesh => within 0 1 v
  | .tamperInEnable => within 0 1 v
  | .tamperInLevel => within 0 1 v
  | .tamperInDebounce => within 0 1000 v
  | .tlsKeyUpdate => within 65536 16777216 v
  | .tlsCertChain => decide (-1 ≤ v) && decide (v < 2 ^ 65536)
  | .schedCloseReserve => within 16000 320000 v
  | .schedJournalLimit => within 512 8192 v
  | .schedExportStall => within 10 10000 v
  | .graphDrainTicks => within 1 100 v
  | .ethFcMode => within 0 2 v
  | .valSweepPerTick => within 1024 65536 v
  | .valLedgerDays => within 1 90 v
  | .valEstOpenMax => within 1 2160 v
  | .valStatDup | .valStatUnm | .valStatRef | .valStatEvict => false
  | .billClosePerTick => within 1024 65536 v
  | .billProfileDepth => within 1 99 v
  | .billMb1Role => within 0 2 v
  | .tapEnable => within 0 1 v
  | .tapVLsb => within 1 1000000 v
  | .tapILsb => within 1 100000000 v
  | .tapTrackSrc => within 0 4 v
  | .tapNominalHz => [50, 60].contains v
  | .chMaLen => within 1 1024 v
  | .chMaDec => within 1 256 v
  | .chResponse => within 0 31 v
  | .chK => [64, 128, 256].contains v
  | .chFadeLen => within 64 4096 v
  | .chOutQueue => within (-1) 2047 v
  | .balGrace => within 0 8 v
  | .balRevise => within 0 672 v
  | .balGapEstMax => within 0 50 v
  | .balHalfLife => within 24 2160 v
  | .balMinWeight => within 16 4096 v
  | .balRMin => within 500000 990000 v
  | .balMargin => within 10000 500000 v
  | .balRunLen => within 1 4096 v
  | .balWeight => within 0 255 v
  | .balDecay => within 0 256 v
  | .balAlarmScore => within 1 255 v
  | .balDropPct => within 1 90 v
  | .balDropDays => within 1 30 v
  | .balDropRefDays => within 7 90 v
  | .balTamperEv | .balMagneticEv | .balNeutralEv => within 0 255 v
  | .balScoreDelay => within 0 720 v
  | .balScorePerTick => within 1024 65536 v
  | .balStatUnattr | .balStatMismatch | .balStatIgnored | .balStatLate | .balStatStale => false
  | .stRetDays => within 1 3650 v
  | .stRetFloor => within 0 3650 v
  | .stReclaimFree => within 1 64 v
  | .stMinCapacity => within 0 320 v
  | .stWearStatic => within 0 1 v
  | .stSpreadLimit => within 50 1000 v
  | .stGcStart => within 64 256 v
  | .stGcUrgent => within 16 240 v
  | .stCkptTrigger => within 512 2048 v
  | .stFineMax => within 256 2048 v
  | .stRefreshDays => within 30 730 v
  | .recPerSource => within 16 1024 v
  | .updCountersign => within 0 1 v
  | .updLockIdle => within 60 86400 v
  | .updGraftTimeout => within 60 3600 v
  | .campMulticastMin => within 1 64 v
  | .campMaxRounds => within 1 32 v
  | .campMeterTimeout => within 1 720 v
  | .campBlocksPerTick => within 16 4096 v
  | .pairMode => within 0 1 v
  | .pairPeerId => decide (0 ≤ v) && decide (v < 2 ^ 128)
  | .pairKey => within 0 0xFFFFFFFF v
  | .pairServiceAddr => unicast6 v
  | .pairBootWait => within 500 60000 v
  | .pairBootSolo => within 0 1 v
  | .pairMaxLag => within 1 100 v
  | .pairDeltaBuffer => within 16 256 v
  | .pairResyncMbps => within 1000 20000 v
  | .pairScrubPeriod => within 60 86400 v
  | .pairSwapPeriod => within 0 30 v
  | .pairSwapWindow => within 1 24 v
  | .pairSwapMaxBusy => within 5 90 v
  | .pairSwapVerify => within 10 600 v
  | .mbTunnelOutstanding => within 1 64 v
  | .ethSpeed => within 0 2 v
  | .ethFec => within 0 2 v
  | .ethPfcPrio => within 0 255 v

/-- R58, R64, R71: the timing of a coordinated port is possible. -/
def plcTimingOk (l : List (ParamId × PVal)) (lp : Nat) : Bool :=
  let band := prmIn l .plcBand lp
  let mn : Int := if band = 0 then 8 else 3
  let robo : Int := if band = 0 then 72000 else 26000
  let b := prmIn l .plcBeaconTicks lp
  let t := prmIn l .plcSlotTicks lp
  decide (mn ≤ b) && decide (mn ≤ t) &&
  decide (2 ≤ prmIn l .plcSfTicks lp - b - prmIn l .plcCfpSlots lp * t) &&
  decide (prmIn l .plcBeaconOffset lp + robo ≤ b * 10000)

/-- The parameters that fix an RF port's PHY mode, as a list (R82). -/
def rfModeList (l : List (ParamId × PVal)) (n : Nat) : List Int :=
  [prmIn l .rfMode n, prmIn l .rfFskRate n, prmIn l .rfFskLevels n, prmIn l .rfFskFec n, prmIn l .rfFskPreamble n,
   prmIn l .rfOfdmOption n, prmIn l .rfOfdmMcs n]

/-- R82: the OFDM MCS and the FSK levels are ones the mode supports. -/
def rfPhyOk (l : List (ParamId × PVal)) (n : Nat) : Bool :=
  let mcs := prmIn l .rfOfdmMcs n
  (match prmIn l .rfOfdmOption n with
   | 1 => within 0 3 mcs
   | 2 => within 0 5 mcs
   | 3 => within 1 6 mcs
   | _ => within 2 6 mcs) &&
  (prmIn l .rfFskLevels n = 2 || prmIn l .rfFskRate n = 200)

/-- R89: the maximum frame airtime of a timeslot holds rf.port[n].max_psdu. -/
def rfSlotOk (l : List (ParamId × PVal)) (n : Nat) : Bool :=
  let m := rfModeList l n
  decide ((Config.rfAirtime m (prmIn l .rfMaxPsdu n).toNat : Int) ≤
    prmIn l .rfTsUs n - 9000 - 3000 - Config.rfAckAirtime m - 1000)

/-- R503: RS-FEC is not offered at 10G. -/
def ethFecOk (l : List (ParamId × PVal)) (x : Nat) : Bool :=
  !(prmIn l .ethSpeed x = 1 && prmIn l .ethFec x = 2)

/-- Ranges that name another parameter, as they will stand (R42). -/
def jointOk (l : List (ParamId × PVal)) (budget : Nat) (id : ParamId) : Bool :=
  match id.key with
  | .plcBand | .plcSfTicks | .plcBeaconTicks | .plcSlotTicks | .plcCfpSlots | .plcBeaconOffset => plcTimingOk l id.idx
  | .rfOfdmMcs | .rfOfdmOption | .rfFskLevels | .rfFskRate => rfPhyOk l id.idx && (prmIn l .rfMode id.idx = 0 || rfSlotOk l id.idx)
  | .rfMode | .rfFskFec | .rfFskPreamble | .rfMaxPsdu | .rfTsUs =>
    prmIn l .rfMode id.idx = 0 || rfSlotOk l id.idx
  | .ethSpeed | .ethFec => ethFecOk l id.idx
  | .stGcStart | .stGcUrgent => decide (prmIn l .stGcUrgent 0 ≤ prmIn l .stGcStart 0 - 16)
  | .stRetDays | .stRetFloor => decide (prmIn l .stRetFloor id.idx ≤ prmIn l .stRetDays id.idx)
  | .schedCloseReserve => decide ((budget : Int) + prmIn l .schedCloseReserve 0 ≤ 640000)
  | _ => true

/-- SET_PARAM may set the parameter from this mailbox in this state (R472 step 2). -/
def pSettable (k : ParamKey) (idx mbx : Nat) (life : Life) (pairMode : Bool) : Bool :=
  match k with
  | .tdNumber | .tdProfile | .tdPort | .tdTransport | .tdEnable | .tSelect => false
  | .valStatDup | .valStatUnm | .valStatRef | .valStatEvict => false
  | .balStatUnattr | .balStatMismatch | .balStatIgnored | .balStatLate | .balStatStale => false
  | .stRetDays | .stRetFloor => false
  | .tamperMesh | .tamperInEnable | .tamperInLevel | .tamperInDebounce => mbx == 0 && decide (life = .provisioned)
  | .updCountersign => mbx == 0 && decide (life = .provisioned)
  | .ethSpeed | .ethFec => mbx == 0 && !(idx == 2 && pairMode)
  | .plcBand | .plcMode | .plcPanId | .plcSfTicks | .plcBeaconTicks | .plcSlotTicks | .plcCfpSlots | .plcBeaconOffset
  | .plcZcDet | .plcZcPhase | .plcRobustGain | .plcMaxRetx | .plcZoneFaultDb | .plcTmMargin | .plcTmRefresh
  | .plcMaxGrantPeriod | .plcWorsen | .plcSwitchMargin | .plcMaxChildren | .plcNbrAge | .plcExclusive
  | .rfMode | .rfIqRate | .rfFskRate | .rfFskLevels | .rfFskFec | .rfFskPreamble | .rfOfdmOption | .rfOfdmMcs | .rfPanId
  | .rfTsUs | .rfSfLen | .rfHopLen | .rfMaxPsdu | .rfEbPeriod | .rfDwellBuckets | .rfDwellLimit | .rfAckReserve
  | .rfDutyWindow | .rfDutyLimit | .rfDriftInit | .rfDriftFloor | .rfResyncTries
  | .ctxBulkPerTick | .ctxRotateAlarm | .ctxMeterIdle | .ctxMeterLife | .ctxEvictIdle | .ctxTlsIdle
  | .valSweepPerTick | .valLedgerDays | .valEstOpenMax => mbx == 0 || mbx == 1
  | _ => mbx == 0

/-- SET_PARAM of this parameter changes replicated state (R471): every namespace but time, pair, tamper, upd and mb. -/
def pReplicated (k : ParamKey) : Bool :=
  match k with
  | .tdNumber | .tdProfile | .tdPort | .tdTransport | .tdEnable | .tSelect | .tAutoHoldoff | .tLockThr | .tHoldLimit
  | .tUtcDefault | .tHostWd | .tEthdDomain | .tEthdProfile | .tEthdLogSync | .tEthdOneStep
  | .pairMode | .pairPeerId | .pairKey | .pairServiceAddr | .pairBootWait | .pairBootSolo | .pairMaxLag
  | .pairDeltaBuffer | .pairResyncMbps | .pairScrubPeriod | .pairSwapPeriod | .pairSwapWindow | .pairSwapMaxBusy
  | .pairSwapVerify
  | .tamperMesh | .tamperInEnable | .tamperInLevel | .tamperInDebounce
  | .updCountersign | .updLockIdle | .updGraftTimeout | .mbTunnelOutstanding => false
  | _ => true

/-- The boundary at which a change takes effect (R42, R44, R61, R102, R392). -/
def pBound (s : State) (id : ParamId) : PBound :=
  match id.key with
  | .plcBand | .plcMode | .plcPanId | .plcSfTicks | .plcBeaconTicks | .plcSlotTicks | .plcCfpSlots | .plcBeaconOffset
  | .plcZcDet | .plcZcPhase | .plcRobustGain | .plcMaxRetx | .plcZoneFaultDb | .plcTmMargin | .plcTmRefresh
  | .plcMaxGrantPeriod | .plcWorsen | .plcSwitchMargin | .plcMaxChildren | .plcNbrAge =>
    if prm s .plcMode id.idx = 2 then .superframe id.idx else .tick
  | .rfMode | .rfTsUs | .rfSfLen | .rfHopLen | .rfFskRate | .rfFskLevels | .rfFskFec | .rfFskPreamble | .rfOfdmOption
  | .rfOfdmMcs | .rfIqRate => if prm s .rfMode id.idx = 0 then .tick else .slotframe id.idx
  | .pairMode => .powerUp
  | _ => .tick

/-- A value of the right TYPE and in the range of its own row. -/
def pValOk (id : ParamId) (v : PVal) : Bool :=
  decide (id.idx < pCount id.key) &&
  (decide (v.ty = pType id.key) || (decide (id.key = .chOutQueue) && decide (v = ⟨.token, -1⟩))) &&
  (ownRange id.key v.val) &&
  (!(decide (id.key = .chOutQueue) && decide (v.ty = .integer) && decide (v.val < 0)))

/-- Add a change to those waiting; a later one for the same parameter and boundary stands (R446). -/
def addPend (l : List PendParam) (q : PendParam) : List PendParam :=
  (l.filter (fun x => decide (x.id ≠ q.id))) ++ [q]

/-- A change of time.eth_d.profile also sets the interval to the profile's default (R42). -/
def pendWithProfile (s : State) (l : List PendParam) (id : ParamId) (v : PVal) : List PendParam :=
  let l1 := addPend l ⟨id, v, pBound s id⟩
  if decide (id.key = .tEthdProfile) && decide (prmIn (nextParams s) .tEthdProfile 0 ≠ v.val) then
    addPend l1 ⟨⟨.tEthdLogSync, 0⟩, ⟨.integer, if v.val = 0 then -3 else 0⟩, .tick⟩
  else l1

/-- Accept a list of settings judged together; none of them takes effect where one fails (R42, R476). -/
def acceptParams (s : State) (budget : Nat) (l : List (ParamId × PVal)) : Option State :=
  let will := l.foldl (fun a e => putParam a e.1 e.2) (nextParams s)
  if l.all (fun e => pValOk e.1 e.2 && jointOk will budget e.1) then
    some { s with pendParams := l.foldl (fun a e => pendWithProfile s a e.1 e.2) s.pendParams }
  else none

/-- Put the changes that wait for this boundary into force. -/
def applyPend (s : State) (due : PBound → Bool) : State :=
  { s with
    p := { s.p with params :=
      (s.pendParams.filter (fun q => due q.bound)).foldl (fun l q => putParam l q.id q.val) s.p.params }
    pendParams := s.pendParams.filter (fun q => !due q.bound) }

end Sys2Proof.Machine
end

