-- ==== Sys2Proof/Machine/Ops.lean ====
section
/-! DEFINITION. The operations every family shares: status codes, interrupts, the trouble log and capture sets, the
recorder's write port, mailbox rings, async and FINAL events, and the judging of a GMI request. A command gathers what
it gives off as a list of `Emit`; `emitAll` is the one place where these reach the shared state. -/

namespace Sys2Proof.Machine
open Sys2Proof

/-- Status codes of R9. -/
def stCode : Status → Nat
  | .ok => 0x0000 | .pending => 0x0001 | .busy => 0x0002 | .badCommand => 0x0003 | .badParam => 0x0004
  | .notPermitted => 0x0005 | .noResource => 0x0006 | .timeout => 0x0007 | .aborted => 0x0008 | .flushed => 0x0009
  | .authFail => 0x0101 | .replay => 0x0102 | .replayStale => 0x0103 | .keyRevoked => 0x0104 | .keyAttr => 0x0105
  | .keyMissing => 0x0106 | .tampered => 0x0107
  | .storeFull => 0x0201 | .storeReadonly => 0x0202 | .storeDegraded => 0x0203 | .mediaError => 0x0204
  | .storeBypass => 0x0205
  | .timeUnsynced => 0x0301 | .timeStepped => 0x0302 | .launchLate => 0x0303
  | .linkDown => 0x0401 | .linkRxDrop => 0x0402 | .dwellHold => 0x0403 | .beaconImpaired => 0x0404
  | .guardExceeded => 0x0405 | .iqGap => 0x0406
  | .imageInvalid => 0x0501 | .rollbackRefused => 0x0502 | .updateLocked => 0x0503 | .graftFailed => 0x0504
  | .notActive => 0x0601 | .peerLost => 0x0602 | .digestMismatch => 0x0603
  | .periodClosed => 0x0701 | .calendarInvalid => 0x0702
  | .chainGap => 0x0801 | .balanceInconclusive => 0x0802
  | .tickOverrun => 0x0901

/-! ### Quotients whose rounding the manual leaves open -/

/-- A quotient in whole units where the manual states no rounding: one of the two next to it. -/
def openDivI (r : Config.Rounding) (a b : Int) : Int :=
  if a % b = 0 then a / b else if Config.roundsUp r a b then a / b + 1 else a / b

def openDiv (r : Config.Rounding) (a b : Nat) : Nat := (openDivI r a b).toNat

/-- A quotient rounded to the nearest; which way a tie goes is open. -/
def roundDiv (a b : Nat) : Nat :=
  let c := max 1 b
  let d := 2 * (a % c)
  if d < c then a / c else if c < d then a / c + 1 else if Config.roundsUp .tie a c then a / c + 1 else a / c

/-- Integer square root by bits, from bit `n` down. -/
def isqrtFrom (x : Nat) : Nat → Nat → Nat
  | 0, r => r
  | n + 1, r => let c := r + 2 ^ n; if c * c ≤ x then isqrtFrom x n c else isqrtFrom x n r

def isqrt (x : Nat) : Nat := isqrtFrom x 80 0

/-- The root of a quotient in units of `k`, in whole units where the manual states no rounding. -/
def openRoot (r : Config.Rounding) (a b k : Nat) : Nat :=
  let q := isqrt (a / b) / k
  if q * k * (q * k) * b = a then q else if Config.roundsUp r a (b * k * k : Nat) then q + 1 else q

/-- A signed value as the bits of a field of `n` bytes. -/
def encS (n : Nat) (x : Int) : Nat := (x % (2 ^ (8 * n) : Int)).toNat

/-- Four bytes of a number, lowest first. -/
def le4 (v : Nat) : List Nat := [v % 256, v / 256 % 256, v / 65536 % 256, v / 16777216 % 256]

/-- Bytes of a payload. -/
def bodyLen (b : Body) : Nat := (b.map Prod.snd).sum

/-- The first field of a payload that the model names only by its value. -/
def fld (v n : Nat) : Nat × Nat := (v, n)

/-! ### Time readings -/

def unitsPerNs : Nat := 4294967296

def etNs (s : State) : Nat := s.time.et / unitsPerNs

def nsPerS : Nat := 1000000000

/-- ET64: the low 32 bits of the seconds in bits [63:32], the nanoseconds in bits [31:0] (R419). -/
def et64 (ns : Nat) : Nat := (ns / nsPerS) % 4294967296 * 4294967296 + ns % nsPerS

/-- The pair Tick number of the current Tick (R402). -/
def pairTickOf (s : State) : Nat := ((s.vault.tick : Int) + s.pair.delta).toNat

/-! ### What a command gives off -/

inductive Emit where
  /-- An async event (R451, R490): STATUS, NOTICE, the mailboxes as a mask, and the body after NOTICE. -/
  | event (st : Status) (notice : Nat) (mbs : BitVec 8) (body : Body)
  /-- The FINAL event of the oldest command of that code still PENDING. -/
  | final (code : Nat) (st : Status) (body : Body)
  /-- A record for the recorder: source, code, payload (R351, R352). -/
  | record (src code : Nat) (body : Body)
  /-- An event for ALARM. -/
  | alarm (a : AlarmItem)
  /-- An error for the trouble log and the capture sets (R460). -/
  | trouble (e : ErrRep)
  /-- An interrupt source's condition arises (R441). -/
  | irq (src : Nat)
  deriving DecidableEq, Repr

/-! ### Interrupts (R440, R441) -/

/-- Routing after reset. -/
def defaultRoute (src : Nat) : Route :=
  if src = 0 then ⟨true, 0, 0⟩ else if src = 1 then ⟨true, 1, 0⟩ else if src = 9 then ⟨true, 0, 1⟩ else ⟨false, 0, 0⟩

def routeOf (i : IntSt) (src : Nat) : Route := (i.routes.get? src).getD (defaultRoute src)

def msixKey (fn : Fin 2) (entry : Nat) : Nat := 64 * fn.val + entry

/-- Send one message on a vector, or hold it in the PBA while the vector is masked. -/
def msixSend (i : IntSt) (fn : Fin 2) (entry : Nat) : IntSt :=
  let k := msixKey fn entry
  if (i.msix.getD k {}).mask then { i with pba := i.pba.set k () }
  else { i with sent := i.sent.set k (i.sent.getD k 0 + 1) }

/-- A source's condition arises: its pending bit is set while its route is enabled, and one message goes on a change from 0 to 1. -/
def irqRaise (i : IntSt) (src : Nat) : IntSt :=
  let r := routeOf i src
  if r.enable && !i.pend.getLsbD src then
    let i1 := { i with pend := i.pend ||| (BitVec.ofNat 128 (2 ^ src)) }
    if i.globalEn then msixSend i1 r.func r.entry else i1
  else i

/-! ### Trouble log and capture sets (R362, R460) -/

def capOf (e : ErrSt) (cls : Nat) : CapSet := e.sets.getD cls {}

/-- Write one entry; capture it when its class's set is not VALID. The interrupt goes with a capture whose class is enabled. -/
def errLog (mc : Nat) (e : ErrSt) (r : ErrRep) : ErrSt × Bool :=
  let set := capOf e r.cls
  let first := !set.valid
  let d : Body := r.detail.map (fun v => (v, 1))
  let ent : TEntry := ⟨mc, r.addr, r.loc, r.cls, r.accessor, first, r.code, d⟩
  let set' : CapSet :=
    if first then ⟨true, r.addr, r.loc, r.accessor + 128, r.code, d, mc, 0⟩
    else { set with count := satInc 32 set.count }
  let log := e.tlog ++ [ent]
  ({ e with
     sets := e.sets.set r.cls set'
     tlog := if 4096 < log.length then log.drop 1 else log
     tnext := wrapAdd 32 e.tnext 1 },
   first && e.intEnable.getLsbD r.cls)

/-! ### The recorder's write port (R350, R353, R354) -/

/-- Privileged sources (R351). -/
def srcPrivileged (src : Nat) : Bool := [2, 3, 4, 5, 6, 7].contains src

/-- TROUBLE_COPY records are never suppressed (R365). -/
def recUnsuppressed (src code : Nat) : Bool := srcPrivileged src || code == 0x8070

/-- A record with its stamp. -/
def mkRec (s : State) (src code : Nat) (body : Body) : Rec :=
  if srcPrivileged src then
    ⟨src, code, true, etNs s / nsPerS, etNs s / 1000000 % 1000, body⟩
  else ⟨src, code, false, s.vault.opSeconds, s.vault.powerCycles, body⟩

/-- Hand a record to the write port; what a source writes beyond its share of the Tick is counted instead. -/
def recPush (limit : Nat) (r : RecSt) (x : Rec) : RecSt :=
  if r.state = .stopped then r
  else if recUnsuppressed x.src x.code then { r with port := r.port ++ [x] }
  else
    let n := r.perSource.getD x.src 0
    if n < limit then { r with port := r.port ++ [x], perSource := r.perSource.set x.src (n + 1) }
    else
      { r with
        overSource := r.overSource.set x.src (r.overSource.getD x.src 0 + 1)
        suppressed := r.suppressed + 1
        stSuppressed := true }

/-- REC_STATUS[11:8]: PAGE_RETIRED, HEARTWOOD_FAULT, SUPPRESSED, MARK_MOVED. -/
def recSticky (r : RecSt) : BitVec 4 :=
  BitVec.ofNat 4 (b2n r.stPageRetired + 2 * b2n r.stHeartFault + 4 * b2n r.stSuppressed + 8 * b2n r.stMarkMoved)

/-- Source 14 is raised where an enabled bit of REC_STATUS has been set since `old`. -/
def recRaise (old : RecSt) (s : State) : State :=
  if recSticky s.recd &&& ~~~(recSticky old) &&& s.recd.intEnable ≠ 0 then { s with irq := irqRaise s.irq 14 } else s

/-! ### Mailbox rings (R443 to R452) -/

def boxOf (m : MbSt) (i : Nat) : Mailbox := m.boxes.getD i {}

/-- Free descriptors of a ring of 256. -/
def ringFree (head tail : Word32) : Nat := 256 - (head - tail).toNat

/-- Descriptors of one message of `len` payload bytes (R444). -/
def descsOf (len : Nat) : Nat := 1 + (len - 48 + 63) / 64

/-- Messages a payload of `len` bytes takes (R445). -/
def msgsOf (len : Nat) : Nat := if len ≤ 4096 then 1 else (len + 4095) / 4096

/-- The messages `i, i+1, …` of a payload; the fields are carried by the first. -/
def splitMsgs (m : Msg) (len : Nat) : Nat → Nat → List Msg
  | 0, _ => []
  | n + 1, i =>
    let here := if n = 0 then len - 4096 * i else 4096
    { m with seq := i, more := decide (n ≠ 0), body := if i = 0 then m.body else [], ndesc := descsOf here }
      :: splitMsgs m len n (i + 1)

def toMsgs (m : Msg) : List Msg :=
  let len := bodyLen m.body
  splitMsgs m len (msgsOf len) 0

/-- A mailbox whose rings the host serves (0, 1, 6), rather than a tunnel or the peer link. -/
def hostBox (i : Nat) : Bool := i == 0 || i == 1 || i == 6

/-- Put one message into the response ring, if it fits. A tunnelled mailbox hands it to its session at once. -/
def rspPut (i : Nat) (b : Mailbox) (m : Msg) : Mailbox :=
  let b1 := { b with rspHead := b.rspHead + BitVec.ofNat 32 m.ndesc, rspRing := b.rspRing ++ [m] }
  if hostBox i then b1 else { b1 with rspTail := b1.rspHead }

/-- Write waiting response messages while the ring has room. -/
def rspPump (i : Nat) (b : Mailbox) : List Msg → Mailbox
  | [] => { b with rspWait := [] }
  | m :: t =>
    if m.ndesc ≤ ringFree b.rspHead b.rspTail then rspPump i (rspPut i b m) t
    else { b with rspWait := m :: t }

/-- Discard an answer (R452). -/
def discardAnswer (b : Mailbox) : Mailbox :=
  { b with discarded := satInc 16 b.discarded, rspDiscarded := true }

/-- Write a response: discarded where nobody is there to take it. -/
def rspWrite (i : Nat) (alive : Bool) (b : Mailbox) (m : Msg) : Mailbox :=
  if alive then rspPump i b (b.rspWait ++ toMsgs m) else discardAnswer b

/-- Put one message into the event ring; the first after a drop carries LOST (R451). -/
def evtPut (i : Nat) (b : Mailbox) (m : Msg) : Mailbox :=
  let b1 := { b with
    evtHead := b.evtHead + BitVec.ofNat 32 m.ndesc
    evtRing := b.evtRing ++ [{ m with lost := b.lostNext }]
    lostNext := false }
  if hostBox i then b1 else { b1 with evtTail := b1.evtHead }

/-- Write waiting events while the ring has room; a FINAL event written ends its command's PENDING. -/
def evtPump (i : Nat) (b : Mailbox) : List Msg → Mailbox
  | [] => { b with finals := [] }
  | m :: t =>
    if m.ndesc ≤ ringFree b.evtHead b.evtTail then
      let b1 := evtPut i b m
      evtPump i { b1 with pend := if m.final then b1.pend.filter (fun p => !(p.tag == m.tag && p.sess == m.sess)) else b1.pend } t
    else { b with finals := m :: t }

/-- An async event at one mailbox (R451). -/
def asyncPut (i : Nat) (b : Mailbox) (m : Msg) : Mailbox :=
  if b.finals ≠ [] || ringFree b.evtHead b.evtTail < 65 then
    { b with dropped := satInc 16 b.dropped, evtDropped := true, lostNext := true }
  else evtPut i b m

/-- Sessions bound to a mailbox. -/
def sessionsOf (m : MbSt) (i : Nat) : List Nat :=
  (m.tls.filter (fun e => e.2.mb.val == i)).map Prod.fst

/-- Somebody is there to take what mailbox `i` writes for session `sess`. -/
def mbAlive (m : MbSt) (i sess : Nat) : Bool :=
  if hostBox i then (boxOf m i).enable
  else if i == 4 then true
  else (m.tls.get? sess).isSome

/-- Mailbox `i` takes part in async events: an enabled host mailbox, or one with a session bound. -/
def mbListens (m : MbSt) (i : Nat) : Bool :=
  if hostBox i then (boxOf m i).enable else if i == 4 then true else !(sessionsOf m i).isEmpty

def mbSet (m : MbSt) (i : Nat) (b : Mailbox) : MbSt := { m with boxes := m.boxes.set i b }

/-- Write an event or response into mailbox `i` and raise its source where MB_CTRL enables it. -/
def mbUpd (s : State) (i : Nat) (b : Mailbox) : State :=
  let old := boxOf s.mb i
  let s1 := { s with mb := mbSet s.mb i b }
  if (b.intRsp && decide (b.rspHead ≠ old.rspHead)) || (b.intEvt && decide (b.evtHead ≠ old.evtHead)) then
    { s1 with irq := irqRaise s1.irq i }
  else s1

/-- The message of an async event: NOTICE and a reserved field, then its body (R490). -/
def asyncMsg (st : Status) (notice : Nat) (body : Body) : Msg :=
  ⟨true, false, false, 0, 0, 0, st, 0, false, (notice, 2) :: (0, 2) :: body, descsOf (4 + bodyLen body)⟩

/-- Post an async event on the mailboxes of a mask, in ascending order. -/
def postAsync (s : State) (mbs : BitVec 8) (m : Msg) : List Nat → State
  | [] => s
  | i :: t =>
    let s1 := if mbs.getLsbD i && mbListens s.mb i then mbUpd s i (asyncPut i (boxOf s.mb i) m) else s
    postAsync s1 mbs m t

def boxList : List Nat := [0, 1, 2, 3, 4, 5, 6]

/-- The mailboxes that hold a PENDING command of a code, first found. -/
def findPend (m : MbSt) (code : Nat) : List Nat → Option (Nat × PendCmd)
  | [] => none
  | i :: t =>
    match ((boxOf m i).pend ++ (boxOf m i).orphans).find? (fun p => p.code == code) with
    | some p => some (i, p)
    | none => findPend m code t

/-- Post the FINAL event of a PENDING command of mailbox `i` (R448, R451, R452). -/
def postFinalAt (s : State) (i : Nat) (p : PendCmd) (st : Status) (body : Body) : State :=
  let b := boxOf s.mb i
  let m : Msg := ⟨true, true, false, p.code, p.tag, p.sess, st, 0, false, body, descsOf (bodyLen body)⟩
  if b.orphans.contains p then mbUpd s i (discardAnswer { b with orphans := b.orphans.filter (fun q => decide (q ≠ p)) })
  else if mbAlive s.mb i p.sess then
    let b1 := { b with pend := b.pend.map (fun q => if q = p then { q with code := 0 } else q) }
    mbUpd s i (evtPump i b1 (b1.finals ++ toMsgs m))
  else mbUpd s i (discardAnswer { b with pend := b.pend.filter (fun q => decide (q ≠ p)) })

def postFinal (s : State) (code : Nat) (st : Status) (body : Body) : State :=
  match findPend s.mb code boxList with
  | some (i, p) => postFinalAt s i p st body
  | none => s

/-- The recorder source of an async event named by a status (R351, R352). -/
def eventSource : Status → Nat
  | .timeStepped | .timeUnsynced => 0x002
  | .beaconImpaired | .iqGap | .linkDown => 0x014
  | .tickOverrun => 0x013
  | .chainGap => 0x015
  | .storeDegraded | .storeReadonly | .storeFull | .storeBypass | .mediaError => 0x012
  | .keyMissing => 0x003
  | .aborted => 0x011
  | .peerLost | .digestMismatch => 0x011
  | _ => 0x011

/-- A payload cut to `n` bytes' worth of whole fields (R352). -/
def cutBody : Body → Nat → Body
  | [], _ => []
  | (v, k) :: t, n => if k ≤ n then (v, k) :: cutBody t (n - k) else []

/-- Stands for the LOCATION of an error whose place no rule names: a free value. -/
def locOpen : Nat := 2 ^ 48

/-- One thing given off reaches the shared state. -/
def emit1 (s : State) : Emit → State
  | .event st notice mbs body =>
    let s1 := postAsync s mbs (asyncMsg st notice body) boxList
    if st = .ok then s1
    else
      let x := mkRec s1 (eventSource st) (stCode st) (cutBody ((notice, 2) :: (0, 2) :: body) 44)
      recRaise s1.recd { s1 with recd := recPush (prmN s1 .recPerSource) s1.recd x }
  | .final code st body => postFinal s code st body
  | .record src code body =>
    recRaise s.recd { s with recd := recPush (prmN s .recPerSource) s.recd (mkRec s src code (cutBody body 44)) }
  | .alarm a => { s with alarms := s.alarms ++ [a] }
  | .trouble e =>
    let open_ := decide (e.loc = locOpen)
    let r := errLog s.time.mc s.err (if open_ then { e with loc := Config.freeValue s.freeCtr % 2 ^ 48 } else e)
    let s1 := { s with err := r.1, freeCtr := if open_ then s.freeCtr + 1 else s.freeCtr }
    if r.2 then { s1 with irq := irqRaise s.irq 9 } else s1
  | .irq src => { s with irq := irqRaise s.irq src }

/-- Everything a command gives off, in order. -/
def emitAll (s : State) : List Emit → State
  | [] => s
  | e :: t => emitAll (emit1 s e) t

/-- The mask of mailboxes 0 and 1. -/
def mb01 : BitVec 8 := 3

def mb0 : BitVec 8 := 1

/-- An alarm of an engine or meter event (R491): KEY, now, EVENT, data. -/
def alarmNow (s : State) (key event : Nat) (data : Body) : Emit := .alarm ⟨key, etNs s, event, data⟩

/-- KEY forms of R418: an MCX, or a link ID with LINK set. -/
def keyMcx (mcx : Nat) : Nat := mcx

def keyLink (id : Nat) : Nat := id + 0x100000

/-! ### Violations (R458, R459) -/

/-- The accessor byte of R362: master, world (0 secure, 1 normal), write. -/
def accByte (master world : Nat) (wr : Bool) : Nat := master + 16 * world + 64 * b2n wr

/-- Kinds of violation: 1 UNDECODED, 2 WORLD, 3 READ_ONLY, 4 MISALIGNED, 5 ROLE. -/
def violCode (kind : Nat) : Status := if kind = 1 || kind = 4 then .badParam else .notPermitted

/-- The trouble entry of a PCIe access that is a violation. -/
def violAccess (fn : Fin 2) (offset size kind : Nat) (wr : Bool) : Emit :=
  .trouble ⟨1, offset, locOpen, accByte (2 + fn.val) fn.val wr, violCode kind, [kind, 0xFF, 0, 0, size]⟩

/-- A violating write: the entry, and an advisory Unsupported Request through AER. -/
def violWrite (s : State) (fn : Fin 2) (offset size kind : Nat) : State :=
  let s1 := emit1 s (violAccess fn offset size kind true)
  { s1 with reg := { s1.reg with aerUr := s1.reg.aerUr.set fn.val (s1.reg.aerUr.getD fn.val 0 + 1) } }

/-- A read that is a violation: the entry, and Unsupported Request, or Completer Abort where it is misaligned (R458). -/
def violRead (s : State) (fn : Fin 2) (offset size kind : Nat) : State :=
  let s1 := emit1 s (violAccess fn offset size kind false)
  if kind = 4 then { s1 with reg := { s1.reg with aerCa := s1.reg.aerCa.set fn.val (s1.reg.aerCa.getD fn.val 0 + 1) } }
  else { s1 with reg := { s1.reg with aerUr := s1.reg.aerUr.set fn.val (s1.reg.aerUr.getD fn.val 0 + 1) } }

/-- An access of a function ends the life of its read shadow (R494). -/
def acc (s : State) (fn : Fin 2) : State :=
  { s with reg := if fn = 0 then { s.reg with shadow0 := none } else { s.reg with shadow1 := none } }

/-! ### Judging and answering GMI requests (R446 to R457) -/

/-- What *GMI Command Reference* gives a command: its code; the mailboxes that accept it whatever the role; the roles
that 2, 3 accept (bit r for role r) and whether 5 does; whether the access table decides instead (T); the lifecycle
states (bit l for state l); the flags W, C and P; and whether safe hold accepts it (R465). -/
structure CmdInfo where
  code : Nat
  plain : BitVec 8
  roles : BitVec 5 := 0
  byTable : Bool := false
  states : BitVec 5 := 0x1F
  w : Bool := false
  c : Bool := false
  pflag : Bool := false
  hold : Bool := false
  deriving DecidableEq, Repr

def lifeIdx : Life → Nat
  | .blank => 0 | .provisioned => 1 | .operational => 2 | .service => 3 | .retired => 4

def roleIdx : Role → Nat
  | .utilityAdmin => 0 | .billingReader => 1 | .operations => 2 | .fieldService => 3 | .pub => 4

/-- The master of a request by its mailbox (R442). -/
def mbMaster (s : State) (r : Req) : Nat :=
  match r.mb.val with
  | 0 => 2 | 1 => 3 | 2 => 4 | 3 => 5 | 4 => 6 | 6 => 7
  | _ => match s.mb.tls.get? r.sess with
    | some t => 4 + t.port.val
    | none => 4

def mbWorld (r : Req) : Nat := if r.mb.val = 1 then 1 else 0

/-- The role of a tunnelled request's session. -/
def reqRole (s : State) (r : Req) : Role := match s.mb.tls.get? r.sess with
  | some t => t.role
  | none => .pub

/-- Access by mailbox and role (R469); `tbl` is what the access table says of a role where T stands. -/
def accessOk (s : State) (ci : CmdInfo) (tbl : Role → Bool) (r : Req) : Bool :=
  let m := r.mb.val
  if m = 2 || m = 3 then
    if ci.byTable then tbl (reqRole s r) else ci.roles.getLsbD (roleIdx (reqRole s r))
  else if m = 5 then
    if ci.byTable then tbl .fieldService else ci.plain.getLsbD 5
  else if m = 1 && ci.byTable then
    ci.plain.getLsbD 1 && tbl (match prm s .billMb1Role with | 1 => .billingReader | 2 => .pub | _ => .operations)
  else if m = 6 then ci.plain.getLsbD 6 && decide (s.vault.life = .service)
  else ci.plain.getLsbD m

/-- Descriptors of this request's chain that are taken already. -/
def chainHad (b : Mailbox) (tag : Word16) : Nat :=
  match b.reqChain with
  | some (t, n) => if t = tag then n else 0
  | none => 0

/-- The engine takes a request of this mailbox now (R446, R447, R452). -/
def canTake (s : State) (r : Req) : Bool :=
  let b := boxOf s.mb r.mb.val
  s.boot.powered && !s.boot.held && !s.boot.pfw && decide (3 ≤ s.boot.stage) &&
  decide (r.mb.val ≠ 7) &&
  decide (65 ≤ ringFree b.rspHead b.rspTail) && b.rspWait.isEmpty && decide (b.pend.length < 32) &&
  (if hostBox r.mb.val then
     b.enable && decide (0 < r.ndesc) &&
     decide (r.ndesc ≤ (b.reqProd - b.reqCons).toNat + chainHad b r.tag)
   else match b.arrived with
     | a :: _ => decide (a.sess = r.sess) && decide (a.tag = r.tag)
     | [] => false)

/-- Take the request off its ring. -/
def takeReq (s : State) (r : Req) : State :=
  let i := r.mb.val
  let b := boxOf s.mb i
  let b1 := { b with
    reqCons := b.reqCons + BitVec.ofNat 32 (r.ndesc - chainHad b r.tag)
    taken := satInc 32 b.taken
    reqChain := none
    arrived := if hostBox i then b.arrived else b.arrived.drop 1 }
  let tls := if hostBox i then s.mb.tls
    else s.mb.tls.modify r.sess (fun t => { t with outstanding := t.outstanding - 1 })
  { s with mb := { mbSet s.mb i b1 with lastServed := i, tls := tls } }

/-- Answer a request. A PENDING answer enters the list of PENDING commands. -/
def answer (s : State) (r : Req) (code : Nat) (st : Status) (body : Body) : State :=
  let i := r.mb.val
  let b := boxOf s.mb i
  let b1 := { b with
    badRequest := b.badRequest || decide (st = .badParam) || decide (st = .badCommand)
    pend := if st = .pending then b.pend ++ [⟨code, r.tag, r.sess⟩] else b.pend }
  mbUpd s i (rspWrite i (mbAlive s.mb i r.sess) b1
    ⟨false, false, false, code, r.tag, r.sess, st, 0, false, body, descsOf (bodyLen body)⟩)

/-- A request chain that another request breaks is answered once, at its tag, with BAD_PARAM, and what was taken of it
is discarded (R445). -/
def breakChain (s : State) (i : Nat) (tag : Word16) (st : Status) : State :=
  let b := boxOf s.mb i
  match b.reqChain with
  | some (t, _) =>
    if t = tag then s
    else
      let b1 := { b with reqChain := none, badRequest := b.badRequest || decide (st = .badParam) }
      mbUpd s i (rspWrite i (mbAlive s.mb i 0) b1 ⟨false, false, false, 0, t, 0, st, 0, false, [], 1⟩)
  | none => s

/-- Non-ACTIVE in PAIR mode (R393). -/
def notActive (s : State) : Bool := s.pair.modePair && decide (s.pair.role ≠ .active)

/-- Boot stages in which W and P commands answer BUSY (R449). -/
def beforeService (s : State) : Bool := decide (3 ≤ s.boot.stage) && decide (s.boot.stage ≤ 5)

/-- A handler's outcome: the state, the answer and what is given off. -/
structure Reply where
  s : State
  st : Status
  body : Body := []
  es : List Emit := []
  deriving DecidableEq, Repr

/-- The judgement of a taken request before its payload: the status that answers it, or none (R449, R450, R457, R465, R393). -/
def judge (s : State) (ci : CmdInfo) (tbl : Role → Bool) (r : Req) : Option Status :=
  if !r.hdrOk || (decide (1 < r.msgs) && !ci.c) || decide (16 < r.msgs) then some .badParam
  else if (boxOf s.mb r.mb.val).pend.any (fun p => p.tag == r.tag && p.sess == r.sess) then some .badParam
  else if s.err.safeHold && !ci.hold then some .notPermitted
  else if !accessOk s ci tbl r then some .notPermitted
  else if !ci.states.getLsbD (lifeIdx s.vault.life) then some .notPermitted
  else if beforeService s && (ci.w || ci.pflag) then some .busy
  else if !r.formOk then some .badParam
  else if ci.w && notActive s then some .notActive
  else none

/-- The violation that step 3 of R457 logs. -/
def roleViolation (s : State) (ci : CmdInfo) (tbl : Role → Bool) (r : Req) : List Emit :=
  if r.hdrOk && !(decide (1 < r.msgs) && !ci.c) && !decide (16 < r.msgs) && !s.err.safeHold &&
     !(boxOf s.mb r.mb.val).pend.any (fun p => p.tag == r.tag && p.sess == r.sess) && !accessOk s ci tbl r then
    [.trouble ⟨1, 0, locOpen, accByte (mbMaster s r) (mbWorld r) false, .notPermitted,
      [5, r.mb.val, ci.code % 256, ci.code / 256, 0]⟩]
  else []

/-- One GMI command: taken, judged, its handler run, answered. A request that cannot be taken changes nothing. -/
def gmiT (ci : CmdInfo) (tbl : Role → Bool) (r : Req) (h : State → Reply) (s : State) : State :=
  if canTake s r then
    let s1 := takeReq (breakChain s r.mb.val r.tag .badParam) r
    match judge s1 ci tbl r with
    | some st => answer (emitAll s1 (roleViolation s1 ci tbl r)) r ci.code st []
    | none =>
      let o := h s1
      emitAll (answer o.s r ci.code o.st o.body) o.es
  else s

/-- As `gmiT`, for a command without T. -/
def gmi (ci : CmdInfo) (r : Req) (h : State → Reply) (s : State) : State := gmiT ci (fun _ => false) r h s

/-- Answers that change nothing. -/
def deny (s : State) (st : Status) : Reply := ⟨s, st, [], []⟩

/-- The trunk die is powered and not held in reset: its registers answer. -/
def alive (s : State) : Bool := s.boot.powered && !s.boot.held

/-- The engine acts: its trunk die is alive, and no shutdown has been completed (R515: after step 5 it takes no further action). -/
def running (s : State) : Bool := alive s && !s.boot.pfw

/-! ### Output levels -/

/-- ALERT_N is low (R523). -/
def alertNow (s : State) : Bool :=
  (s.boot.held && decide (3 ≤ s.boot.bootFails)) || s.err.safeHold || s.vault.tampered || decide (s.boot.hot ≠ 0)

/-- ROLE is high exactly while the role is ACTIVE or SINGLE (R407), and never in safe hold (R465) or in reset (R520). -/
def roleHigh (s : State) : Bool :=
  alive s && !s.err.safeHold && (decide (s.pair.role = .single) || decide (s.pair.role = .active))

/-- PPS_OUT stays low while ET is in FREE_RUN (R524). -/
def ppsNow (s : State) : Bool := s.boot.ppsHigh && decide (s.time.etState ≠ .freeRun)

/-- The outputs that follow the state take their levels. -/
def settle (s : State) : State :=
  { s with
    boot := { s.boot with alert := alertNow s, ppsHigh := ppsNow s }
    pair := { s.pair with rolePin := roleHigh s } }

/-- What every command ends with: the outputs follow, and the queue of waiting commands is as it was. -/
def finish (old new : State) : Host.Outcome State Fault Refusal := .next { settle new with pending := old.pending }

end Sys2Proof.Machine
end

