-- ==== Sys2Proof/Machine/Time.lean ====
section
/-! DEFINITION. Time, domains and the servo (R11 to R37, R499 to R501, R533 to R535). -/

namespace Sys2Proof.Machine
open Sys2Proof

/-! ### Shared readings and operations of the time unit -/

def incrMin : Nat := 0x01FF7CED91
def incrMax : Nat := 0x020083126F

/-- The slew term: 10 ppm of the nominal increment (R29). -/
def slewTerm : Nat := 0x14F8B

/-- 2 ns in units of 2^-32 ns. -/
def twoNs : Nat := 2 * unitsPerNs

/-- 2^48 seconds in units: the range of a time register. -/
def etRange : Nat := 281474976710656 * nsPerS * unitsPerNs

/-- The domain ET follows under the selection in force; none under NONE (R27, R28). -/
def selDom (s : State) : Option Dom :=
  match prm s .tSelect with
  | 0 => some .a
  | 1 => some .b
  | 2 => some s.time.following
  | _ => none

def domIdx : Dom → Nat | .a => 0 | .b => 1

def otherDom : Dom → Dom | .a => .b | .b => .a

def ptpOf (t : TimeSt) : Dom → DomPtp | .a => t.ptpA | .b => t.ptpB

def ptpSet (t : TimeSt) (d : Dom) (x : DomPtp) : TimeSt :=
  match d with | .a => { t with ptpA := x } | .b => { t with ptpB := x }

def domTime (t : TimeSt) : Dom → Nat | .a => t.domA | .b => t.domB

def domIncr (t : TimeSt) : Dom → Incr | .a => t.incA | .b => t.incB

/-- One cycle of an increment register's pipeline: values whose time has come take effect. -/
def incrTick (i : Incr) : Incr :=
  let l := i.due.map (fun p => (p.1, p.2 - 1))
  { i with
    eff := ((l.filter (fun p => p.2 == 0)).getLast?).elim i.eff Prod.fst
    due := l.filter (fun p => p.2 != 0) }

/-- The advance of ET in one cycle, given the selected domain's time before the cycle and its increment (R28, R29). -/
def etAdvance (et dom inc : Nat) (slewEn : Bool) : Nat :=
  if !slewEn then et + inc
  else if dom + twoNs ≤ et then et + inc - slewTerm
  else if et + twoNs ≤ dom then et + inc + slewTerm
  else dom + inc

/-- One cycle of the time unit's clocks. -/
def clockCycle (sel : Option Dom) (t : TimeSt) : TimeSt :=
  let t1 := { t with incA := incrTick t.incA, incB := incrTick t.incB, incEt := incrTick t.incEt }
  { t1 with
    mc := t.mc + 2
    domA := (t.domA + t1.incA.eff) % etRange
    domB := (t.domB + t1.incB.eff) % etRange
    et := (match sel with
      | none => t.et + t1.incEt.eff
      | some d => etAdvance t.et (domTime t d) (domIncr t1 d).eff t.slewEn) % etRange }

def natCeilDiv (a b : Nat) : Nat := (a + b - 1) / b

/-- Cycles until ET reaches a target, and ET then: at the selected rate, with the slew while |D| is 2 ns or more (R29). -/
def cyclesTo (sel : Option Dom) (t : TimeSt) (target : Nat) : Nat × Nat :=
  let gap := target - t.et
  match sel with
  | none => let n := natCeilDiv gap t.incEt.eff; (n, t.et + n * t.incEt.eff)
  | some d =>
    let inc := (domIncr t d).eff
    let dom := domTime t d
    let plain := natCeilDiv gap inc
    if !t.slewEn then (plain, t.et + plain * inc)
    else if dom + twoNs ≤ t.et then
      let n1 := (t.et - dom - twoNs) / slewTerm + 1
      let n := natCeilDiv gap (inc - slewTerm)
      if n ≤ n1 then (n, t.et + n * (inc - slewTerm))
      else let m := natCeilDiv (target - dom) inc; (m, dom + m * inc)
    else if t.et + twoNs ≤ dom then
      let n1 := (dom - t.et - twoNs) / slewTerm + 1
      let n := natCeilDiv gap (inc + slewTerm)
      if n ≤ n1 then (n, t.et + n * (inc + slewTerm))
      else let m := natCeilDiv (target - dom) inc; (m, dom + m * inc)
    else let m := natCeilDiv (target - dom) inc; (m, dom + m * inc)

/-- Run the clocks to the instant ET reaches a target. -/
def clockRun (sel : Option Dom) (t : TimeSt) (target : Nat) : TimeSt :=
  let t2 := clockCycle sel (clockCycle sel t)
  let r := cyclesTo sel t2 target
  if target ≤ t2.et then t2
  else { t2 with
    mc := t2.mc + 2 * r.1
    domA := (t2.domA + r.1 * t2.incA.eff) % etRange
    domB := (t2.domB + r.1 * t2.incB.eff) % etRange
    et := r.2 % etRange }

/-- The vault's clocks over a span of ns (R12, R13). -/
def vaultRun (v : VaultSt) (ns : Nat) : VaultSt :=
  let f := v.opFrac + ns
  { v with
    opSeconds := satAdd 32 v.opSeconds (f / nsPerS)
    opFrac := f % nsPerS
    rtc := v.rtc.map (fun x => x + ns * unitsPerNs) }

/-- The body of TIME_UNSYNCED (R490). -/
def etStateCode : EtState → Nat
  | .freeRun => 0 | .tracking => 1 | .holdover => 2 | .manual => 3

def domStateCode : DomState → Nat
  | .disabled => 0 | .listening => 1 | .acquiring => 2 | .locked => 3 | .holdover => 4

def unsyncedEvent (t : TimeSt) : Emit :=
  .event .timeUnsynced 0 mb01
    [(etStateCode t.etState, 1), (domStateCode t.ptpA.state, 1), (domStateCode t.ptpB.state, 1), (0, 2)]

/-- The state of ET that the selection and the domains give (R33). -/
def etStateOf (sel : Option Dom) (t : TimeSt) : EtState :=
  match sel with
  | none => .manual
  | some d =>
    if (ptpOf t d).state = .locked then .tracking
    else if t.everLocked then .holdover else .freeRun

/-- The domain to follow: AUTO switches once the holdoff has run and the other domain is LOCKED (R27). -/
def followNext (s : State) : Dom × Bool :=
  let t := s.time
  match prm s .tSelect with
  | 0 => (.a, false)
  | 1 => (.b, false)
  | 2 =>
    if (ptpOf t t.following).state = .locked then (t.following, false)
    else if t.holdoffDone && decide ((ptpOf t (otherDom t.following)).state = .locked) then (otherDom t.following, false)
    else (t.following, t.holdoffDone)
  | _ => (t.following, false)

/-- Bring following, the ET state and UNSYNCED up to date after a change of selection or of a domain's state. -/
def etRefresh (s : State) : State :=
  let f := followNext s
  let t1 := { s.time with following := f.1, holdoffDone := f.2 }
  let sel : Option Dom := if prm s .tSelect = 3 then none else some f.1
  let st := etStateOf sel t1
  let t2 := { t1 with
    etState := st
    everLocked := t1.everLocked || decide (st = .tracking)
    holdoverMc := if st = .holdover && decide (t1.etState ≠ .holdover) then t1.mc else t1.holdoverMc
    unsynced := decide (st = .freeRun) || (decide (st = .holdover) && decide (t1.etState = .holdover) && t1.unsynced) }
  let s1 := { s with time := t2 }
  if t2.unsynced && !s.time.unsynced then emitAll s1 [unsyncedEvent t2] else s1

/-- The UTC offset in use now (R14). -/
def utcNow (s : State) : Nat × Option Nat :=
  match selDom s with
  | some d =>
    let x := ptpOf s.time d
    if x.utcValid && decide (x.state ≠ .disabled) then (x.utcOffset, some x.utcOffset)
    else (s.vault.utcLast.getD (prmN s .tUtcDefault), s.vault.utcLast)
  | none => (s.vault.utcLast.getD (prmN s .tUtcDefault), s.vault.utcLast)

/-- The TIME_SET record (R352). -/
def timeSetBody (oldNs newNs tick cause utc : Nat) : Body :=
  [(oldNs / nsPerS, 8), (oldNs % nsPerS, 4), (newNs / nsPerS, 8), (newNs % nsPerS, 4), (tick, 8), (cause, 1), (0, 3),
   (utc, 2)]

/-- A leap second announced by the followed domain explains this change (R15). -/
def leapChange (s : State) (new : Nat) : Bool :=
  match selDom s with
  | some d =>
    let x := ptpOf s.time d
    (x.leap61 && new == s.time.utcOffset + 1) || (x.leap59 && new + 1 == s.time.utcOffset)
  | none => false

/-- Bring the UTC offset in use up to date; a change is kept in the vault and recorded (R14, R16). -/
def utcRefresh (s : State) : State :=
  let r := utcNow s
  let s1 := { s with vault := { s.vault with utcLast := r.2 } }
  if r.1 = s.time.utcOffset then s1
  else
    let now := etNs s
    let s2 := { s1 with
      vault := { s1.vault with utcChanges := ((now, s.time.utcOffset, r.1, leapChange s r.1) :: s.vault.utcChanges).take 16 }
      time := { s1.time with utcOffset := r.1 } }
    emitAll s2 [.record 2 0x8010 (timeSetBody now now s.vault.tick 2 r.1)]

/-- After any change of PTP state or selection. -/
def timeRefresh (s : State) : State := utcRefresh (etRefresh s)

/-- Ownership of the servo returns to WARDEN (R21, R500). -/
def servoReturn (s : State) (cause : Nat) : State :=
  if s.time.hostOwner then
    emitAll { s with time := { s.time with hostOwner := false, slewEn := true, watchdogNs := 0 } }
      [.event .ok 2 mb0 [(cause, 1), (0, 3)], .record 7 0x8060 [(1, 1), (1, 1), (0, 1), (0, 1), (0, 8)]]
  else s

/-! ### Ethernet port counters -/

def ethPort (e : EthSt) : Nat → EthPort
  | 0 => e.p0 | 1 => e.p1 | 2 => e.p2 | _ => e.p3

def ethSet (e : EthSt) (x : Nat) (p : EthPort) : EthSt :=
  match x with
  | 0 => { e with p0 := p } | 1 => { e with p1 := p } | 2 => { e with p2 := p } | _ => { e with p3 := p }

/-- A frame received without error on a port: the length of a frame is no operand, so the octets are a free value. -/
def ethRx (s : State) (x : Nat) (stamped : Bool) : State :=
  let p := ethPort s.eth x
  { s with
    freeCtr := s.freeCtr + 1
    eth := ethSet s.eth x { p with
      rxFrames := p.rxFrames + 1
      rxOctets := p.rxOctets + BitVec.ofNat 64 (Config.freeValue s.freeCtr)
      ptpStamped := if stamped then p.ptpStamped + 1 else p.ptpStamped } }

/-- A frame sent on a port. -/
def ethTx (s : State) (x : Nat) (stamped : Bool) : State :=
  let p := ethPort s.eth x
  { s with
    freeCtr := s.freeCtr + 1
    eth := ethSet s.eth x { p with
      txFrames := p.txFrames + 1
      txOctets := p.txOctets + BitVec.ofNat 64 (Config.freeValue s.freeCtr)
      ptpStamped := if stamped then p.ptpStamped + 1 else p.ptpStamped } }

/-- The port of a domain. -/
def domPort (s : State) (d : Dom) : Nat := prmN s .tdPort (domIdx d)

/-! ### Registers of the time unit -/

def takeSnap (t : TimeSt) (tick : Nat) : Snap :=
  { et := t.et / unitsPerNs, mc := t.mc, tick := tick, domA := t.domA / unitsPerNs, domB := t.domB / unitsPerNs }

/-- Latch the bank of a function (R17). -/
def snapEff (s : State) (fn : Fin 2) : State :=
  let x := takeSnap s.time s.vault.tick
  { s with time := if fn = 0 then { s.time with snap0 := x } else { s.time with snap1 := x } }

/-- TIME_SNAP (R17, R499). -/
def execTimeSnap (fn : Fin 2) (s : State) : Host.Outcome State Fault Refusal :=
  finish s (if alive s then snapEff (acc s fn) fn else s)

def incrOffset : Fin 3 → Nat
  | 0 => 0x30050 | 1 => 0x30058 | 2 => 0x30060

def partSize : RegPart → Nat
  | .full => 8 | _ => 4

def partOff : RegPart → Nat
  | .high => 4 | _ => 0

def incrOf (t : TimeSt) : Fin 3 → Incr
  | 0 => t.incA | 1 => t.incB | 2 => t.incEt

def incrSet (t : TimeSt) (r : Fin 3) (x : Incr) : TimeSt :=
  match r with
  | 0 => { t with incA := x } | 1 => { t with incB := x } | 2 => { t with incEt := x }

/-- The 40-bit increment a write of part of the register asks for; a half not written keeps its bits. -/
def incrAsked (old : Nat) (part : RegPart) (v : Nat) : Nat :=
  match part with
  | .full => v % 1099511627776
  | .low => old / 4294967296 * 4294967296 + v % 4294967296
  | .high => v % 256 * 4294967296 + old % 4294967296

/-- Bit CLAMPED is written as 1. -/
def incrClr (part : RegPart) (v : Nat) : Bool :=
  match part with
  | .full => natBit v 40
  | .low => false
  | .high => natBit v 8

def clampIncr (v : Nat) : Nat := if v < incrMin then incrMin else if incrMax < v then incrMax else v

/-- A write of an increment register: clamped, CLAMPED set, in effect on the second cycle (R18). -/
def incrWrite (i : Incr) (part : RegPart) (v : Nat) : Incr :=
  let a := incrAsked i.val part v
  let c := clampIncr a
  { i with
    val := c
    clamped := decide (a ≠ c) || (i.clamped && !incrClr part v)
    due := i.due ++ [(c, 2)] }

/-- A trouble-log entry of class TIME: domain and cause; the manual does not say which value the last four bytes hold (R461). -/
def timeTrouble (s : State) (addr acc : Nat) (st : Status) (domain cause : Nat) : State :=
  emit1 { s with freeCtr := s.freeCtr + 1 } (.trouble ⟨0xF, addr, locOpen, acc, st, [domain, cause] ++ le4 (Config.freeValue s.freeCtr)⟩)

/-- INCR_WRITE (R18, R20, R21). -/
def incrWriteEff (fn : Fin 2) (reg : Fin 3) (part : RegPart) (value : Word64) (s : State) : State :=
  let off := incrOffset reg + partOff part
  if fn = 1 then violWrite s fn off (partSize part) 2
  else if !s.time.hostOwner then violWrite s fn off (partSize part) 3
  else
    let i := incrWrite (incrOf s.time reg) part value.toNat
    let s1 := { s with time := { incrSet s.time reg i with watchdogNs := 0 } }
    if decide (incrAsked (incrOf s.time reg).val part value.toNat ≠ i.val) then
      timeTrouble s1 off (accByte 2 0 true) .badParam reg.val 1
    else s1

def execIncrWrite (fn : Fin 2) (reg : Fin 3) (part : RegPart) (value : Word64) (s : State) :
    Host.Outcome State Fault Refusal :=
  finish s (if alive s then incrWriteEff fn reg part value (acc s fn) else s)

def adjOffset : Dom → Nat | .a => 0x30068 | .b => 0x30070

def latchSet (t : TimeSt) (d : Dom) (x : Option Word32) : TimeSt :=
  match d with | .a => { t with latchA := x } | .b => { t with latchB := x }

def latchOf (t : TimeSt) : Dom → Option Word32 | .a => t.latchA | .b => t.latchB

/-- Add signed ns to a domain time, carrying between its fields (R19). -/
def domStep (t : TimeSt) (d : Dom) (ns : Int) : TimeSt :=
  let x := (((domTime t d : Int) + ns * (unitsPerNs : Int)) % (etRange : Int)).toNat
  match d with | .a => { t with domA := x } | .b => { t with domB := x }

/-- The violation of a write to ADJ, if it is one: 2 from PF1, 3 while WARDEN owns the servo. -/
def servoViol (s : State) (fn : Fin 2) : Option Nat :=
  if fn = 1 then some 2 else if s.time.hostOwner then none else some 3

/-- ADJ_LOW_WRITE (R19): the low half is held. -/
def adjLowWriteEff (fn : Fin 2) (d : Dom) (value : Word32) (s : State) : State :=
  match servoViol s fn with
  | some k => violWrite s fn (adjOffset d) 4 k
  | none => { s with time := latchSet s.time d (some value) }

def execAdjLowWrite (fn : Fin 2) (d : Dom) (value : Word32) (s : State) : Host.Outcome State Fault Refusal :=
  finish s (if alive s then adjLowWriteEff fn d value (acc s fn) else s)

/-- The signed ns that a write of ADJ applies. -/
def adjValue (held : Option Word32) (highOnly : Bool) (value : Word64) : Int :=
  if highOnly then ((value.setWidth 32 ++ held.getD 0 : BitVec 64)).toInt else value.toInt

/-- ADJ_WRITE (R19): the domain steps and the latch empties. -/
def adjWriteEff (fn : Fin 2) (d : Dom) (highOnly : Bool) (value : Word64) (s : State) : State :=
  match servoViol s fn with
  | some k => violWrite s fn (adjOffset d + (if highOnly then 4 else 0)) (if highOnly then 4 else 8) k
  | none => { s with time := latchSet (domStep s.time d (adjValue (latchOf s.time d) highOnly value)) d none }

def execAdjWrite (fn : Fin 2) (d : Dom) (highOnly : Bool) (value : Word64) (s : State) :
    Host.Outcome State Fault Refusal :=
  finish s (if alive s then adjWriteEff fn d highOnly value (acc s fn) else s)

/-- SLEW_EN_WRITE (R499, R500): a write of TIME_CTRL. -/
def slewEnWriteEff (fn : Fin 2) (value : Word64) (s : State) : State :=
  let s1 := if value.getLsbD 0 then snapEff s fn else s
  if fn = 1 then s1
  else
    let s2 := { s1 with time := { s1.time with tickInt := value.getLsbD 8 } }
    if decide (value.getLsbD 1 = s.time.slewEn) then s2
    else if s.time.hostOwner then { s2 with time := { s2.time with slewEn := value.getLsbD 1 } }
    else violWrite s2 fn 0x30000 8 3

def execSlewEnWrite (fn : Fin 2) (value : Word64) (s : State) : Host.Outcome State Fault Refusal :=
  finish s (if alive s then slewEnWriteEff fn value (acc s fn) else s)

/-! ### PTP (R22 to R24, R534) -/

/-- Lists of dataset fields compare in order; a shorter list that agrees is the better. -/
def rankLt : List Nat → List Nat → Bool
  | [], [] => false
  | [], _ :: _ => true
  | _ :: _, [] => false
  | a :: s, b :: t => if a < b then true else if b < a then false else rankLt s t

def masterQual (m : MasterSt) : Bool := decide (m.syncOk ≠ some false)

/-- The best qualified master (R22, R534). -/
def bestMaster : List MasterSt → Option MasterSt
  | [] => none
  | m :: t =>
    match bestMaster t with
    | none => if masterQual m then some m else none
    | some b => if masterQual m && !rankLt b.ann.rank m.ann.rank then some m else some b

/-- What the selected master announces. -/
def adoptMaster (x : DomPtp) (a : Announce) : DomPtp :=
  { x with
    master := some a.master, gmId := a.gmId, clockClass := a.clockClass, stepsRemoved := a.steps
    utcOffset := a.utcOffset, utcValid := a.utcValid, leap61 := a.leap61, leap59 := a.leap59 }

/-- Run the best master clock algorithm (R24). -/
def bmca (x : DomPtp) : DomPtp :=
  match bestMaster x.masters with
  | none => x
  | some m =>
    let y := adoptMaster x m.ann
    match x.state with
    | .listening => { y with state := .acquiring, acqFromHold := false, consec := 0 }
    | .holdover => { y with state := .acquiring, acqFromHold := true, consec := 0 }
    | .disabled => x
    | _ => y

/-- The selected master is lost: its announce receipt timeout has expired, or it is no longer qualified (R24, R534). -/
def masterLost (x : DomPtp) : DomPtp :=
  let y := { x with master := none, syncWait := none, utcValid := false, leap61 := false, leap59 := false }
  match x.state with
  | .locked => { y with state := .holdover }
  | .acquiring => { y with state := if x.acqFromHold then .holdover else .listening, consec := 0 }
  | _ => y

def setMaster (l : List MasterSt) (m : MasterSt) : List MasterSt :=
  if l.any (fun x => x.ann.master == m.ann.master) then
    l.map (fun x => if x.ann.master == m.ann.master then m else x)
  else l ++ [m]

/-- One measured offset: the run toward LOCKED (R24). -/
def syncMeasure (thr : Nat) (x : DomPtp) (off : Int) : DomPtp :=
  let y := { x with offsetNs := off, syncs := x.syncs + 1, syncWait := none }
  if x.state = .acquiring then
    if off.natAbs ≤ thr then
      if x.consec + 1 = 16 then { y with state := .locked, consec := 16 } else { y with consec := x.consec + 1 }
    else { y with consec := 0 }
  else y

/-- The servo's part of a measured offset: an event while the host owns it, otherwise what Gamokor's servo writes. -/
def servoAct (s : State) (d : Dom) (off : Int) (rxNs : Nat) : State :=
  let x := ptpOf s.time d
  if s.time.hostOwner then
    emitAll s [.event .ok 1 mb0 [(domIdx d, 1), (0, 3), (encS 8 off, 8), (x.meanPathNs, 8), (rxNs / nsPerS, 8),
      (rxNs % nsPerS, 4)]]
  else
    let i := domIncr s.time d
    let v := clampIncr (Config.servoIncr i.val off x.meanPathNs)
    let reg : Fin 3 := match d with | .a => 0 | .b => 1
    let t := domStep s.time d (Config.servoStep off x.meanPathNs)
    { s with time := incrSet t reg { i with val := v, due := i.due ++ [(v, 2)] } }

/-- A measurement of a domain: state, servo, then what ET makes of it. -/
def measured (s : State) (d : Dom) (off : Int) (rxNs : Nat) : State :=
  let x := syncMeasure (prmN s .tLockThr) (ptpOf s.time d) off
  timeRefresh (servoAct { s with time := ptpSet s.time d x } d off rxNs)

/-- PTP_SYNC_RX (R24, R534). -/
def ptpSyncRxEff (d : Dom) (m : SyncMsg) (s0 : State) : State :=
  let s := ethRx s0 (domPort s0 d) true
  let x := ptpOf s.time d
  if x.state = .disabled then s
  else
    let inRange := decide (-7 ≤ m.logInterval) && decide (m.logInterval ≤ 1)
    let known := x.masters.find? (fun y => y.ann.master == m.master)
    let ms := match known with
      | some k => setMaster x.masters { k with syncOk := some inRange }
      | none => x.masters
    let x1 := { x with masters := ms }
    if !inRange then
      let x2 := if x.master = some m.master then bmca (masterLost x1) else x1
      timeRefresh { s with time := ptpSet s.time d x2 }
    else
      let x2 := bmca x1
      let s1 := { s with time := ptpSet s.time d x2 }
      if x2.master = some m.master then
        if m.twoStep then timeRefresh { s1 with time := ptpSet s1.time d { x2 with syncWait := some m } }
        else measured s1 d m.offsetNs m.rxNs
      else timeRefresh s1

def execPtpSyncRx (d : Dom) (m : SyncMsg) (s : State) : Host.Outcome State Fault Refusal :=
  finish s (if running s then ptpSyncRxEff d m s else s)

/-- FOLLOW_UP_RX (R22): completes a two-step Sync. -/
def followUpRxEff (d : Dom) (master : Word64) (offsetNs : Int) (s0 : State) : State :=
  let s := ethRx s0 (domPort s0 d) false
  let x := ptpOf s.time d
  match x.syncWait with
  | some m => if m.master = master && decide (x.master = some master) then measured s d offsetNs m.rxNs else s
  | none => s

def execFollowUpRx (d : Dom) (master : Word64) (offsetNs : Int) (s : State) : Host.Outcome State Fault Refusal :=
  finish s (if running s then followUpRxEff d master offsetNs s else s)

/-- PTP_ANNOUNCE_RX (R22, R534). -/
def ptpAnnounceRxEff (d : Dom) (a : Announce) (s0 : State) : State :=
  let s := ethRx s0 (domPort s0 d) false
  let x := ptpOf s.time d
  if x.state = .disabled then s
  else
    let old := x.masters.find? (fun y => y.ann.master == a.master)
    let x1 := { x with masters := setMaster x.masters ⟨a, old.bind (·.syncOk)⟩ }
    timeRefresh { s with time := ptpSet s.time d (bmca x1) }

def execPtpAnnounceRx (d : Dom) (a : Announce) (s : State) : Host.Outcome State Fault Refusal :=
  finish s (if running s then ptpAnnounceRxEff d a s else s)

/-- ANNOUNCE_RECEIPT_TIMEOUT (R24): of the selected master. -/
def announceReceiptTimeoutEff (d : Dom) (s : State) : State :=
  let x := ptpOf s.time d
  match x.master with
  | none => s
  | some id =>
    let x1 := { x with masters := x.masters.filter (fun y => y.ann.master != id) }
    timeRefresh { s with time := ptpSet s.time d (bmca (masterLost x1)) }

def execAnnounceReceiptTimeout (d : Dom) (s : State) : Host.Outcome State Fault Refusal :=
  finish s (if running s then announceReceiptTimeoutEff d s else s)

/-- A delay measurement of the kind the domain's profile uses completes (R22). -/
def delayDone (profile : Int) (d : Dom) (pathNs : Nat) (stamped : Bool) (s0 : State) : State :=
  let s := ethRx s0 (domPort s0 d) stamped
  let x := ptpOf s.time d
  if x.reqOut && decide (prm s .tdProfile (domIdx d) = profile) && decide (x.state ≠ .disabled) then
    { s with time := ptpSet s.time d { x with reqOut := false, respRecv := x.respRecv + 1, meanPathNs := pathNs } }
  else s

/-- PTP_DELAY_RESP_RX (R22). -/
def execPtpDelayRespRx (d : Dom) (pathNs : Nat) (s : State) : Host.Outcome State Fault Refusal :=
  finish s (if running s then delayDone 0 d pathNs false s else s)

/-- PDELAY_RESP_RX (R22). -/
def execPdelayRespRx (d : Dom) (pathNs : Nat) (s : State) : Host.Outcome State Fault Refusal :=
  finish s (if running s then delayDone 1 d pathNs true s else s)

/-- PDELAY_REQ_RX (R22): answered on a port of the power profile. -/
def execPdelayReqRx (d : Dom) (s : State) : Host.Outcome State Fault Refusal :=
  finish s (if running s then
    let s1 := ethRx s (domPort s d) true
    let x := ptpOf s1.time d
    if decide (prm s .tdProfile (domIdx d) = 1) && decide (x.state ≠ .disabled) then
      ethTx { s1 with time := ptpSet s1.time d { x with pdelayAnswered := x.pdelayAnswered + 1 } } (domPort s d) true
    else s1
  else s)

/-- DELAY_REQ_SEND (R22): Delay_Req toward the selected master, or Pdelay_Req on a peer-delay port. -/
def execDelayReqSend (d : Dom) (s : State) : Host.Outcome State Fault Refusal :=
  finish s (if running s then
    let x := ptpOf s.time d
    if decide (x.state ≠ .disabled) && (decide (prm s .tdProfile (domIdx d) = 1) || x.master.isSome) then
      ethTx { s with time := ptpSet s.time d { x with reqOut := true, reqSent := x.reqSent + 1 } } (domPort s d) true
    else s
  else s)

/-- PTP_MANAGEMENT_RX (R22): counted, not answered. -/
def execPtpManagementRx (port : Fin 4) (s : State) : Host.Outcome State Fault Refusal :=
  finish s (if running s then
    let s1 := ethRx s port.val false
    { s1 with time := { s1.time with
        management := s1.time.management.set port.val (s1.time.management.getD port.val 0 + 1) } }
  else s)

/-- The engine may send on the media, ETH_A, ETH_B and ETH_D (R391). -/
def egressOk (s : State) : Bool :=
  s.time.ticking && !s.err.safeHold &&
  (decide (s.pair.role = .single) || decide (s.pair.role = .active))

/-- The clockClass announced on ETH_D (R23). -/
def masterClass (t : TimeSt) : Nat :=
  if t.etState = .tracking then 6 else if t.etState = .holdover && !t.unsynced then 7 else 248

/-- PTP_MASTER_SYNC_SEND (R23, R22): two-step masters follow the Sync with a Follow_Up. -/
def execPtpMasterSyncSend (s : State) : Host.Outcome State Fault Refusal :=
  finish s (if running s && egressOk s then
    let s1 := ethTx { s with time := { s.time with mSyncSeq := s.time.mSyncSeq + 1 } } 3 true
    if prm s .tEthdOneStep = 1 then s1
    else ethTx { s1 with time := { s1.time with mFollowSeq := s1.time.mSyncSeq } } 3 false
  else s)

/-- PTP_MASTER_ANNOUNCE_SEND (R23). With no selected domain the grandmaster identity is a free value. -/
def execPtpMasterAnnounceSend (s : State) : Host.Outcome State Fault Refusal :=
  finish s (if running s && egressOk s then
    let up := (selDom s).map (ptpOf s.time)
    ethTx { s with
      freeCtr := s.freeCtr + 1
      time := { s.time with
        mAnnSeq := s.time.mAnnSeq + 1
        mAnnClass := masterClass s.time
        mAnnGm := match up with | some x => x.gmId | none => BitVec.ofNat 64 (Config.freeValue s.freeCtr)
        mAnnSteps := match up with | some x => x.stepsRemoved + 1 | none => Config.freeValue s.freeCtr } } 3 false
  else s)

/-- PTP_DELAY_REQ_RX (R23): answered with Delay_Resp. -/
def execPtpDelayReqRx (_cell : Fin 1024) (s : State) : Host.Outcome State Fault Refusal :=
  finish s (if running s then
    let s1 := ethRx s 3 true
    if egressOk s then ethTx { s1 with time := { s1.time with mDelayResp := s1.time.mDelayResp + 1 } } 3 false else s1
  else s)

/-! ### Timers of the time unit -/

/-- AUTO_HOLDOFF_EXPIRY (R27). -/
def execAutoHoldoffExpiry (s : State) : Host.Outcome State Fault Refusal :=
  finish s (if running s && decide (prm s .tSelect = 2) && decide ((ptpOf s.time s.time.following).state ≠ .locked) then
    timeRefresh { s with time := { s.time with holdoffDone := true } }
  else s)

/-- HOLDOVER_LIMIT_EXPIRY (R33). -/
def execHoldoverLimitExpiry (s : State) : Host.Outcome State Fault Refusal :=
  finish s (if running s && decide (s.time.etState = .holdover) && !s.time.unsynced then
    let t := { s.time with unsynced := true }
    timeTrouble (emitAll { s with time := t } [unsyncedEvent t]) 0 (accByte 0 0 false) .timeUnsynced 2 3
  else s)

/-- HOST_WATCHDOG_EXPIRY (R21): counts only while a domain is LOCKED. -/
def execHostWatchdogExpiry (s : State) : Host.Outcome State Fault Refusal :=
  finish s (if running s && (decide (s.time.ptpA.state = .locked) || decide (s.time.ptpB.state = .locked)) then
    servoReturn s 2
  else s)

/-- RTC_WRITE (R13). -/
def execRtcWrite (s : State) : Host.Outcome State Fault Refusal :=
  finish s (if running s && decide (s.time.etState = .tracking) && decide (s.vault.life ≠ .blank) then
    { s with vault := { s.vault with rtc := some s.time.et }, time := { s.time with rtcWriteMc := s.time.mc } }
  else s)

/-- PPS_OUT_EDGE (R524): low in FREE_RUN. -/
def execPpsOutEdge (rise : Bool) (s : State) : Host.Outcome State Fault Refusal :=
  finish s (if running s then { s with boot := { s.boot with ppsHigh := rise && decide (s.time.etState ≠ .freeRun) } } else s)

/-! ### GMI commands of the time unit (R475, R20, R27, R31, R42, R43) -/

def ciTimeGet : CmdInfo := { code := 0x0201, plain := 0x73, roles := 0x1F }

/-- TIME_GET (R475): all values of one cycle. -/
def timeGetBody (s : State) : Body :=
  [(etNs s / nsPerS, 8), (etNs s % nsPerS, 4), (0, 4), (s.time.mc, 8), (s.vault.tick, 8), (etStateCode s.time.etState, 1),
   (b2n s.time.unsynced, 1), (prmN s .tSelect, 1), (0, 1), (s.time.utcOffset, 2), (0, 2)]

def execTimeGet (r : Req) (s : State) : Host.Outcome State Fault Refusal :=
  finish s (gmi ciTimeGet r (fun s => ⟨s, .ok, timeGetBody s, []⟩) s)

def ciTimeConfigDomain : CmdInfo := { code := 0x0202, plain := 0x01, states := 0x0E }

/-- TIME_CONFIG_DOMAIN (R42, R22): the power profile runs over IEEE 802.3 only. -/
def timeConfigDomain (domain enable profile port transport number : BitVec 8) (s : State) : Reply :=
  let i := domain.toNat
  if 2 ≤ i || (profile.toNat == 1 && transport.toNat != 0) then deny s .badParam
  else
    match acceptParams s 0 [(⟨.tdEnable, i⟩, ⟨.integer, enable.toNat⟩), (⟨.tdProfile, i⟩, ⟨.token, profile.toNat⟩),
        (⟨.tdPort, i⟩, ⟨.token, port.toNat⟩), (⟨.tdTransport, i⟩, ⟨.token, transport.toNat⟩),
        (⟨.tdNumber, i⟩, ⟨.integer, number.toNat⟩)] with
    | some s1 => ⟨s1, .ok, [], []⟩
    | none => deny s .badParam

def execTimeConfigDomain (r : Req) (domain enable profile port transport number : BitVec 8) (s : State) :
    Host.Outcome State Fault Refusal :=
  finish s (gmi ciTimeConfigDomain r (timeConfigDomain domain enable profile port transport number) s)

def ciTimeSelect : CmdInfo := { code := 0x0203, plain := 0x01, states := 0x0E }

/-- TIME_SELECT (R27, R42). -/
def timeSelect (select : BitVec 8) (s : State) : Reply :=
  match acceptParams s 0 [(⟨.tSelect, 0⟩, ⟨.token, select.toNat⟩)] with
  | some s1 => ⟨s1, .ok, [], []⟩
  | none => deny s .badParam

def execTimeSelect (r : Req) (select : BitVec 8) (s : State) : Host.Outcome State Fault Refusal :=
  finish s (gmi ciTimeSelect r (timeSelect select) s)

def ciCalendarStep : CmdInfo := { code := 0x0204, plain := 0x01, states := 0x0E }

/-- ET in ns after the steps already accepted and one more; none where its seconds leave 0 to 2^48 − 1 (R31). -/
def stepTarget (s : State) (step : Int) : Option Int :=
  let sum := s.time.stepSum.getD 0 + step
  let et := (etNs s : Int) + sum
  if 0 ≤ et && et < (281474976710656 * nsPerS : Int) then some sum else none

/-- CALENDAR_STEP (R31). -/
def calendarStep (stepNs : Word64) (s : State) : Reply :=
  if decide (prm s .tSelect = 3) || decide (s.vault.life = .service) then
    match stepTarget s stepNs.toInt with
    | some sum => ⟨{ s with time := { s.time with stepSum := some sum } }, .ok, [(s.vault.tick + 1, 8)], []⟩
    | none => deny s .badParam
  else deny s .notPermitted

def execCalendarStep (r : Req) (stepNs : Word64) (s : State) : Host.Outcome State Fault Refusal :=
  finish s (gmi ciCalendarStep r (calendarStep stepNs) s)

def ciTimeStatus : CmdInfo := { code := 0x0205, plain := 0x73, roles := 0x1F }

def domStatusBody (s : State) (d : Dom) : Body :=
  let x := ptpOf s.time d
  [(domStateCode x.state, 1), (prmN s .tdProfile (domIdx d), 1), (x.stepsRemoved, 2), (x.gmId.toNat, 8),
   (encS 8 x.offsetNs, 8), (x.meanPathNs, 8), (x.clockClass, 1), (0, 3)]

def holdoverS (s : State) : Nat :=
  if s.time.etState = .holdover then (s.time.mc - s.time.holdoverMc) / nsPerS else 0

def timeStatusBody (s : State) : Body :=
  domStatusBody s .a ++ domStatusBody s .b ++
    [(b2n s.time.hostOwner, 1), (etStateCode s.time.etState, 1), (0, 2), (holdoverS s, 4)]

/-- TIME_STATUS (R475). -/
def execTimeStatus (r : Req) (s : State) : Host.Outcome State Fault Refusal :=
  finish s (gmi ciTimeStatus r (fun s => ⟨s, .ok, timeStatusBody s, []⟩) s)

def ciServoOwner : CmdInfo := { code := 0x0206, plain := 0x01, states := 0x0E }

/-- SERVO_OWNER (R20, R21). -/
def servoOwner (owner : BitVec 8) (s : State) : Reply :=
  match owner.toNat with
  | 0 => ⟨servoReturn s 0, .ok, [], []⟩
  | 1 =>
    if s.time.hostOwner then ⟨s, .ok, [], []⟩
    else ⟨{ s with time := { s.time with hostOwner := true, watchdogNs := 0 } }, .ok, [],
      [.record 7 0x8060 [(1, 1), (0, 1), (1, 1), (0, 1), (0, 8)]]⟩
  | _ => deny s .badParam

def execServoOwner (r : Req) (owner : BitVec 8) (s : State) : Host.Outcome State Fault Refusal :=
  finish s (gmi ciServoOwner r (servoOwner owner) s)

end Sys2Proof.Machine
end

