-- ==== Sys2Proof/Machine/Mailboxes.lean ====
section
/-! DEFINITION. Mailbox registers, request chains and tunnels (R442 to R456), and error capture (R460 to R463). -/

namespace Sys2Proof.Machine
open Sys2Proof

def mbPage (m : Fin 8) (off : Nat) : Nat := 0x10000 + m.val * 0x1000 + off

/-- The violation of a write to a mailbox page's registers, if it is one (R452, R458). -/
def mbViol (s : State) (fn : Fin 2) (m : Fin 8) : Option Nat :=
  if m = 7 then some 1
  else if 2 ≤ m.val && m.val ≤ 5 then some 1
  else if m = 6 then
    if s.vault.life = .service then (if fn = 0 then none else some 2) else some 1
  else if m = 0 then (if fn = 0 then none else some 2)
  else if fn = 1 then none else some 3

/-- Answer a request whose COMMAND no row names: header, tag, then BAD_COMMAND (R457 steps 1 and 2). -/
def takeUnknown (s : State) (r : Req) : State :=
  if canTake s r then
    let s1 := takeReq (breakChain s r.mb.val r.tag .badParam) r
    let dup := (boxOf s1.mb r.mb.val).pend.any (fun p => p.tag == r.tag && p.sess == r.sess)
    answer s1 r 0 (if !r.hdrOk || dup || decide (16 < r.msgs) then .badParam else .badCommand) []
  else s

/-- The first messages of a chain are taken while more are awaited (R445). -/
def takePart (s : State) (i : Nat) (tag : Word16) (nd : Nat) : State :=
  let s1 := breakChain s i tag .badParam
  let b := boxOf s1.mb i
  if running s1 && b.enable && decide (nd ≤ (b.reqProd - b.reqCons).toNat) && decide (65 ≤ ringFree b.rspHead b.rspTail) then
    { s1 with mb := mbSet s1.mb i { b with
        reqCons := b.reqCons + BitVec.ofNat 32 nd
        reqChain := some (tag, chainHad b tag + nd) } }
  else s1

/-- What a doorbell or a tunnel frame makes ready beside the requests of the command table. -/
def noteEff (s : State) (i : Nat) : ReadyNote → State
  | .plain => s
  | .unknownCommand r => if r.mb.val = i then takeUnknown s r else s
  | .chainPart tag nd => takePart s i tag nd

/-- MB_DOORBELL (R446). -/
def mbDoorbellEff (fn : Fin 2) (m : Fin 8) (producer : Word32) (note : ReadyNote) (s : State) : State :=
  match mbViol s fn m with
  | some k => violWrite s fn (mbPage m 0x28) 4 k
  | none => noteEff { s with mb := mbSet s.mb m.val { boxOf s.mb m.val with reqProd := producer } } m.val note

def execMbDoorbell (fn : Fin 2) (m : Fin 8) (producer : Word32) (note : ReadyNote) (s : State) :
    Host.Outcome State Fault Refusal :=
  finish s (if alive s then mbDoorbellEff fn m producer note (acc s fn) else s)

/-- A mailbox started anew: every index 0, its registers as they stand (R452). -/
def boxStart (b : Mailbox) : Mailbox :=
  { b with
    enable := true, reqProd := 0, reqCons := 0, rspHead := 0, rspTail := 0, evtHead := 0, evtTail := 0
    finals := [], rspWait := [], reqChain := none, lostNext := false, rspRing := [], evtRing := [] }

/-- A mailbox stopped: what it would still have written is discarded and counted (R452). -/
def boxStop (b : Mailbox) : Mailbox :=
  let n := (if b.rspWait.isEmpty then 0 else 1) + (b.finals.filter (·.final)).length
  { b with
    enable := false, rspWait := [], finals := [], reqChain := none
    orphans := b.orphans ++ b.pend.filter (fun p => p.code ≠ 0), pend := []
    discarded := satAdd 16 b.discarded n, rspDiscarded := b.rspDiscarded || decide (0 < n) }

/-- ENABLE may be set (R498, R465, R456). -/
def mayEnable (s : State) (m : Fin 8) : Bool :=
  decide (3 ≤ s.boot.stage) && (!s.err.safeHold || m == 0)

/-- MB_ENABLE (R452). -/
def mbEnableEff (fn : Fin 2) (m : Fin 8) (s : State) : State :=
  match mbViol s fn m with
  | some k => violWrite s fn (mbPage m 0) 8 k
  | none =>
    let b := boxOf s.mb m.val
    if b.enable || !mayEnable s m then s else { s with mb := mbSet s.mb m.val (boxStart b) }

def execMbEnable (fn : Fin 2) (m : Fin 8) (s : State) : Host.Outcome State Fault Refusal :=
  finish s (if alive s then mbEnableEff fn m (acc s fn) else s)

/-- MB_DISABLE (R452). -/
def mbDisableEff (fn : Fin 2) (m : Fin 8) (s : State) : State :=
  match mbViol s fn m with
  | some k => violWrite s fn (mbPage m 0) 8 k
  | none =>
    let b := boxOf s.mb m.val
    if b.enable then { s with mb := mbSet s.mb m.val (boxStop b) } else s

def execMbDisable (fn : Fin 2) (m : Fin 8) (s : State) : Host.Outcome State Fault Refusal :=
  finish s (if alive s then mbDisableEff fn m (acc s fn) else s)

/-- Messages the host has still to consume, `n` descriptors before the head. -/
def ringKeep (l : List Msg) (n : Nat) : List Msg :=
  (l.reverse.foldl (fun (a : List Msg × Nat) m => if a.2 + m.ndesc ≤ n then (m :: a.1, a.2 + m.ndesc) else (a.1, n)) ([], 0)).1

/-- MB_RSP_TAIL (R447): room for what waits. -/
def mbRspTailEff (fn : Fin 2) (m : Fin 8) (index : Word32) (s : State) : State :=
  match mbViol s fn m with
  | some k => violWrite s fn (mbPage m 0x40) 4 k
  | none =>
    let b := boxOf s.mb m.val
    let b1 := { b with rspTail := index, rspRing := ringKeep b.rspRing (b.rspHead - index).toNat }
    mbUpd s m.val (if b1.enable then rspPump m.val b1 b1.rspWait else b1)

def execMbRspTail (fn : Fin 2) (m : Fin 8) (index : Word32) (s : State) : Host.Outcome State Fault Refusal :=
  finish s (if alive s then mbRspTailEff fn m index (acc s fn) else s)

/-- MB_EVT_TAIL (R451): waiting FINAL events are written. -/
def mbEvtTailEff (fn : Fin 2) (m : Fin 8) (index : Word32) (s : State) : State :=
  match mbViol s fn m with
  | some k => violWrite s fn (mbPage m 0x50) 4 k
  | none =>
    let b := boxOf s.mb m.val
    let b1 := { b with evtTail := index, evtRing := ringKeep b.evtRing (b.evtHead - index).toNat }
    mbUpd s m.val (if b1.enable then evtPump m.val b1 b1.finals else b1)

def execMbEvtTail (fn : Fin 2) (m : Fin 8) (index : Word32) (s : State) : Host.Outcome State Fault Refusal :=
  finish s (if alive s then mbEvtTailEff fn m index (acc s fn) else s)

/-- CHAIN_TIMEOUT (R445): answered once, at its tag, with BAD_PARAM. -/
def chainTimeoutEff (m : Fin 8) (s : State) : State :=
  match (boxOf s.mb m.val).reqChain with
  | some (t, _) => breakChain s m.val (t + 1) .badParam
  | none => s

def execChainTimeout (m : Fin 8) (s : State) : Host.Outcome State Fault Refusal :=
  finish s (if running s then chainTimeoutEff m s else s)

/-! ### Tunnels and the peer's mailbox -/

/-- A request arrives for a tunnelled mailbox and waits in its ring (R455). -/
def arrive (s : State) (i sess : Nat) (tag : Word16) (nd : Nat) : State :=
  let b := boxOf s.mb i
  { s with mb := mbSet s.mb i { b with
      reqProd := b.reqProd + BitVec.ofNat 32 nd, arrived := b.arrived ++ [⟨sess, tag, nd⟩] } }

/-- TUNNEL_GMI_FRAME (R454, R455): beyond mb.tunnel.outstanding it is answered BUSY and not taken. -/
def tunnelGmiFrameEff (sess : Nat) (tag : Word16) (nd : Nat) (note : ReadyNote) (s : State) : State :=
  match s.mb.tls.get? sess with
  | none => s
  | some t =>
    let i := t.mb.val
    let t1 := { t with lastRecNs := s.time.mc, recvRecs := t.recvRecs + 1 }
    let s1 := { s with mb := { s.mb with tls := s.mb.tls.set sess t1 } }
    if t.outstanding < prmN s .mbTunnelOutstanding then
      let s2 := { s1 with mb := { s1.mb with tls := s1.mb.tls.set sess { t1 with outstanding := t.outstanding + 1 } } }
      noteEff (arrive s2 i sess tag nd) i note
    else
      let b := boxOf s1.mb i
      let m : Msg := ⟨false, false, false, 0, tag, sess, .busy, 0, false, [], 1⟩
      mbUpd s1 i (rspWrite i true b m)

def execTunnelGmiFrame (sess : Nat) (tag : Word16) (ndesc : Nat) (note : ReadyNote) (s : State) :
    Host.Outcome State Fault Refusal :=
  finish s (if running s then tunnelGmiFrameEff sess tag ndesc note s else s)

/-- TUNNEL_KEEPALIVE (R454). -/
def execTunnelKeepalive (sess : Nat) (s : State) : Host.Outcome State Fault Refusal :=
  finish s (if running s then
    { s with mb := { s.mb with
        tls := s.mb.tls.modify sess (fun t => { t with lastRecNs := s.time.mc, recvRecs := t.recvRecs + 1 }) } }
  else s)

/-- A session ends: its export closes with it, its untaken requests are dropped, and later answers to it find nobody
(R455, R489). Its slot is free again, since slots are counted from the sessions that hold them. -/
def tlsClose (s : State) (sess : Nat) : State :=
  match s.mb.tls.get? sess with
  | none => s
  | some t =>
    let i := t.mb.val
    let b := boxOf s.mb i
    let gone := (b.arrived.filter (fun a => a.sess == sess)).map (·.ndesc)
    let b1 := { b with
      arrived := b.arrived.filter (fun a => a.sess != sess)
      reqCons := b.reqCons + BitVec.ofNat 32 gone.sum }
    { s with mb := { mbSet s.mb i b1 with
        tls := s.mb.tls.erase sess
        exports := s.mb.exports.filter (fun e => e.2.sess != sess) } }

/-- TLS_SESSION_CLOSE (R455). -/
def execTlsSessionClose (sess : Nat) (s : State) : Host.Outcome State Fault Refusal :=
  finish s (if running s then tlsClose s sess else s)

/-- TUNNEL_FRAME_INVALID (R454): decode_error closes the session and is counted at the port. -/
def tunnelFrameInvalidEff (sess : Nat) (s : State) : State :=
  match s.mb.tls.get? sess with
  | none => s
  | some t =>
    let p := ethPort s.eth t.port.val
    let s1 := { s with
      eth := ethSet s.eth t.port.val { p with decodeErrors := p.decodeErrors + 1 }
      mb := { s.mb with alerts := s.mb.alerts.set t.port.val (s.mb.alerts.getD t.port.val 0 + 1) } }
    tlsClose s1 sess

def execTunnelFrameInvalid (sess : Nat) (s : State) : Host.Outcome State Fault Refusal :=
  finish s (if running s then tunnelFrameInvalidEff sess s else s)

/-! ### Capture sets and the Warden pairs -/

/-- HARDWARE_ERROR (R460, R536): one entry, and a capture when it is the first of its class. -/
def execHardwareError (e : ErrRep) (s : State) : Host.Outcome State Fault Refusal :=
  finish s (if running s && decide (1 ≤ e.cls) && decide (e.cls ≤ 0x11) then emitAll s [.trouble e] else s)

/-- FIRST_INFO_ACK (R460): clears VALID and COUNT. -/
def firstInfoAckEff (fn : Fin 2) (cls : Fin 18) (s : State) : State :=
  if fn = 1 then violWrite s fn (0x40000 + cls.val * 0x40 + 8) 8 2
  else if cls = 0 then violWrite s fn 0x40008 8 3
  else { s with err := { s.err with
    sets := s.err.sets.set cls.val { capOf s.err cls.val with valid := false, count := 0 } } }

def execFirstInfoAck (fn : Fin 2) (cls : Fin 18) (s : State) : Host.Outcome State Fault Refusal :=
  finish s (if alive s then firstInfoAckEff fn cls (acc s fn) else s)

/-- DETAIL of a WARDEN entry (R461). -/
def wardenDetail (pairB : Bool) (cause : Nat) (pc : Word32) : List Nat :=
  [b2n pairB, cause, pc.toNat % 256, pc.toNat / 256 % 256, pc.toNat / 65536 % 256, pc.toNat / 16777216]

def wardenTrouble (pairB : Bool) (cause : Nat) (pc : Word32) : Emit :=
  .trouble ⟨0xD, 0, locOpen, accByte 0 0 false, .aborted, wardenDetail pairB cause pc⟩

/-- Pair B is the active pair. -/
def activeB (e : ErrSt) : Bool := decide (e.pairB = .active)

/-- IDLE_PAIR_ERROR (R463): the idle pair stops being HEALTHY and tests itself. -/
def idlePairErrorEff (memory : Bool) (pc : Word32) (s : State) : State :=
  let b := activeB s.err
  let s1 := emitAll s [wardenTrouble (!b) (if memory then 2 else 1) pc]
  if b then
    if s.err.pairA = .healthy then { s1 with err := { s1.err with pairA := .testing } } else s1
  else if s.err.pairB = .healthy then { s1 with err := { s1.err with pairB := .testing } } else s1

def execIdlePairError (memory : Bool) (pc : Word32) (s : State) : Host.Outcome State Fault Refusal :=
  finish s (if running s then idlePairErrorEff memory pc s else s)

/-- A self-test ends: the pair is idle and HEALTHY, or withdrawn until reset (R463). -/
def pairAfterTest (p : WPair) (pass : Bool) : WPair :=
  match p with
  | .halted | .testing => if pass then .healthy else .withdrawn
  | _ => p

/-- PAIR_SELFTEST_DONE (R463). -/
def execPairSelftestDone (pairB : Bool) (pass : Bool) (s : State) : Host.Outcome State Fault Refusal :=
  finish s (if running s then
    let e := if pass then { s.err with testMc := s.time.mc } else s.err
    if pairB then { s with err := { e with pairB := pairAfterTest s.err.pairB pass } }
    else { s with err := { e with pairA := pairAfterTest s.err.pairA pass } }
  else s)

end Sys2Proof.Machine
end

