-- ==== Sys2Proof/Machine/KeyOps.lean ====
section
/-! DEFINITION. Operations on the Meter Context Table and the key table: reading and writing entries, the context cache,
link joins, key checks, working key registers, session slots and quarantine (R127 to R175). -/

namespace Sys2Proof.Machine
open Sys2Proof

/-! ### Entries and the context cache (R127, R137, R138) -/

def mcxCount : Nat := 1048576

def mcxLast : Nat := 1048575

def mctOf (s : State) (m : Nat) : Mct := s.p.mct.getD m {}

/-- The set of an MCX: MCX[9:0] XOR MCX[19:10]. -/
def cacheSet (m : Nat) : Nat := Nat.xor (m % 1024) (m / 1024)

/-- The line to evict of a full set: the least recently used clean line, else the least recently used. -/
def evictee (l : List (Nat × Bool)) : Option (Nat × Bool) :=
  match l.reverse.find? (fun e => !e.2) with
  | some e => some e
  | none => l.getLast?

/-- Bring a line into the cache, most recently used; a dirty line evicted is written to the MCT. -/
def touchLine (s : State) (m : Nat) (dirty : Bool) : State :=
  let k := cacheSet m
  let l := s.ctx.cache.getD k []
  match l.find? (fun e => e.1 == m) with
  | some e =>
    { s with ctx := { s.ctx with cache := s.ctx.cache.set k ((m, e.2 || dirty) :: l.filter (fun x => x.1 ≠ m)) } }
  | none =>
    if l.length < 8 then { s with ctx := { s.ctx with cache := s.ctx.cache.set k ((m, dirty) :: l) } }
    else match evictee l with
      | some v =>
        { s with ctx := { s.ctx with
            cache := s.ctx.cache.set k ((m, dirty) :: l.filter (fun x => x.1 ≠ v.1))
            stale := s.ctx.stale.erase v.1 } }
      | none => s

/-- Write an entry: the line becomes dirty and the MCT in memory keeps what it held until the line is written back.
An entry all zero, that is FREE, is not listed. -/
def setM (s : State) (m : Nat) (e : Mct) : State :=
  let old := mctOf s m
  let s1 := { s with ctx := { s.ctx with
    stale := match s.ctx.stale.get? m with
      | some _ => s.ctx.stale
      | none => s.ctx.stale.set m old
    changed := if s.ctx.changed.contains m then s.ctx.changed else s.ctx.changed ++ [m] } }
  let s2 := touchLine s1 m true
  { s2 with p := { s2.p with mct := if e = {} then s2.p.mct.erase m else s2.p.mct.set m e } }

def updM (s : State) (m : Nat) (f : Mct → Mct) : State := setM s m (f (mctOf s m))

/-- An entry changed by a command: UPDATE_SEQ increments (R130). -/
def cmdM (s : State) (m : Nat) (f : Mct → Mct) : State :=
  updM s m (fun e => { f e with updSeq := wrapAdd 32 e.updSeq 1 })

/-- Write every dirty line back (R138, step 4 of R41). -/
def writeBack (s : State) : State :=
  { s with ctx := { s.ctx with
      cache := s.ctx.cache.map (fun e => (e.1, e.2.map (fun x => (x.1, false))))
      stale := [] } }

/-- A change of STATE sets STATE_TICK (R132). -/
def setSt (s : State) (e : Mct) (st : CtxState) : Mct :=
  if e.state = st then e else { e with state := st, stateTick := s.vault.tick }

/-! ### The identity index (R129) -/

def findKey (t : Tbl Mct) (f : Mct → Bool) : Option Nat := (t.find? (fun e => f e.2)).map Prod.fst

def findEui (s : State) (eui : Word64) : Option Nat :=
  findKey s.p.mct (fun e => decide (e.eui = eui) && decide (e.state ≠ .free))

/-- The entry bound to a link, cell port and short address. RETIRED entries keep no link key. -/
def findAddr (s : State) (link cport short : Nat) : Option Nat :=
  findKey s.p.mct (fun e => decide (e.state ≠ .free) && decide (e.state ≠ .retired) && decide (e.linkType ≠ 0) &&
    e.linkId == link && (e.linkType ≠ 3 || e.cport == cport) && e.short == short && decide (short ≠ 0))

def findSender (s : State) (link cport : Nat) : Sender → Option Nat
  | .eui e => findEui s e
  | .short a => findAddr s link cport a.toNat

/-- The lowest MCX not listed, at or above `i`, in a table sorted by key. -/
def lowestFree : Tbl Mct → Nat → Nat
  | [], i => i
  | (k, e) :: t, i => if k < i then lowestFree t i else if k = i && e.state ≠ .free then lowestFree t (i + 1) else i

/-! ### Link IDs (R4): cells 0 to 1,023, channels 1,024 to 1,039, RF ports 1,040 to 1,043 -/

/-- The link type of a link ID, as MCT LINK codes it; 0 for no link. -/
def linkTypeOf (id : Nat) : Nat :=
  if id < 1024 then 3 else if id < 1040 then 1 else if id < 1044 then 2 else 0

/-- The link port index of a PLC link: a channel or a port of a cell. -/
def lpOf (link cport : Nat) : Nat := if link < 1024 then cellLp link cport else plcLp (link - 1024)

/-- The link ID and cell port of a link port index. -/
def linkOfLp (lp : Nat) : Nat × Nat := if lp < 4096 then (lp / 4, lp % 4) else (1024 + (lp - 4096), 0)

def plcPortOf (s : State) (lp : Nat) : PlcPort := s.plc.ports.getD lp {}

def plcSet (s : State) (lp : Nat) (x : PlcPort) : State := { s with plc := { s.plc with ports := s.plc.ports.set lp x } }

def rfPortOf (s : State) (n : Nat) : RfPort := s.rf.ports.getD n {}

def rfSet (s : State) (n : Nat) (x : RfPort) : State := { s with rf := { s.rf with ports := s.rf.ports.set n x } }

def cellOf (s : State) (c : Nat) : CellPort := s.cell.cells.getD c {}

def cellSet (s : State) (c : Nat) (x : CellPort) : State := { s with cell := { s.cell with cells := s.cell.cells.set c x } }

/-- Count one frame discarded on a link. -/
def countDrop (s : State) (link : Nat) : State :=
  { s with ctx := { s.ctx with rxDrop := s.ctx.rxDrop.set link (s.ctx.rxDrop.getD link 0 + 1) } }

def countReplay (s : State) (link : Nat) : State :=
  { s with ctx := { s.ctx with replay := s.ctx.replay.set link (s.ctx.replay.getD link 0 + 1) } }

def countAuthFail (s : State) (link : Nat) : State :=
  { s with ctx := { s.ctx with authFail := s.ctx.authFail.set link (s.ctx.authFail.getD link 0 + 1) } }

/-- Events of R491. -/
def evUnknownMeter : Nat := 0x8101
def evClockSkew : Nat := 0x8102
def evIntervalRefused : Nat := 0x8103
def evReverseFlow : Nat := 0x8104
def evZeroVoltage : Nat := 0x8105
def evRegisterDecrease : Nat := 0x8106
def evSumMismatch : Nat := 0x8107
def evGapAbandoned : Nat := 0x8108
def evRotateDue : Nat := 0x8109
def evBalanceFlag : Nat := 0x810A
def evBalanceClear : Nat := 0x810B
def evPhaseMismatch : Nat := 0x810C
def evSuspicionHigh : Nat := 0x810D
def evCapacityShrunk : Nat := 0x810E
def evSwapDeferred : Nat := 0x810F
def evSwapReverted : Nat := 0x8110
def evLocalLoss : Nat := 0x8111

/-- A frame of a sender without context: discarded, counted, and reported once per link and Tick (R136). -/
def unknownSender (s : State) (link : Nat) (src : Sender) : State :=
  let s1 := countDrop s link
  if s1.ctx.unknownPosted.contains link then s1
  else
    let d : Body := match src with
      | .eui e => [(e.toNat, 8)]
      | .short a => [(a.toNat, 2)]
    emit1 { s1 with ctx := { s1.ctx with unknownPosted := link :: s1.ctx.unknownPosted } }
      (alarmNow s1 (keyLink link) evUnknownMeter d)

/-! ### Session slots (R149 to R151) -/

/-- Close a meter's session slot: its keys are zeroised and the entry's SESSION reads not VALID. -/
def closeSession (s : State) (m : Nat) : State :=
  match (mctOf s m).session with
  | some slot =>
    updM { s with ctx := { s.ctx with sess := s.ctx.sess.erase slot } } m (fun e => { e with session := none })
  | none => s

/-- The lowest free slot of the meter pool. -/
def freeSlot (t : Tbl MeterSess) : Nat → Nat → Option Nat
  | 0, _ => none
  | n + 1, i => if (t.get? i).isSome then freeSlot t n (i + 1) else some i

/-- The slot idle longest. -/
def idlest : Tbl MeterSess → Option (Nat × MeterSess)
  | [] => none
  | e :: t => match idlest t with
    | some b => if b.2.lastTraffic < e.2.lastTraffic then some b else some e
    | none => some e

/-- Open an association for a meter, or join the slot already open; none when no slot qualifies (R150). -/
def openSession (s : State) (m : Nat) (lineage : List Word32) : Option State :=
  match (mctOf s m).session with
  | some slot => some { s with ctx := { s.ctx with sess := s.ctx.sess.modify slot (fun x => { x with lastTraffic := s.time.mc }) } }
  | none =>
    let take := fun (s : State) (slot : Nat) =>
      updM { s with ctx := { s.ctx with sess := s.ctx.sess.set slot ⟨m, s.time.mc, s.time.mc, lineage⟩ } } m
        (fun e => { e with session := some slot })
    match freeSlot s.ctx.sess 15296 1088 with
    | some slot => some (take s slot)
    | none =>
      match idlest s.ctx.sess with
      | some (slot, x) =>
        if prmN s .ctxEvictIdle * nsPerS ≤ s.time.mc - x.lastTraffic then some (take (closeSession s x.mcx) slot) else none
      | none => none

/-! ### Link joins (R132, R135, R537) -/

/-- Another entry holds the address on the link and cell port. -/
def addrHeld (s : State) (m link cport a : Nat) : Bool :=
  match findAddr s link cport a with
  | some k => k ≠ m
  | none => false

/-- The lowest free short address of a link and cell port, looking at so many addresses from `a`. -/
def lowestAddr (s : State) (m link cport : Nat) : Nat → Nat → Option Nat
  | 0, _ => none
  | n + 1, a => if addrHeld s m link cport a then lowestAddr s m link cport n (a + 1) else some a

/-- The address a join gives: the meter's previous one there when nobody else holds it, else the lowest free (R537). -/
def joinAddr (s : State) (m link cport : Nat) : Option Nat :=
  let e := mctOf s m
  if e.linkId = link && (e.linkType ≠ 3 || e.cport == cport) && e.linkType ≠ 0 && e.short ≠ 0 && !addrHeld s m link cport e.short
  then some e.short
  else lowestAddr s m link cport 65533 1

/-- Release the grants, cells and memberships a meter holds on its home link. -/
def releaseLink (s : State) (m : Nat) : State :=
  let e := mctOf s m
  if e.linkType = 2 then
    let n := e.linkId - 1040
    let x := rfPortOf s n
    rfSet s n { x with cells := x.cells.filter (fun c => c.mcx ≠ m), joined := x.joined.filter (fun j => j ≠ m) }
  else if e.linkType = 0 then s
  else
    let lp := lpOf e.linkId e.cport
    let x := plcPortOf s lp
    plcSet s lp { x with grants := x.grants.filter (fun g => g.member ≠ m), members := x.members.erase m }

/-- A link-layer join of a meter completes on a link: the new state, or none where R537 refuses it. -/
def linkJoin (s : State) (m link cport : Nat) : Option State :=
  let e := mctOf s m
  if e.state = .free || e.state = .retired then none
  else match joinAddr s m link cport with
    | none => none
    | some a =>
      let moved := e.linkType ≠ 0 && (e.linkId ≠ link || (e.linkType = 3 && e.cport ≠ cport))
      let s1 := if moved then releaseLink s m else s
      some (updM s1 m (fun e =>
        let st := match e.state with
          | .provisioned => CtxState.joined
          | .active => if moved then .joined else .active
          | st => st
        setSt s { e with
          linkType := linkTypeOf link, linkId := link, cport := if link < 1024 then cport else 0, short := a
          paths := if moved then [] else e.paths } st))

/-! ### Keys (R161 to R168) -/

/-- Class and index of a handle. -/
def hClass (h : Word32) : Nat := h.toNat / 2 ^ 28
def hIdx (h : Word32) : Nat := h.toNat % 2 ^ 28
def mkHandle (cls idx : Nat) : Word32 := BitVec.ofNat 32 (cls * 2 ^ 28 + idx)

/-- A key as the checks of R167 see it. -/
structure KeyView where
  attr : KeyAttr
  mat : Nat
  kek : KekId
  deriving DecidableEq, Repr

/-- The fixed attributes of a meter key (R165). -/
def meterAttr (cls : Nat) (gen : BitVec 8) (invalidated : Bool) (pend : Bool) : KeyAttr :=
  { masters := 3, worlds := 1, lifecycle := 4
    usage := if cls = 1 then 3 else if cls = 2 then 4 else 1
    alg := 1, generation := gen, valid := true, invalidated := invalidated, pend := pend }

def mkeysOf (s : State) (m : Nat) : MKeys := s.p.keys.meters.getD m {}

/-- The active key of a meter of class 1 to 3. -/
def mkeyOf (k : MKeys) (cls : Nat) : MKey := if cls = 1 then k.uc else if cls = 2 then k.ak else k.bk

def mpendOf (k : MKeys) (cls : Nat) : Option MKey := if cls = 1 then k.pUc else if cls = 2 then k.pAk else k.pBk

def mgenOf (e : Mct) (cls : Nat) : BitVec 8 := if cls = 1 then e.genUc else if cls = 2 then e.genAk else e.genBk

/-- The key a handle names, if the handle is well formed and the key is there (R163, step 2 of R167). -/
def keyView (s : State) (h : Word32) : Option KeyView :=
  let c := hClass h
  let i := hIdx h
  if 1 ≤ c && c ≤ 3 then
    if i < mcxCount && (mctOf s i).state ≠ .free && (s.p.keys.meters.get? i).isSome then
      let k := mkeyOf (mkeysOf s i) c
      some ⟨meterAttr c (mgenOf (mctOf s i) c) k.invalidated (mpendOf (mkeysOf s i) c).isSome, k.mat, k.kek⟩
    else none
  else if 4 ≤ c && c ≤ 11 && i < 65536 then
    match s.p.keys.slots.get? i with
    | some k => if k.cls = c && k.attr.valid then some ⟨k.attr, k.mat, k.kek⟩ else none
    | none => none
  else none

/-- The lineage of a key: its handle and those named through PARENT (R171). -/
def lineage (s : State) (h : Word32) : Nat → List Word32
  | 0 => [h]
  | n + 1 => match keyView s h with
    | some v => if v.attr.parent = 0 then [h] else h :: lineage s v.attr.parent n
    | none => [h]

def chainFuel (s : State) : Nat := s.p.keys.slots.length

/-- Step 3 of R167 fails for a key or an ancestor. -/
def revokedChain (s : State) (a : KeyAttr) : Nat → Bool
  | 0 => a.invalidated
  | n + 1 =>
    a.invalidated ||
    (if a.parent = 0 then false
     else match keyView s a.parent with
       | some v => decide (v.attr.generation ≠ a.parentGen) || revokedChain s v.attr n
       | none => true)

/-- A use of a key (step 4 of R167): master as MASTERS numbers it, normal world, bit of USAGE, algorithms. -/
structure KeyReq where
  master : Nat
  normal : Bool := false
  usage : Nat
  algs : List Nat
  targets : BitVec 16 := 0
  deriving DecidableEq, Repr

/-- The first check of R167 that a use fails: its status and step. -/
def keyJudge (s : State) (h : Word32) (q : KeyReq) : Option (Status × Nat) :=
  if s.vault.tampered then some (.tampered, 1)
  else match keyView s h with
    | none => some (.keyMissing, 2)
    | some v =>
      if !s.keys.ready || s.keys.kek ≠ some v.kek then some (.keyMissing, 2)
      else if revokedChain s v.attr (chainFuel s) then some (.keyRevoked, 3)
      else if v.attr.masters.getLsbD q.master && v.attr.worlds.getLsbD (b2n q.normal) &&
        v.attr.lifecycle.getLsbD (lifeIdx s.vault.life) && v.attr.usage.getLsbD q.usage && q.algs.contains v.attr.alg &&
        decide (v.attr.targets &&& q.targets = q.targets) then none
      else some (.keyAttr, 4)

/-- A failed use writes its trouble-log entry and its counters (R167). -/
def keyFail (s : State) (h : Word32) (q : KeyReq) (f : Status × Nat) : State :=
  let s1 := { s with keys := { s.keys with
    revoked := s.keys.revoked + (if f.2 = 3 then 1 else 0)
    attrFail := s.keys.attrFail + (if f.2 = 4 then 1 else 0) } }
  emit1 s1 (.trouble ⟨7, 0, locOpen, accByte q.master (b2n q.normal) false, f.1, bytesLE h.toNat 4 ++ [f.2]⟩)
where
  bytesLE (v : Nat) : Nat → List Nat
    | 0 => []
    | n + 1 => v % 256 :: bytesLE (v / 256) n

/-- Load a key into the working register of a lane, or of a public-key engine (R168). -/
def loadKey (s : State) (pke : Bool) (unit : Nat) (h : Word32) (gen : BitVec 8) (mat : Nat) : State :=
  let t := if pke then s.keys.pkes else s.keys.lanes
  let hit := match t.get? unit with
    | some w => decide (w.handle = h) && decide (w.gen = gen) && decide (w.mat = mat)
    | none => false
  let w : WKey := ⟨h, gen, mat, lineage s h (chainFuel s)⟩
  let k := s.keys
  { s with keys := { k with
      loads := k.loads + (if hit then 0 else 1)
      hits := k.hits + (if hit then 1 else 0)
      lanes := if pke then k.lanes else k.lanes.set unit w
      pkes := if pke then k.pkes.set unit w else k.pkes } }

/-- A use of a key by a mailbox command (R166): the state after its log entry, and the status where it fails. -/
def useKey (s : State) (r : Req) (h : Word32) (usage : Nat) (algs : List Nat) (targets : BitVec 16) : State × Option Status :=
  let q : KeyReq := ⟨mbMaster s r, r.mb.val == 1, usage, algs, targets⟩
  match keyJudge s h q with
  | some f => (keyFail s h q f, some f.1)
  | none => (s, none)

/-- Clear every working key register (R169). -/
def clearWorking (k : KeySt) : KeySt := { k with lanes := [], pkes := [] }

/-- Clear the working key registers that hold a key of a lineage. -/
def clearLineage (k : KeySt) (h : Word32) : KeySt :=
  { k with
    lanes := k.lanes.filter (fun e => !e.2.lineage.contains h)
    pkes := k.pkes.filter (fun e => !e.2.lineage.contains h) }

/-- The KEKs that the vault would derive now (R157, R158); none in BLANK and RETIRED, or while TAMPERED. -/
def vaultKek (s : State) : Option KekId :=
  if s.vault.tampered || !s.vault.taproot then none
  else match s.vault.life with
    | .provisioned | .operational => some ⟨s.vault.counters.getD 16 0, 0x50, s.vault.bmr⟩
    | .service => some ⟨s.vault.counters.getD 16 0, 0x53, s.vault.bmr⟩
    | _ => none

/-- A signed package: the status its trailer fails with (R192, R371): the ANCHOR's checks of R167, its TARGETS bit, the
signature. The ANCHOR's failures are reported as AUTH_FAIL where its class or TARGETS are wrong. -/
def trailerFail (s : State) (r : Req) (t : Trailer) (bit : Nat) : State × Option Status :=
  if hClass t.handle ≠ 8 then (s, some .authFail)
  else
    let q : KeyReq := ⟨mbMaster s r, r.mb.val == 1, 4, [5, 6], 0⟩
    match keyJudge s t.handle q with
    | some f => (keyFail s t.handle q f, some f.1)
    | none =>
      match keyView s t.handle with
      | some v => (s, if v.attr.targets.getLsbD bit && t.sigOk then none else some .authFail)
      | none => (s, some .authFail)

/-! ### Meter keys: commit of a rotation (R144, R145, R174, R175) -/

def commitOne (active : MKey) : Option MKey → MKey
  | some k => k
  | none => active

/-- DOWN_IC at which a meter's downlink halts (R145). -/
def downHaltAt : Nat := 0xFFE00000

/-- The limits of R145 on a meter's counters: DOWN_HALT where DOWN_IC has reached its limit; ROTATE_DUE and a key-rotation request
where a counter has reached the alarm threshold, once. -/
def counterCheck (s : State) (m : Nat) : State :=
  let s1 := updM s m (fun e => { e with downHalt := e.downHalt || decide (downHaltAt ≤ e.downIc) })
  let e := mctOf s1 m
  let th := prmN s1 .ctxRotateAlarm
  if !e.rotateDue && ((!e.windowEmpty && th ≤ e.upHigh) || th ≤ e.downIc) then
    emit1 (updM s1 m (fun e => { e with rotateDue := true })) (alarmNow s1 (keyMcx m) evRotateDue [])
  else s1

/-- Put the pending keys that the mask names into their active slots (bits: 0 unicast, 1 authentication, 2 broadcast).
`byFrame` is the counter of the committing frame, none for COMMIT. -/
def commitKeys (s : State) (m : Nat) (mask : BitVec 3) (byFrame : Option Nat) : State :=
  let k := mkeysOf s m
  let e := mctOf s m
  let mk := mask &&& e.pend
  let uc := mk.getLsbD 0
  let ak := mk.getLsbD 1
  let bk := mk.getLsbD 2
  let k1 : MKeys := { k with
    uc := if uc then commitOne k.uc k.pUc else k.uc
    ak := if ak then commitOne k.ak k.pAk else k.ak
    bk := if bk then commitOne k.bk k.pBk else k.bk
    pUc := if uc then none else k.pUc
    pAk := if ak then none else k.pAk
    pBk := if bk then none else k.pBk }
  let s1 := { s with p := { s.p with keys := { s.p.keys with meters := s.p.keys.meters.set m k1 } } }
  let s2 := updM s1 m (fun e =>
    let e1 := { e with
      genUc := if uc then e.genUc + 1 else e.genUc
      genAk := if ak then e.genAk + 1 else e.genAk
      genBk := if bk then e.genBk + 1 else e.genBk
      pend := e.pend &&& ~~~mk }
    if uc then
      match byFrame with
      | some c => { e1 with upHigh := c, bmp := 1, windowEmpty := false, downIc := 0, rotateDue := false, downHalt := false }
      | none => { e1 with bmp := 0, windowEmpty := true, downIc := 0, rotateDue := false, downHalt := false }
    else e1)
  let s2a := if mk = 0 then s2 else { s2 with keys := { s2.keys with commits := s2.keys.commits.set m s2.vault.tick } }
  let s3 := closeSession s2a m
  let clr := fun (s : State) (b : Bool) (c : Nat) =>
    if b then { s with keys := clearLineage s.keys (mkHandle c m) } else s
  clr (clr (clr s3 uc 1) ak 2) bk 3

/-- Handles of quarantined frames whose key a new valid key has replaced (R172): the frames that return, oldest first. -/
def quarReleased (s : State) (h : Word32) : List InFrame := (s.quar.filter (fun q => q.2.1 = h)).map Prod.fst

end Sys2Proof.Machine
end

