-- ==== Sys2Proof/Machine/FlowOps.lean ====
section
/-! DEFINITION. Operations of the graph and its scheduler: instances, edges, pressure, ready lanes, dispatches, line locks and
the passing on of items (R190 to R202). -/

namespace Sys2Proof.Machine
open Sys2Proof

/-! ### Node types (R190) -/

def tLinkRx : Nat := 0x01
def tCellRx : Nat := 0x02
def tPortRx : Nat := 0x03
def tDefrag : Nat := 0x04
def tDecrypt : Nat := 0x05
def tReplay : Nat := 0x06
def tParse : Nat := 0x07
def tCtxUpdate : Nat := 0x08
def tValidate : Nat := 0x09
def tEstimate : Nat := 0x0A
def tBillPost : Nat := 0x0B
def tDemand : Nat := 0x0C
def tBalance : Nat := 0x0D
def tPhaseCorr : Nat := 0x0E
def tStore : Nat := 0x0F
def tExport : Nat := 0x10
def tAlarm : Nat := 0x11
def tCampaign : Nat := 0x12
def tDownBuild : Nat := 0x13
def tEncrypt : Nat := 0x14
def tLinkTx : Nat := 0x15
def tTickClose : Nat := 0x16

/-- Context writers (R190). -/
def ctxWriter (t : Nat) : Bool := [0x06, 0x08, 0x09, 0x0A, 0x0B, 0x0C, 0x0E, 0x12, 0x13, 0x16].contains t

/-- Sources. -/
def isSource (t : Nat) : Bool := t == tLinkRx || t == tCellRx || t == tPortRx

def noEdge : Nat := 0xFFFF

/-- Instances and edges of the graph in force. -/
def liveNodes (s : State) : List GNode := match s.p.graph with | some g => g.nodes | none => []

def liveEdges (s : State) : List GEdge := match s.p.graph with | some g => g.edges | none => []

/-- With them, those of an old graph being drained (R195). -/
def gNodes (s : State) : List GNode := liveNodes s ++ (match s.flow.old with | some o => o.nodes | none => [])

def gEdges (s : State) : List GEdge := liveEdges s ++ (match s.flow.old with | some o => o.edges | none => [])

def nodeRec (s : State) (n : Nat) : Option GNode := (gNodes s).find? (fun x => x.node == n)

def edgeRec (s : State) (e : Nat) : Option GEdge := (gEdges s).find? (fun x => x.edge == e)

def nodeType (s : State) (n : Nat) : Nat := match nodeRec s n with | some x => x.type | none => 0

def inEdges (x : GNode) : List Nat := x.inEdges.filter (fun e => e ≠ noEdge)

def outEdges (x : GNode) : List Nat := x.outEdges.filter (fun e => e ≠ noEdge)

def edgeSt (s : State) (e : Nat) : EdgeSt := s.flow.edges.getD e {}

def cellsOf (x : EdgeSt) : Nat := (x.items.map Item.cells).sum

def setEdge (s : State) (e : Nat) (x : EdgeSt) : State :=
  { s with flow := { s.flow with edges := s.flow.edges.set e { x with peak := max x.peak (cellsOf x) } } }

def nodeSt (s : State) (n : Nat) : NodeSt := s.flow.nodes.getD n {}

def setNode (s : State) (n : Nat) (x : NodeSt) : State := { s with flow := { s.flow with nodes := s.flow.nodes.set n x } }

/-- Cells of an item of so many payload bytes: 32 words of 8 bytes each, header included (R418). -/
def cellsFor (bytes : Nat) : Nat := (16 + bytes + 255) / 256

def capOfEdge (s : State) (e : Nat) : Nat := match edgeRec s e with | some r => r.capCells | none => 0

def freeCells (s : State) (e : Nat) : Nat := capOfEdge s e - cellsOf (edgeSt s e) - (edgeSt s e).reserved

/-! ### Sources and pressure (R200, R203, R206) -/

/-- The instance of a source or sink type that serves a binding. -/
def boundNode (s : State) (t bind : Nat) : Option GNode := (liveNodes s).find? (fun x => x.type == t && x.bind == bind)

/-- The highest BIND at or below a cell among instances of a type: the instance that serves the cell (R193). -/
def cellNodeOf (t c : Nat) : List GNode → Option GNode
  | [] => none
  | x :: l =>
    let r := cellNodeOf t c l
    if x.type = t && x.bind ≤ c then
      match r with
      | some y => if x.bind ≤ y.bind then some y else some x
      | none => some x
    else r

/-- The source instance of a link: LINK_RX of a channel or port, CELL_RX of a cell. -/
def sourceOf (s : State) (link : Nat) : Option GNode :=
  if link < 1024 then cellNodeOf tCellRx link (liveNodes s) else boundNode s tLinkRx link

/-- Pressure on every source: journal limit, admission close of a power failure, a member of a pair that is not ACTIVE (R404). -/
def globalPressure (s : State) : Bool := s.flow.journalLimit || s.boot.pfw || notActive s

def underPressure (s : State) (n : Nat) : Bool := (nodeSt s n).pressure || globalPressure s

/-- The engine admits meter traffic: full service, not in safe hold, lifecycle state that serves meters, and not a
non-ACTIVE member of a pair. -/
def serving (s : State) : Bool :=
  decide (s.boot.stage = 6) && !s.err.safeHold && !notActive s &&
  (decide (s.vault.life = .provisioned) || decide (s.vault.life = .operational))

/-- The link's source has credit for an item of so many bytes (R66, R84, R200). -/
def linkCredit (s : State) (link bytes : Nat) : Bool :=
  serving s && !globalPressure s &&
  (match sourceOf s link with
   | some x => match inEdges x with
     | e :: _ => decide (cellsFor bytes ≤ freeCells s e) && !(nodeSt s x.node).pressure
     | [] => false
   | none => false)

/-- Pressure with hysteresis at one source: set at XOFF_CELLS, released below XON_CELLS. -/
def refreshPressure (s : State) (x : GNode) : State :=
  match inEdges x with
  | e :: _ =>
    match edgeRec s e with
    | some r =>
      let c := cellsOf (edgeSt s e)
      let st := nodeSt s x.node
      let pr := if 0 < r.xoff && r.xoff ≤ c then true else if c < r.xon then false else st.pressure
      if pr = st.pressure then s else setNode s x.node { st with pressure := pr }
    | none => s
  | [] => s

/-- ETH_A or ETH_B sends PAUSE or PFC where it starts or ceases to be under pressure (R200). -/
def pauseSync (s : State) (x : Nat) : State :=
  let p := ethPort s.eth x
  let on := match boundNode s tPortRx x with
    | some n => underPressure s n.node && decide (prm s .ethFcMode x ≠ 2) && egressOk s
    | none => false
  if on = p.pressure then s
  else
    let s1 := { s with eth := ethSet s.eth x { p with
      pressure := on, lastPauseNs := s.time.mc, pauseSent := if egressOk s then p.pauseSent + 1 else p.pauseSent } }
    if egressOk s then ethTx s1 x false else s1

def refreshAllPressure (s : State) : State :=
  [0, 1].foldl pauseSync (((liveNodes s).filter (fun x => isSource x.type)).foldl refreshPressure s)

/-! ### Readiness and the ready lists (R191, R196, R197) -/

def laneOf (x : GNode) (key : Nat) : Nat := if x.maxPar ≤ 1 then 0 else key % x.maxPar

/-- Items of an edge that go to a lane. -/
def laneItems (s : State) (x : GNode) (lane e : Nat) : List Item :=
  (edgeSt s e).items.filter (fun i => laneOf x i.key == lane)

def laneRunning (s : State) (l : Lane) : Bool := s.flow.cores.any (fun r => r.2.lane == l)

/-- Every output edge has free cells for `b` items. -/
def roomFor (s : State) (x : GNode) (b : Nat) : Bool :=
  (outEdges x).all (fun e => match edgeRec s e with
    | some r => decide (b * r.reserve ≤ freeCells s e)
    | none => true)

def fenced (s : State) (t : Nat) : Bool := s.flow.fence && ctxWriter t && t != tTickClose

/-- A lane is ready (R196). -/
def laneReady (s : State) (l : Lane) : Bool :=
  match nodeRec s l.node with
  | some x =>
    (inEdges x).any (fun e => !(laneItems s x l.lane e).isEmpty) && roomFor s x 1 && !laneRunning s l && !fenced s x.type &&
    !(isSource x.type && globalPressure s)
  | none => false

/-- Every lane of an instance that has an item. -/
def lanesWithItems (s : State) (x : GNode) : List Lane :=
  ((inEdges x).map (fun e => (edgeSt s e).items.map (fun i => laneOf x i.key))).flatten.foldl
    (fun l n => if l.contains ⟨x.node, n⟩ then l else l ++ [⟨x.node, n⟩]) []

/-- Bring the ready lists up to date: lanes no longer ready leave, lanes newly ready join at the end. -/
def refreshReady (s0 : State) : State :=
  let s := refreshAllPressure s0
  let keep := s.flow.ready.filter (laneReady s)
  let all := ((gNodes s).map (lanesWithItems s)).flatten
  let new := all.filter (fun l => laneReady s l && !keep.contains l)
  { s with flow := { s.flow with ready := keep ++ new } }

/-- The tier of an instance: in budget (TICK_CLOSE always). -/
def inBudget (s : State) (x : GNode) : Bool := x.type == tTickClose || decide ((nodeSt s x.node).usedNs < x.budgetUs * 1000)

def grove (core : Nat) : Nat := core / 8

/-- The lane that R197 gives to a core, at one tier and priority. -/
def pickAt (s : State) (core : Nat) (tier : Bool) (p : Nat) : Option Lane :=
  s.flow.ready.find? (fun l => match nodeRec s l.node with
    | some x => x.priority == p && inBudget s x == tier && x.groveMask.getLsbD (grove core)
    | none => false)

def firstSome (f : Nat → Option Lane) : List Nat → Option Lane
  | [] => none
  | p :: t => match f p with
    | some l => some l
    | none => firstSome f t

def priorities : List Nat := [0, 1, 2, 3, 4, 5, 6, 7, 8, 9, 10, 11, 12, 13, 14, 15]

def pickLane (s : State) (core : Nat) : Option Lane :=
  match firstSome (pickAt s core true) priorities with
  | some l => some l
  | none => firstSome (pickAt s core false) priorities

/-- The largest batch up to `n` for which every output edge has room (R196). -/
def batchSize (s : State) (x : GNode) : Nat → Nat
  | 0 => 0
  | n + 1 => if roomFor s x (n + 1) then n + 1 else batchSize s x n

/-- The input edge whose turn it is among those holding items for the lane, starting at `turn`. -/
def pickEdge (s : State) (x : GNode) (lane turn : Nat) : Option Nat :=
  let l := inEdges x
  ((l.drop turn) ++ (l.take turn)).find? (fun e => !(laneItems s x lane e).isEmpty)

/-- Take the first `n` items of a lane off an edge's list. -/
def takeItems (x : GNode) (lane : Nat) : List Item → Nat → List Item × List Item
  | [], _ => ([], [])
  | i :: t, n =>
    if laneOf x i.key == lane && 0 < n then
      let r := takeItems x lane t (n - 1)
      (i :: r.1, r.2)
    else
      let r := takeItems x lane t n
      (r.1, i :: r.2)

/-- Reserve cells on an edge, or release them. -/
def reserveOn (s : State) (e : Nat) (n : Int) : State :=
  let x := edgeSt s e
  setEdge s e { x with reserved := ((x.reserved : Int) + n).toNat }

/-- Dispatch a lane to a core (R196, R197). -/
def dispatch (s : State) (core : Nat) (l : Lane) : State :=
  match nodeRec s l.node with
  | none => s
  | some x =>
    let st := nodeSt s x.node
    match pickEdge s x l.lane st.turn with
    | none => s
    | some e =>
      let b := min (laneItems s x l.lane e).length (batchSize s x x.batchMax)
      let r := takeItems x l.lane (edgeSt s e).items b
      let resv := (outEdges x).map (fun o => (o, b * (match edgeRec s o with | some y => y.reserve | none => 0)))
      let s1 := setEdge s e { edgeSt s e with items := r.2 }
      let s2 := resv.foldl (fun s q => reserveOn s q.1 q.2) s1
      let idx := (inEdges x).findIdx (fun y => y == e)
      let s3 := setNode s2 x.node { st with
        dispatches := wrapAdd 64 st.dispatches 1, itemsIn := wrapAdd 64 st.itemsIn r.1.length
        turn := (idx + 1) % (max 1 (inEdges x).length) }
      let run : Run := { lane := l, type := x.type, batch := r.1, taken := r.1.length, resv := resv, startMc := s.time.mc
                         startTick := s.vault.tick }
      refreshReady { s3 with flow := { s3.flow with
        ready := s3.flow.ready.filter (fun q => q ≠ l)
        cores := s3.flow.cores.set core run
        blocked := s3.flow.blocked.filter (fun c => c ≠ core)
        dispatches := wrapAdd 64 s3.flow.dispatches 1 } }

/-- Blocked cores take lanes that became ready, lowest core first. -/
def feedCores (s : State) : List Nat → State
  | [] => s
  | c :: t => match pickLane s c with
    | some l => feedCores (dispatch s c l) t
    | none => feedCores s t

/-- After anything that can make lanes ready. -/
def reschedule (s : State) : State :=
  let s1 := refreshReady s
  feedCores s1 s1.flow.blocked

/-! ### Items enter and move -/

/-- Put an item on an edge. -/
def pushEdge (s : State) (e : Nat) (i : Item) : State :=
  let x := edgeSt s e
  setEdge s e { x with items := x.items ++ [i] }

/-- A frame admitted at a source enters its input edge. -/
def admitAt (s : State) (x : GNode) (i : Item) : State :=
  match inEdges x with
  | e :: _ => reschedule (pushEdge s e i)
  | [] => s

/-- Which work a node type takes. -/
def accepts (t : Nat) (w : Work) : Bool :=
  match w with
  | .frame f => match f.stage with
    | .raw => t == tDefrag
    | .found => t == tDecrypt
    | .verified => t == tReplay
    | .committed => t == tParse
    | .parsed => t == tCtxUpdate || t == tValidate || t == tCampaign
  | .ival _ =>
    t == tBillPost || t == tDemand || t == tBalance || t == tPhaseCorr || t == tStore || t == tExport
  | .snap .. => t == tBillPost || t == tStore || t == tExport
  | .readAdopted .. => t == tEstimate
  | .respread .. => t == tEstimate
  | .measure .. => t == tBalance
  | .chunk _ => t == tCellRx
  | .down d =>
    if d.counter.isNone then t == tDownBuild
    else if d.sealedGen.isNone then t == tEncrypt
    else t == tLinkTx

def workBytes : Work → Nat
  | .frame f => f.f.bytes
  | .ival _ => 64
  | .snap .. => 512
  | .readAdopted .. => 32
  | .respread .. => 48
  | .measure .. => 160
  | .chunk l => (l.map (fun f => f.f.bytes)).sum
  | .down d => d.bytes

def mkItem (key : Nat) (w : Work) : Item := ⟨key, cellsFor (workBytes w), w⟩

/-- The output edges of a node whose consumer takes this work. -/
def targets (s : State) (x : GNode) (w : Work) : List Nat :=
  (outEdges x).filter (fun e => match edgeRec s e with
    | some r => accepts (nodeType s r.consumer) w && !r.quarantine
    | none => false)

/-- Cells an input item has placed on an edge must not exceed RESERVE_CELLS (R199). -/
def withinReserve (s : State) (x : GNode) (outs : List Item) : Bool :=
  (outEdges x).all (fun e => match edgeRec s e with
    | some r => decide (((outs.filter (fun i => (targets s x i.work).contains e)).map Item.cells).sum ≤ r.reserve)
    | none => true)

def pushAll (s : State) (x : GNode) (outs : List Item) : State :=
  outs.foldl (fun s i => (targets s x i.work).foldl (fun s e => pushEdge s e i) s) s

/-- Output of a dispatch: its cells come out of the dispatch's reservations. -/
def pushRun (s : State) (core : Nat) (x : GNode) (outs : List Item) : State :=
  outs.foldl (fun s i => (targets s x i.work).foldl (fun s e =>
    let n : Nat := match s.flow.cores.get? core with
      | some r => min i.cells (match r.resv.find? (fun q => q.1 = e) with | some q => q.2 | none => 0)
      | none => 0
    let s1 := reserveOn (pushEdge s e i) e (-((n : Nat) : Int))
    { s1 with flow := { s1.flow with cores := s1.flow.cores.modify core (fun r => { r with
        resv := r.resv.map (fun q => if q.1 = e then (e, q.2 - n) else q) }) } }) s) s

/-! ### Dispatches at work -/

/-- The dispatch of a core and its first item not yet worked on. -/
def workOn (s : State) (core t : Nat) : Option (Run × Item) :=
  match s.flow.cores.get? core with
  | some r => if r.type = t then
      match r.batch with
      | i :: _ => some (r, i)
      | [] => none
    else none
  | none => none

/-- Another dispatch holds the line of an MCX, or an earlier one waits for it (R137). -/
def lineBusy (s : State) (core m : Nat) : Bool :=
  s.flow.cores.any (fun r => r.1 ≠ core && r.2.locks.contains m) ||
  (match s.flow.lockWait.find? (fun w => w.2 = m) with
   | some w => w.1 ≠ core
   | none => false)

/-- Wait for a line, in order of request. -/
def waitLine (s : State) (core m : Nat) : State :=
  if s.flow.lockWait.contains (core, m) then s
  else { s with flow := { s.flow with
    lockWait := s.flow.lockWait ++ [(core, m)]
    cores := s.flow.cores.modify core (fun r => { r with waiting := some m, waitFrom := s.time.mc }) } }

/-- Take the line of an MCX for a dispatch. -/
def takeLine (s : State) (core m : Nat) : State :=
  touchLine { s with flow := { s.flow with
    lockWait := s.flow.lockWait.filter (fun w => w ≠ (core, m))
    cores := s.flow.cores.modify core (fun r => { r with
      locks := if r.locks.contains m then r.locks else m :: r.locks
      waitNs := r.waitNs + (if r.waiting = some m then s.time.mc - r.waitFrom else 0)
      waiting := none }) } } m false

/-- The item is worked off. -/
def dropItem (s : State) (core : Nat) : State :=
  { s with flow := { s.flow with cores := s.flow.cores.modify core (fun r => { r with batch := r.batch.drop 1 }) } }

/-- What a node does with one item: the state, and the items it puts out. -/
structure NodeOut where
  s : State
  outs : List Item := []
  deriving DecidableEq, Repr

/-- Output beyond the reservation: the item completes with NO_RESOURCE and an entry of class SCHED names the node (R199). -/
def overReserve (s : State) (core node : Nat) : State :=
  emit1 { s with flow := { s.flow with cores := s.flow.cores.modify core (fun r => { r with batch := [] }) } }
    (.trouble ⟨8, 0, locOpen, accByte 1 0 false, .noResource, [node % 256, node / 256]⟩)

/-- One item of a dispatch of type `t`: `f` works on it under the line lock of the MCX it names. -/
def nodeWork (t : Nat) (core : Nat) (line : Item → Option Nat) (f : State → Item → NodeOut) (s : State) : State :=
  match workOn s core t with
  | none => s
  | some (r, i) =>
    match nodeRec s r.lane.node with
    | none => dropItem s core
    | some x =>
      let go := fun (s : State) =>
        let o := f s i
        if withinReserve o.s x o.outs then reschedule (pushRun (dropItem o.s core) core x o.outs)
        else overReserve o.s core x.node
      match line i with
      | some m => if lineBusy s core m then waitLine s core m else go (takeLine s core m)
      | none => go s

/-- Items made by work of a node type outside a dispatch leave by the output edges of its first instance. -/
def pushFrom (s : State) (t : Nat) (outs : List Item) : State :=
  match (gNodes s).find? (fun x => x.type == t) with
  | some x => reschedule (pushAll s x outs)
  | none => s

/-- Put a frame on the QUARANTINE edge of the first DECRYPT_VERIFY instance, from where it is verified again (R172). -/
def requeue (s : State) (f : InFrame) : State :=
  match (gEdges s).find? (fun e => e.quarantine) with
  | some e => pushEdge s e.edge (mkItem (f.mcx.getD f.link) (.frame { f with stage := .found }))
  | none => s

/-- Frames quarantined for a handle return to DECRYPT_VERIFY once its slot holds a new valid key (R172). -/
def releaseQuar (s : State) (h : Word32) : State :=
  let back := quarReleased s h
  if back.isEmpty then s
  else
    let s1 := { s with quar := s.quar.filter (fun q => q.2.1 ≠ h) }
    reschedule (back.foldl requeue s1)

/-- Place a frame in quarantine; a full queue loses its oldest (R172). -/
def quarantine (s : State) (f : InFrame) (h : Word32) : State :=
  let q := s.quar ++ [(f, h, s.time.mc)]
  if prmN s .keyQuarItems < q.length then
    { s with quar := q.drop 1, keys := { s.keys with quarDropped := s.keys.quarDropped + 1 } }
  else { s with quar := q }

/-- A downlink item for a meter completes with a status other than OK. -/
def completeDown (s : State) (m : Nat) (st : Status) : State :=
  { s with flow := { s.flow with completions := (m, st) :: s.flow.completions } }

/-- Journal bytes added in the Tick; at the limit every source comes under pressure (R203). -/
def addJournal (s : State) (n : Nat) : State :=
  { s with flow := { s.flow with journalBytes := s.flow.journalBytes + n } }

end Sys2Proof.Machine
end

