-- ==== Sys2Proof/Machine/Calendar.lean ====
section
/-! DEFINITION. Calendar Time, interval ends, rates and billing boundaries (R14, R239, R240, R252, R538). Instants are ns. -/

namespace Sys2Proof.Machine
open Sys2Proof

/-! ### Dates -/

/-- Days from 1970-01-01 to a date of the Gregorian calendar. -/
def daysOf (y m d : Nat) : Nat :=
  let y1 := if m ≤ 2 then y - 1 else y
  let era := y1 / 400
  let yoe := y1 % 400
  let doy := (153 * (if 2 < m then m - 3 else m + 9) + 2) / 5 + d - 1
  let doe := yoe * 365 + yoe / 4 - yoe / 100 + doy
  era * 146097 + doe - 719468

/-- The date of a day number: year, month, day. -/
def dateOf (n : Nat) : Nat × Nat × Nat :=
  let z := n + 719468
  let era := z / 146097
  let doe := z % 146097
  let yoe := (doe - doe / 1460 + doe / 36524 - doe / 146096) / 365
  let doy := doe - (365 * yoe + yoe / 4 - yoe / 100)
  let mp := (5 * doy + 2) / 153
  let d := doy - (153 * mp + 2) / 5 + 1
  let m := if mp < 10 then mp + 3 else mp - 9
  (yoe + era * 400 + (if m ≤ 2 then 1 else 0), m, d)

/-- 1 Monday to 7 Sunday. -/
def weekdayOf (n : Nat) : Nat := (n + 3) % 7 + 1

def leapYear (y : Nat) : Bool := y % 4 == 0 && (y % 100 ≠ 0 || y % 400 == 0)

def monthDays (y m : Nat) : Nat :=
  if m = 2 then (if leapYear y then 29 else 28) else if m = 4 || m = 6 || m = 9 || m = 11 then 30 else 31

def dayNs : Nat := 86400 * nsPerS

/-- A date and time as ns on its own clock face. -/
def faceOf (d : DateTime) : Nat :=
  daysOf d.year d.month d.day * dayNs + (d.hour * 3600 + d.minute * 60 + d.second) * nsPerS

def dateTimeOk (d : DateTime) : Bool :=
  decide (1970 ≤ d.year) && decide (1 ≤ d.month) && decide (d.month ≤ 12) && decide (1 ≤ d.day) &&
  decide (d.day ≤ monthDays d.year d.month) && decide (d.hour ≤ 23) && decide (d.minute ≤ 59) && decide (d.second ≤ 59)

/-! ### UTC (R14, R239) -/

/-- A leap second announced by the domain that ET follows: the ET instant after which the new offset holds, and it. -/
def leapAhead (s : State) : Option (Nat × Nat) :=
  match selDom s with
  | some d =>
    let x := ptpOf s.time d
    let off := s.time.utcOffset
    let midnight := ((etNs s - off * nsPerS) / dayNs + 1) * dayNs
    if x.leap61 then some (midnight + (off + 1) * nsPerS, off + 1)
    else if x.leap59 then some (midnight + (off - 1) * nsPerS, off - 1)
    else none
  | none => none

/-- The offset in force at a past instant, from the changes kept, newest first. -/
def offPast : List (Nat × Nat × Nat × Bool) → Nat → Nat → Nat
  | [], _, cur => cur
  | (t, old, _, _) :: l, x, cur => if t ≤ x then cur else offPast l x old

/-- The UTC offset in force at an ET instant. -/
def offAt (s : State) (et : Nat) : Nat :=
  match leapAhead s with
  | some (t, new) => if t ≤ et then new else offPast s.vault.utcChanges et s.time.utcOffset
  | none => offPast s.vault.utcChanges et s.time.utcOffset

/-- UTC of an ET instant. -/
def utcOf (s : State) (et : Nat) : Nat := et - offAt s et * nsPerS

/-- ET of a UTC instant under the offsets in force: the latest change whose instant it reaches. -/
def etPast : List (Nat × Nat × Nat × Bool) → Nat → Nat → Nat
  | [], u, cur => u + cur * nsPerS
  | (t, old, _, _) :: l, u, cur => if t ≤ u + cur * nsPerS then u + cur * nsPerS else etPast l u old

def etOfUtc (s : State) (u : Nat) : Nat :=
  match leapAhead s with
  | some (t, new) => if t ≤ u + new * nsPerS then u + new * nsPerS else etPast s.vault.utcChanges u s.time.utcOffset
  | none => etPast s.vault.utcChanges u s.time.utcOffset

/-- ET of a UTC instant under the offset in use now (R217). -/
def etOfUtcNow (s : State) (u : Int) : Int := u + (s.time.utcOffset * nsPerS : Nat)

/-! ### Interval ends (R538) -/

/-- Which interval end of a length, counted from 1970, an instant is, or the one below it. -/
def endIdx (s : State) (lenS et : Nat) : Nat := utcOf s et / (lenS * nsPerS)

def isEnd (s : State) (lenS et : Nat) : Bool := decide (0 < lenS) && utcOf s et % (lenS * nsPerS) == 0

/-- The ET instant of the end with an index. -/
def endAt (s : State) (lenS i : Nat) : Nat := etOfUtc s (i * lenS * nsPerS)

/-- The interval end nearest to an instant. -/
def nearestEnd (s : State) (lenS : Nat) (et : Int) : Nat :=
  let u := utcOf s et.toNat
  endAt s lenS ((u + lenS * nsPerS / 2) / (max 1 (lenS * nsPerS)))

/-! ### Zones (R239) -/

/-- The day on which a rule of daylight saving falls in a year. -/
def dstDay (r : DstRule) (y : Nat) : Nat :=
  let first := daysOf y r.month 1
  let off := (r.weekday + 7 - weekdayOf first) % 7
  let d := first + off + (r.week - 1) * 7
  if r.week = 5 && first + monthDays y r.month ≤ d then d - 7 else d

def stdNs (b : CalBody) : Int := b.stdOffsetMin * 60 * (nsPerS : Int)

def dstNs (b : CalBody) : Int := (b.dstDeltaMin * 60 * nsPerS : Nat)

/-- The UTC instants at which daylight saving starts and ends in a year. -/
def dstSpan (b : CalBody) (y : Nat) : Int × Int :=
  let st : Int := (dstDay b.dstStart y * dayNs + b.dstStart.hour * 3600 * nsPerS : Nat)
  let en : Int := (dstDay b.dstEnd y * dayNs + b.dstEnd.hour * 3600 * nsPerS : Nat)
  (st - stdNs b, en - stdNs b - dstNs b)

/-- Daylight saving is in force at a UTC instant. -/
def dstOn (b : CalBody) (u : Int) : Bool :=
  if b.dstDeltaMin = 0 then false
  else
    let y := (dateOf ((u + stdNs b).toNat / dayNs)).1
    let p := dstSpan b y
    if p.1 < p.2 then decide (p.1 ≤ u) && decide (u < p.2) else decide (p.1 ≤ u) || decide (u < p.2)

/-- Calendar Time of a UTC instant, as ns on its clock face. -/
def localOf (b : CalBody) (u : Nat) : Nat :=
  ((u : Int) + stdNs b + (if dstOn b u then dstNs b else 0)).toNat

/-- The UTC instant that a local clock face names. -/
def utcOfLocal (b : CalBody) (face : Nat) : Nat :=
  let u1 : Int := (face : Int) - stdNs b - dstNs b
  let u2 : Int := (face : Int) - stdNs b
  if dstOn b u1 then u1.toNat
  else if !dstOn b u2 then u2.toNat
  else (dstSpan b (dateOf (face / dayNs)).1).1.toNat

/-- ET of a local clock face. -/
def etOfLocal (s : State) (b : CalBody) (face : Nat) : Nat := etOfUtc s (utcOfLocal b face)

/-- Calendar Time of an ET instant. -/
def localAt (s : State) (b : CalBody) (et : Nat) : Nat := localOf b (utcOf s et)

/-! ### The governing part and the rate (R240) -/

def calOf (s : State) (c : Nat) : Calendar := s.p.bill.cals.getD c {}

def calSet (s : State) (c : Nat) (x : Calendar) : State :=
  { s with p := { s.p with bill := { s.p.bill with cals := s.p.bill.cals.set c x } } }

/-- The part that governs an instant. -/
def partAt (c : Calendar) (x : Nat) : Option CalPart :=
  let byPassive := match c.passive with
    | some p => if p.at_ ≠ 0 && p.at_ ≤ x then some p else none
    | none => none
  match byPassive with
  | some p => some p
  | none => match c.active with
    | some a => if a.at_ ≤ x then some a else match c.previous with
      | some p => some p
      | none => some a
    | none => none

/-- The season in force on a date: the latest start on or before it, the year wrapping round. -/
def seasonOn (l : List Season) (m d : Nat) : Option Season :=
  match (l.filter (fun e => decide (e.month < m) || (e.month == m && decide (e.day ≤ d)))).getLast? with
  | some e => some e
  | none => l.getLast?

/-- The day profile of a date. -/
def dayProfileOn (b : CalBody) (day : Nat) : Nat :=
  let t := dateOf day
  match b.special.find? (fun e => (e.year == 65535 || e.year == t.1) && e.month == t.2.1 && e.day == t.2.2) with
  | some e => e.profile
  | none => match seasonOn b.seasons t.2.1 t.2.2 with
    | some e => ((((b.weeks[e.week]?).getD [])[weekdayOf day - 1]?).getD 0)
    | none => 0

/-- The rate of the last switch point at or before a time of day in minutes. -/
def rateOn (l : List SwitchPoint) (minute : Nat) : Nat :=
  match (l.filter (fun p => decide (p.hour * 60 + p.minute ≤ minute))).getLast? with
  | some p => p.rate
  | none => 1

/-- The rate in force at an instant under a calendar; rate 1 where the calendar is EMPTY (R238). -/
def rateAt (s : State) (c x : Nat) : Nat :=
  match partAt (calOf s c) x with
  | none => 1
  | some p =>
    let f := localAt s p.body x
    rateOn ((p.body.days[dayProfileOn p.body (f / dayNs)]?).getD []) (f % dayNs / (60 * nsPerS))

/-- The rate in force before an instant. -/
def rateBefore (s : State) (c x : Nat) : Nat := rateAt s c (x - 1)

/-! ### Billing boundaries (R252) -/

/-- The boundary of a part in its k-th period: months since year 0, or days. -/
def boundaryIdx (s : State) (b : CalBody) (k : Nat) : Nat :=
  let t := (b.closeHour * 60 + b.closeMin) * 60 * nsPerS
  if b.closeMode = 1 then
    let y := k / 12
    let m := k % 12 + 1
    let d := if b.closeDay = 255 then monthDays y m else b.closeDay
    etOfLocal s b (daysOf y m d * dayNs + t)
  else etOfLocal s b (k * dayNs + t)

/-- The period index of an instant. -/
def boundaryKey (s : State) (b : CalBody) (x : Nat) : Nat :=
  let d := localAt s b x / dayNs
  if b.closeMode = 1 then let t := dateOf d; t.1 * 12 + (t.2.1 - 1) else d

/-- Boundaries of a part after `x` and at or before `to`, ascending, at most `n`. -/
def boundariesFrom (s : State) (b : CalBody) (x upTo k : Nat) : Nat → List Nat
  | 0 => []
  | n + 1 =>
    let t := boundaryIdx s b k
    if upTo < t then []
    else if t ≤ x then boundariesFrom s b x upTo (k + 1) n
    else t :: boundariesFrom s b x upTo (k + 1) n

def boundariesIn (s : State) (b : CalBody) (x upTo room : Nat) : List Nat :=
  if b.closeMode = 0 then [] else (boundariesFrom s b x upTo (boundaryKey s b x - 1) (room + 4)).take room

/-- The first boundary of a part after an instant. -/
def nextBoundary (s : State) (b : CalBody) (x : Nat) : Option Nat :=
  if b.closeMode = 0 then none
  else ((List.range 5).map (fun i => boundaryIdx s b (boundaryKey s b x - 1 + i))).find? (fun t => x < t)

/-- The latest boundary of a part at or before an instant. -/
def latestBoundary (s : State) (b : CalBody) (x : Nat) : Nat :=
  if b.closeMode = 0 then x
  else (((List.range 5).map (fun i => boundaryIdx s b (boundaryKey s b x - 3 + i))).filter (fun t => t ≤ x)).getLast?.getD 0

end Sys2Proof.Machine
end

