-- ==== Sys2Proof/Machine/MeterHooks.lean ====
section
/-! DEFINITION. What other units keep of a meter beside the MCT: its billing entry, its phase voltages and its suspicion entry
(R235, R294, R298, R305, R309 to R312). -/

namespace Sys2Proof.Machine
open Sys2Proof

/-! ### The topology (R291, R294) -/

def balOf (s : State) : Balance := s.p.bal

def setBal (s : State) (b : Balance) : State := { s with p := { s.p with bal := b } }

def nodeIn (t : Topo) (n : Nat) : Option TopoNode := t.nodes.find? (fun x => x.node == n)

/-- The PHASE child of a node for a phase. -/
def phaseChild (t : Topo) (n p : Nat) : Option TopoNode :=
  t.nodes.find? (fun x => x.parent == some n && x.kind == 3 && x.phase == p)

/-- The node a meter is attributed to. -/
def attrNode (t : Topo) (e : Mct) : Option Nat :=
  match nodeIn t e.topoNode with
  | none => none
  | some x => match (if e.topoPhase = 0 then none else phaseChild t e.topoNode e.topoPhase) with
    | some c => some c.node
    | none => some x.node

/-- A node and its ancestors, up to the root. -/
def pathUp (t : Topo) : Nat → Nat → List Nat
  | 0, _ => []
  | k + 1, n => match nodeIn t n with
    | none => []
    | some x => n :: (match x.parent with | some p => pathUp t k p | none => [])

def pathOf (t : Topo) (n : Nat) : List Nat := pathUp t (t.nodes.length + 1) n

/-! ### Voltages (R298) -/

/-- V²t and sample periods of a tap phase over a span that starts at an interval minute. -/
def tapVolts (s : State) (k frm upTo : Nat) : Nat × Nat :=
  (balOf s).ivals.foldl (fun (a : Nat × Nat) v =>
    let start := v.endNs - v.lenS * nsPerS
    (v.volts.getD k []).foldl (fun (a : Nat × Nat) q =>
      let at_ := start + q.1 * 60 * nsPerS
      if frm ≤ at_ && at_ < upTo then (a.1 + q.2.1, a.2 + q.2.2) else a) a) (0, 0)

def phaseRep (b : MeasBody) (p : Nat) : Option MeasPhase := if p = 1 then b.phA else if p = 2 then b.phB else b.phC

/-- The voltage in mV that a TAP or CELL source gives for a phase (1 to 3) and an interval. -/
def sourceVolt (s : State) (x : TopoNode) (p endNs lenS : Nat) : Option Nat :=
  if x.source = 1 then
    let q := tapVolts s (3 * x.srcId + (p - 1)) (endNs - lenS * nsPerS) endNs
    let lsb := prmN s .tapVLsb x.srcId
    if q.2 = 0 then none else some (openRoot .volt (q.1 * lsb * lsb) q.2 1000)
  else if x.source = 2 then
    match ((balOf s).ivals.map (fun v => v.reports)).flatten.find? (fun r =>
        r.cell == x.srcId && r.body.endNs == endNs && r.body.intervalS == lenS) with
    | some r => (phaseRep r.body p).map (fun y => y.vMean)
    | none => none
  else none

/-- The voltage of one phase of a node: of its PHASE child where that has a TAP or CELL source, else of its own three-phase source. -/
def phaseVolt (s : State) (t : Topo) (n p endNs lenS : Nat) : Option Nat :=
  let own := match nodeIn t n with
    | some x => if x.srcPhase = 0 then sourceVolt s x p endNs lenS else none
    | none => none
  match phaseChild t n p with
  | some c => if c.source = 1 || c.source = 2 then sourceVolt s c p endNs lenS else own
  | none => own

/-- The mean voltage of a meter's TOPO phase for an interval, in 0.1 V (R222). -/
def hookVolt (s : State) (m endNs lenS : Nat) : Option Nat :=
  match (balOf s).topo with
  | none => none
  | some t =>
    let e := (s.p.mct.getD m {})
    if e.topoPhase = 0 then none else (phaseVolt s t e.topoNode e.topoPhase endNs lenS).map (fun v => v / 100)

/-! ### The suspicion table (R310 to R312) -/

def suspOf (s : State) (m : Nat) : Susp := (balOf s).susp.getD m {}

def suspSet (s : State) (m : Nat) (x : Susp) : State :=
  let b := balOf s
  setBal s { b with susp := if x = {} then b.susp.erase m else b.susp.set m x }

/-- The meter's attributed node or an ancestor was flagged in the LOSS sense on a day. -/
def lossOnDay (s : State) (m day : Nat) : Bool :=
  match (balOf s).topo with
  | none => false
  | some t => match attrNode t (s.p.mct.getD m {}) with
    | none => false
    | some n => (pathOf t n).any (fun k => ((balOf s).flags.getD k {}).lossDays.contains day)

/-- Intervals of a meter's class in a day. -/
def perDay (s : State) (m : Nat) : Nat :=
  let c := (s.p.rules.getD (s.p.mct.getD m {}).cls (0, {})).2
  86400 / max 60 (([60, 300, 600, 900, 1800, 3600][c.interval]?).getD 60)

/-- Sum of the weights of the set bits. -/
def weightSum (s : State) (b : BitVec 8) : Nat :=
  (([0, 1, 2, 3, 4, 5].filter (fun i => b.getLsbD i)).map (fun i => prmN s .balWeight i)).sum

/-- Score the day DAY_NUM of an entry and open the next (R312): the entry, and the alarm. -/
def scoreDay (s : State) (m : Nat) (x : Susp) : Susp × List Emit :=
  let ref := prmN s .balDropRefDays
  let enough := decide (9 * perDay s m ≤ 10 * x.dayN)
  let dropped := enough && decide (ref ≤ x.meanDays) && decide (x.dayAp * 25600 < x.meanDay * prmN s .balDropPct)
  let run := if enough && decide (ref ≤ x.meanDays) then (if dropped then satInc 8 x.dropRun else 0) else x.dropRun
  let step := fun (n : Nat) => ((x.meanDay : Int) + openDivI .meanDay ((x.dayAp * 256 : Nat) - (x.meanDay : Int)) n).toNat
  let mean := if enough then (if ref ≤ x.meanDays then step ref else step (x.meanDays + 1)) else x.meanDay
  let days := if enough && decide (x.meanDays < ref) then x.meanDays + 1 else x.meanDays
  let bits : BitVec 8 := x.rulesDay |||
    (if x.zeroDay && lossOnDay s m x.dayNum then 8 else 0) |||
    (if dropped && decide (prmN s .balDropDays ≤ run) then 16 else 0)
  let score := min 255 (x.score * prmN s .balDecay / 256 + weightSum s bits)
  let y : Susp := {
    score := score, rulesDay := x.nextRules, rulesLast := bits, dropRun := run, dayAp := x.nextAp, meanDay := mean, dayN := x.nextN
    dayNum := x.dayNum + 1, nextAp := 0, nextN := 0, nextRules := 0, meanDays := days, zeroDay := x.zeroNext, zeroNext := false }
  let th := prmN s .balAlarmScore
  (y, if th ≤ score && x.score < th then [alarmNow s (keyMcx m) 0x810D [(score, 1), (bits.toNat, 1)]] else [])

/-- Bring an entry forward to a day; after the days its score can still change in, directly. -/
def suspForward (s : State) (m day : Nat) : Nat → Susp × List Emit → Susp × List Emit
  | 0, a => ({ a.1 with dayNum := max a.1.dayNum day }, a.2)
  | n + 1, a =>
    if day ≤ a.1.dayNum then a
    else let r := scoreDay s m a.1; suspForward s m day n (r.1, a.2 ++ r.2)

def suspNever (x : Susp) : Bool := x.dayNum = 0 && x.meanDays = 0 && x.dayN = 0

def suspTo (s : State) (m day : Nat) (x : Susp) : Susp × List Emit :=
  if suspNever x then ({ x with dayNum := day }, []) else suspForward s m day 300 (x, [])

/-- Count a record or event of a day: into the open day, the day after it, or nowhere. -/
def suspCount (s : State) (m day : Nat) (onDay onNext : Susp → Susp) : State :=
  let x := suspOf s m
  let a := if suspNever x then suspTo s m day x else if x.dayNum + 1 < day then suspTo s m (day - 1) x else (x, [])
  let y := if day = a.1.dayNum then onDay a.1 else if day = a.1.dayNum + 1 then onNext a.1 else a.1
  emitAll (suspSet s m y) a.2

def dayOf (ns : Nat) : Nat := ns / (86400 * nsPerS)

/-- A record as the suspicion table sees it (R311, R312). -/
def hookRecord (s : State) (r : IRec) : State :=
  let valid := r.quality.getLsbD 0
  let rev := r.checks.getLsbD 2
  let zero := r.checks.getLsbD 1
  if !valid && !rev && !zero then s
  else
    let ap := if valid then r.vals.ap.toNat else 0
    let b : BitVec 8 := if rev then 1 else 0
    suspCount s r.mcx (dayOf r.endNs)
      (fun x => { x with dayAp := x.dayAp + ap, dayN := x.dayN + b2n valid, rulesDay := x.rulesDay ||| b, zeroDay := x.zeroDay || zero })
      (fun x => { x with nextAp := x.nextAp + ap, nextN := x.nextN + b2n valid, nextRules := x.nextRules ||| b, zeroNext := x.zeroNext || zero })

/-- A meter event as the suspicion table sees it (R311). -/
def hookMeterEvent (s : State) (m code rx : Nat) : State :=
  let has := fun (k : ParamKey) => code ≠ 0 && [0, 1, 2, 3, 4, 5, 6, 7].any (fun i => prmN s k i == code)
  let b : BitVec 8 := (if has .balTamperEv then 2 else 0) ||| (if has .balMagneticEv then 4 else 0) ||| (if has .balNeutralEv then 32 else 0)
  if b = 0 then s
  else suspCount s m (dayOf rx) (fun x => { x with rulesDay := x.rulesDay ||| b }) (fun x => { x with nextRules := x.nextRules ||| b })

/-! ### Provisioning, release and change -/

/-- A context is provisioned at an MCX: its billing entry starts at its calendar's LAST_BOUNDARY, its suspicion entry at zero. -/
def hookProvision (s : State) (m : Nat) : State :=
  let c := (s.p.mct.getD m {}).cal
  let b : Brt := { cal := c, start := (calOf s c).last }
  let s1 := { s with p := { s.p with bill := { s.p.bill with brt := s.p.bill.brt.set m b, profile := s.p.bill.profile.erase m } } }
  suspSet s1 m {}

/-- A context is released: its suspicion entry is zeroed. -/
def hookRelease (s : State) (m : Nat) : State := suspSet s m {}

/-- METER_CLASS, CALENDAR_ID or TOPO of a meter changed: open demand windows learn of it; a change of TOPO phase clears the
proposal, a change of TOPO node the whole PHASE_CORR field. -/
def hookUpdate (s : State) (m : Nat) (old : Mct) : State :=
  let e := s.p.mct.getD m {}
  let corr : CorrField := if e.topoNode ≠ old.topoNode then {}
    else if e.topoPhase ≠ old.topoPhase then { e.corr with run := 0, cand := 0, proposed := false } else e.corr
  let s1 := if corr = e.corr then s else { s with p := { s.p with mct := s.p.mct.set m { e with corr := corr } } }
  if e.cls = old.cls && e.cal = old.cal then s1
  else { s1 with p := { s1.p with bill := { s1.p.bill with brt := s1.p.bill.brt.modify m (fun b => { b with chgAt := etNs s }) } } }

end Sys2Proof.Machine
end

