-- ==== Sys2Proof/Machine/Contexts.lean ====
section
/-! DEFINITION. The context commands and their rows: provisioning, bulk load, update, retirement, listing, and session
expiry (R127 to R156, R477). -/

namespace Sys2Proof.Machine
open Sys2Proof

/-! ### Listings (R468) -/

/-- A cursor of this Tick that resumes a listing at position `pos`. -/
def mkCursor (s : State) (pos : Nat) : Nat := (s.vault.tick + 1) % 2 ^ 32 * 2 ^ 32 + (pos + 1)

/-- The position a cursor resumes at; none for a cursor not of this Tick. -/
def cursorPos (s : State) (c : Nat) : Option Nat :=
  if c = 0 then some 0
  else if c / 2 ^ 32 = (s.vault.tick + 1) % 2 ^ 32 && 0 < c % 2 ^ 32 then some (c % 2 ^ 32 - 1)
  else none

/-! ### Invalidation (R170, R171) -/

def setMKeyInv (k : MKeys) (c : Nat) : MKeys :=
  match c with
  | 1 => { k with uc := { k.uc with invalidated := true } }
  | 2 => { k with ak := { k.ak with invalidated := true } }
  | _ => { k with bk := { k.bk with invalidated := true } }

/-- Meter sessions whose keys descend from a key. -/
def lineageSessions (s : State) (h : Word32) : List Nat :=
  (s.ctx.sess.filter (fun e => e.2.lineage.any (fun k => (lineage s k (chainFuel s)).contains h))).map (fun e => e.2.mcx)

/-- TLS sessions established under an identity key that descends from a key. -/
def lineageTls (s : State) (h : Word32) : List Nat :=
  (s.mb.tls.filter (fun e => (lineage s e.2.identity (chainFuel s)).contains h)).map Prod.fst

/-- Set INVALIDATED on a key and bring about every effect of R171. -/
def invalidateKey (s : State) (h : Word32) (master : Nat) : State :=
  match keyView s h with
  | none => s
  | some v =>
    let meters := lineageSessions s h
    let tls := lineageTls s h
    let c := hClass h
    let keys := if c ≤ 3
      then { s.p.keys with meters := s.p.keys.meters.modify (hIdx h) (fun k => setMKeyInv k c) }
      else { s.p.keys with slots := s.p.keys.slots.modify (hIdx h) (fun k => { k with attr := { k.attr with invalidated := true } }) }
    let s1 := { s with p := { s.p with keys := keys }, keys := clearLineage s.keys h }
    let s2 := meters.foldl closeSession s1
    let s3 := tls.foldl tlsClose s2
    emit1 s3 (.record 3 0x8031 [(h.toNat, 4), (v.attr.generation.toNat, 1), (master, 1)])

/-! ### Provisioning (R153, R154) -/

/-- The fields of a record are in range (step 1 of R154). -/
def recordOk (rec : ProvRec) : Bool := rec.crcOk && rec.fieldsOk

/-- The entry a record gives. -/
def entryOf (s : State) (rec : ProvRec) (m : Nat) : Mct :=
  { eui := rec.eui, state := .provisioned, cls := rec.cls.val, cal := rec.calendar.val
    hUc := mkHandle 1 m, hAk := mkHandle 2 m, hBk := mkHandle 3 m
    topoNode := rec.topoNode.toNat, topoPhase := rec.topoPhase.toNat, feeder := rec.feeder.toNat
    repeater := rec.repeater, sleepy := rec.sleepy
    upHigh := if rec.countersValid then rec.initUpHigh.toNat else 0
    bmp := if rec.countersValid then BitVec.allOnes 1024 else 0
    windowEmpty := !rec.countersValid
    downIc := if rec.countersValid then rec.initDownIc.toNat else 0
    stateTick := s.vault.tick }

/-- The MCX a record asks for, or the lowest FREE one (R153, R128). -/
def recordMcx (s : State) (rec : ProvRec) : Option Nat :=
  if rec.auto then
    let m := lowestFree s.p.mct 0
    if m < mcxLast || (m = mcxLast && !rec.repeater) then some m else none
  else if (mctOf s rec.mcxReq.val).state = .free then some rec.mcxReq.val
  else none

/-- Provision one record: the state, its status, its MCX. -/
def provision (s : State) (r : Req) (kek : Word32) (rec : ProvRec) : State × Status × Nat :=
  if !recordOk rec then (s, .badParam, 0)
  else match useKey s r kek 5 [2] 0x000E with
    | (s1, some st) => (s1, st, 0)
    | (s1, none) =>
      if (findEui s1 rec.eui).isSome || (!rec.auto && rec.mcxReq.val == mcxLast && rec.repeater) then (s1, .badParam, 0)
      else match recordMcx s1 rec with
        | none => (s1, .noResource, 0)
        | some m =>
          if rec.wrapUc.ok && rec.wrapAk.ok && rec.wrapBk.ok then
            match s1.keys.kek with
            | none => (s1, .keyMissing, 0)
            | some kk =>
              let mk := fun (w : Wrapped) => ({ mat := w.mat, kek := kk } : MKey)
              let ks : MKeys := { uc := mk rec.wrapUc, ak := mk rec.wrapAk, bk := mk rec.wrapBk }
              let s2 := { s1 with p := { s1.p with keys := { s1.p.keys with meters := s1.p.keys.meters.set m ks } } }
              (hookProvision (counterCheck (setM s2 m (entryOf s2 rec m)) m) m, .ok, m)
          else (s1, .authFail, 0)

def ciCtxProvision : CmdInfo := { code := 0x0401, plain := 0x01, roles := 0x01, states := 0x06, w := true }

def ctxProvision (r : Req) (kek : Word32) (rec : ProvRec) (s : State) : Reply :=
  match provision s r kek rec with
  | (s1, .ok, m) => ⟨s1, .ok, [(m, 4)], []⟩
  | (s1, st, _) => deny s1 st

/-- CTX_PROVISION. -/
def execCtxProvision (r : Req) (importKek : Word32) (rec : ProvRec) (s : State) : Host.Outcome State Fault Refusal :=
  finish s (gmi ciCtxProvision r (ctxProvision r importKek rec) s)

/-! ### The entry as CTX_GET returns it (R130, R139) -/

def ctxStateCode : CtxState → Nat
  | .free => 0 | .provisioned => 1 | .joined => 2 | .active => 3 | .suspended => 4 | .retired => 5

def campStateCode : CampState → Nat
  | .none => 0 | .targeted => 1 | .initiated => 2 | .transferring => 3 | .complete => 4 | .verified => 5
  | .activated => 6 | .failed => 7 | .skipped => 8 | .cancelled => 9

/-- An instant as ET64, or 0 where there is none. -/
def et64z (ns : Nat) : Nat := if ns = 0 then 0 else et64 ns

def pathWord (p : PathEnt) : Nat :=
  p.parent.getD 0xFFFFF + p.hops * 2 ^ 20 + 2 ^ 23 + p.metric % 65536 * 2 ^ 24 + p.hopEtx % 256 * 2 ^ 40 + p.sfSel % 65536 * 2 ^ 48

def pathsBody (l : List PathEnt) : Body :=
  [(match l[0]? with | some p => pathWord p | none => 0, 8), (match l[1]? with | some p => pathWord p | none => 0, 8),
   (match l[2]? with | some p => pathWord p | none => 0, 8), (match l[3]? with | some p => pathWord p | none => 0, 8)]

def valBody (v : ValField) : Body :=
  [(v.present.toNat, 8), (v.est.toNat, 8), (v.mean, 4), (v.var, 4), (encS 4 v.skewMs, 4), (v.zeroRun, 2), (v.statN, 1),
   (b2n v.skewed + 2 * b2n v.reverseRun + 4 * b2n v.abandoned, 1), (v.sumAp, 4), (v.sumAn, 2), (v.sumN, 1), (b2n v.sumEst, 1)]

def nth (l : List Nat) (i : Nat) : Nat := (l[i]?).getD 0

def corrBody (c : CorrField) : Body :=
  [(c.lastEnd, 4), (c.lastVm, 4), (nth c.lastVp 0, 4), (nth c.lastVp 1, 4), (nth c.lastVp 2, 4), (c.sxx, 4),
   (nth c.syy 0, 4), (nth c.syy 1, 4), (nth c.syy 2, 4),
   (encS 4 (nthInt c.sxy 0), 4), (encS 4 (nthInt c.sxy 1), 4), (encS 4 (nthInt c.sxy 2), 4),
   (c.w, 4), (c.run, 2), (c.cand, 1), (b2n c.proposed, 1), (0, 8)]

/-- CAMPAIGN as its eight bytes (R384). -/
def campBody (c : CampField) : Body :=
  [(c.slot + 8 * b2n c.valid + 16 * campStateCode c.state, 1), (c.rounds, 1), (c.missing, 3), (c.reason, 1), (c.lastTick, 2)]

def mctBody (e : Mct) : Body :=
  [(e.eui.toNat, 8), (ctxStateCode e.state, 1), (e.linkType + 4 * e.cport, 1), (e.linkId, 2), (e.short, 2), (e.cls, 1), (e.cal, 1),
   (e.hUc.toNat, 4), (e.hAk.toNat, 4), (e.hBk.toNat, 4), (e.genUc.toNat, 1), (e.genAk.toNat, 1), (e.genBk.toNat, 1), (e.pend.toNat, 1),
   (e.upHigh, 4), (e.downIc, 4), (e.rfFc, 4), (e.rfKey, 1), (e.rfSeq.toNat, 1),
   (b2n e.repeater + 2 * b2n e.sleepy + 4 * b2n e.windowEmpty + 8 * b2n e.downHalt + 16 * b2n e.rotateDue, 2),
   (e.bmp.toNat, 128), (e.topoNode + 4096 * e.topoPhase, 2), (e.feeder, 1), (0, 1), (e.replayCnt, 2), (e.staleCnt, 2),
   (et64z e.lastEnd, 8), (encS 8 e.lastRegs.ap, 8), (encS 8 e.lastRegs.an, 8), (encS 8 e.lastRegs.rp, 8), (encS 8 e.lastRegs.rn, 8),
   (et64z e.lastRead, 8)] ++ valBody e.val ++ corrBody e.corr ++ pathsBody e.paths ++
  [(e.rfDrift, 4), (e.rfUnc, 4), (e.rfSync, 8)] ++ campBody e.camp ++
  [(e.lastRx, 8), ((match e.session with | some n => n + 2 ^ 31 | none => 0), 4), (e.updSeq, 4), (e.stateTick, 8), (0, 96)]

def ciCtxGet : CmdInfo := { code := 0x0402, plain := 0x23, roles := 0x05, states := 0x06 }

/-- CTX_GET. -/
def execCtxGet (r : Req) (mcx : Word32) (s : State) : Host.Outcome State Fault Refusal :=
  finish s (gmi ciCtxGet r (fun s =>
    if mcx.toNat < mcxCount then ⟨s, .ok, mctBody (mctOf s mcx.toNat), []⟩ else deny s .badParam) s)

/-! ### Updates and state changes by command (R131 to R134, R139) -/


def ciCtxUpdate : CmdInfo := { code := 0x0403, plain := 0x03, roles := 0x01, states := 0x06, w := true }

def ctxUpdateForm (m : Nat) (mask : BitVec 8) (cls cal : BitVec 8) (topo : Word16) (flags : BitVec 8) : Bool :=
  m < mcxCount && !mask.getLsbD 6 && !mask.getLsbD 7 && !(mask.getLsbD 5 && decide (mask ≠ 0x20)) &&
  decide (topo.toNat < 2 ^ 14) && decide (flags.toNat < 4) &&
  !(mask.getLsbD 0 && decide (63 < cls.toNat)) && !(mask.getLsbD 1 && decide (63 < cal.toNat)) &&
  !(mask.getLsbD 4 && flags.getLsbD 0 && m == mcxLast)

def updFields (e : Mct) (mask : BitVec 8) (cls cal : BitVec 8) (topo : Word16) (feeder flags : BitVec 8) : Mct :=
  { e with
    cls := if mask.getLsbD 0 then cls.toNat else e.cls
    cal := if mask.getLsbD 1 then cal.toNat else e.cal
    topoNode := if mask.getLsbD 2 then topo.toNat % 4096 else e.topoNode
    topoPhase := if mask.getLsbD 2 then topo.toNat / 4096 else e.topoPhase
    feeder := if mask.getLsbD 3 then feeder.toNat else e.feeder
    repeater := if mask.getLsbD 4 then flags.getLsbD 0 else e.repeater
    sleepy := if mask.getLsbD 4 then flags.getLsbD 1 else e.sleepy }

def ctxUpdate (m : Nat) (seq : Word32) (mask cls cal : BitVec 8) (topo : Word16) (feeder flags : BitVec 8) (s : State) : Reply :=
  if !ctxUpdateForm m mask cls cal topo flags then deny s .badParam
  else
    let e := mctOf s m
    if e.state = .free || e.state = .retired then deny s .notPermitted
    else if e.updSeq ≠ seq.toNat then deny s .busy
    else if mask.getLsbD 5 then
      if e.state = .suspended then
        let s1 := cmdM s m (fun e => setSt s e (if e.linkType ≠ 0 then .joined else .provisioned))
        ⟨s1, .ok, [((mctOf s1 m).updSeq, 4)], []⟩
      else deny s .notPermitted
    else
      let s1 := hookUpdate (cmdM s m (fun e => updFields e mask cls cal topo feeder flags)) m e
      ⟨s1, .ok, [((mctOf s1 m).updSeq, 4)], []⟩

/-- CTX_UPDATE. -/
def execCtxUpdate (r : Req) (mcx updSeq : Word32) (mask cls cal : BitVec 8) (topo : Word16) (feeder flags : BitVec 8) (s : State) :
    Host.Outcome State Fault Refusal :=
  finish s (gmi ciCtxUpdate r (ctxUpdate mcx.toNat updSeq mask cls cal topo feeder flags) s)

def ciCtxSuspend : CmdInfo := { code := 0x0404, plain := 0x01, roles := 0x01, states := 0x06, w := true }

def ctxSuspend (m : Nat) (s : State) : Reply :=
  let e := mctOf s m
  if mcxCount ≤ m then deny s .badParam
  else if e.state = .provisioned || e.state = .joined || e.state = .active then
    ⟨cmdM (closeSession s m) m (fun e => setSt s e .suspended), .ok, [], []⟩
  else deny s .notPermitted

/-- CTX_SUSPEND. -/
def execCtxSuspend (r : Req) (mcx : Word32) (s : State) : Host.Outcome State Fault Refusal :=
  finish s (gmi ciCtxSuspend r (ctxSuspend mcx.toNat) s)

def ciCtxRetire : CmdInfo := { code := 0x0405, plain := 0x01, roles := 0x01, states := 0x06, w := true }

/-- Retirement (R134). The link key leaves the identity index because `findAddr` passes over RETIRED entries. -/
def retireMeter (s : State) (m master : Nat) : State :=
  let s1 := [1, 2, 3].foldl (fun s c => invalidateKey s (mkHandle c m) master) s
  let s2 := closeSession (releaseLink s1 m) m
  cmdM s2 m (fun e => setSt s { e with paths := [] } .retired)

/-- RELEASE zeroes the entry and its keys. -/
def releaseMeter (s : State) (m : Nat) : State :=
  let s1 := hookRelease s m
  setM { s1 with p := { s1.p with keys := { s1.p.keys with meters := s1.p.keys.meters.erase m } } } m {}

def ctxRetire (r : Req) (m : Nat) (flags : Word32) (s : State) : Reply :=
  if mcxCount ≤ m || decide (1 < flags.toNat) then deny s .badParam
  else
    let e := mctOf s m
    if e.state = .free then deny s .notPermitted
    else if e.state = .retired then
      if flags = 1 then ⟨releaseMeter s m, .ok, [], []⟩ else deny s .notPermitted
    else if flags = 1 then deny s .notPermitted
    else ⟨retireMeter s m (mbMaster s r), .ok, [], []⟩

/-- CTX_RETIRE. -/
def execCtxRetire (r : Req) (mcx flags : Word32) (s : State) : Host.Outcome State Fault Refusal :=
  finish s (gmi ciCtxRetire r (ctxRetire r mcx.toNat flags) s)

/-! ### Bulk provisioning (R152 to R155) -/

def ciCtxBulkLoad : CmdInfo := { code := 0x0406, plain := 0x01, states := 0x06, w := true, pflag := true }

def bulkHeaderOk (p : BulkPkg) : Bool :=
  p.headerOk && decide (0 < p.records.length) && decide (p.records.length ≤ 65536) && decide (p.batchId ≠ 0) &&
  decide (p.firstRecord < p.records.length)

def batchLast (s : State) (b : Word64) : Option Nat := (s.p.batches.find? (fun e => e.1 = b)).map Prod.snd

/-- Note the last record committed of a batch (R155). -/
def noteBatch (l : List (Word64 × Nat)) (b : Word64) (i : Nat) : List (Word64 × Nat) :=
  ((b, i) :: l.filter (fun e => e.1 ≠ b)).take 4

/-- Row of the table of R154 that counts a status. -/
def bulkRow : Status → Nat
  | .ok => 0 | .badParam => 1 | .noResource => 2 | .authFail => 3 | _ => 4

def ctxBulkLoad (r : Req) (pkg : Fetch BulkPkg) (s : State) : Reply :=
  match pkg with
  | .fault st => deny s st
  | .got p =>
    if !bulkHeaderOk p then deny s .badParam
    else
      let start := match batchLast s p.batchId with | some i => i + 1 | none => p.firstRecord
      let skipped := match batchLast s p.batchId with | some i => i + 1 | none => 0
      let run : BulkRun := { pkg := p, mb := r.mb, next := start, counts := [skipped, 0, 0, 0, 0], last := start - 1 }
      let res := (List.range skipped).foldl (fun (t : Tbl Status) i => t.set i .ok) ([] : Tbl Status)
      ⟨{ s with ctx := { s.ctx with bulk := s.ctx.bulk ++ [run], results := res } }, .pending, [], []⟩

/-- CTX_BULK_LOAD. -/
def execCtxBulkLoad (r : Req) (pkg : Fetch BulkPkg) (s : State) : Host.Outcome State Fault Refusal :=
  finish s (gmi ciCtxBulkLoad r (ctxBulkLoad r pkg) s)

/-- Provision up to `n` records of a run. -/
def bulkRecords (s : State) (run : BulkRun) : Nat → State × BulkRun
  | 0 => (s, run)
  | n + 1 => match run.pkg.records[run.next]? with
    | none => (s, run)
    | some rec =>
      let req : Req := { mb := run.mb, tag := 0 }
      let o := provision s req run.pkg.importKek rec
      let s1 := { o.1 with
        p := { o.1.p with batches := noteBatch o.1.p.batches run.pkg.batchId run.next }
        ctx := { o.1.ctx with results := o.1.ctx.results.set run.next o.2.1 } }
      let row := bulkRow o.2.1
      bulkRecords s1 { run with
        next := run.next + 1, last := run.next, tickCount := run.tickCount + 1
        counts := run.counts.set row (nth run.counts row + 1) } n

/-- BULK_LOAD_RECORDS: the records of this Tick, at most ctx.bulk.records_per_tick; at the last record, the final event (R154). -/
def bulkLoadRecordsEff (s : State) : State :=
  match s.ctx.bulk with
  | [] => s
  | run :: rest =>
    let o := bulkRecords s run (prmN s .ctxBulkPerTick - run.tickCount)
    if o.2.next < o.2.pkg.records.length then
      { o.1 with ctx := { o.1.ctx with bulk := o.2 :: rest } }
    else
      let s1 := { o.1 with ctx := { o.1.ctx with bulk := rest } }
      emit1 s1 (.final 0x0406 .ok (o.2.counts.map (fun n => (n, 4)) ++ [(o.2.pkg.records.length - 1, 4), (run.pkg.batchId.toNat, 8)]))

def execBulkLoadRecords (s : State) : Host.Outcome State Fault Refusal :=
  finish s (if running s then bulkLoadRecordsEff s else s)

/-! ### Listing (R477) -/

def ciCtxQuery : CmdInfo := { code := 0x0407, plain := 0x23, roles := 0x05, states := 0x06 }

def stateNamed (mask : BitVec 8) (e : Mct) : Bool := mask.getLsbD (ctxStateCode e.state)

/-- A link address as a request may name it (R4). -/
def linkNameOk (link port : Nat) : Bool := decide (linkTypeOf link ≠ 0) && (if link < 1024 then decide (port < 4) else decide (port = 0))

/-- Up to `n` MCX at or above `i` that a filter names, and where the next listing starts. `fuel` bounds the MCX looked at. -/
def scanMcx (s : State) (f : Nat → Bool) : Nat → Nat → Nat → List Nat × Option Nat
  | 0, _, _ => ([], none)
  | _ + 1, _, 0 => ([], none)
  | fuel + 1, i, n + 1 =>
    if mcxCount ≤ i then ([], none)
    else if f i then
      let r := scanMcx s f fuel (i + 1) n
      (i :: r.1, match n with | 0 => some (i + 1) | _ => r.2)
    else scanMcx s f fuel (i + 1) (n + 1)

/-- MCX that a filter may name: all of them where FREE is asked for, else those listed. -/
def scanListed (f : Nat → Bool) : List Nat → Nat → List Nat × Option Nat
  | [], _ => ([], none)
  | i :: _, 0 => ([], some i)
  | i :: t, n + 1 =>
    if f i then
      let r := scanListed f t n
      (i :: r.1, r.2)
    else scanListed f t (n + 1)

def queryFilter (s : State) (mask : BitVec 8) (link port : Nat) (m : Nat) : Bool :=
  let e := mctOf s m
  stateNamed mask e &&
  (link = 0xFFFF || (decide (e.linkType ≠ 0) && e.linkId == link && (link ≥ 1024 || e.cport == port)))

def listBody (next : Option Nat) (s : State) (l : List Nat) : Body :=
  [((match next with | some p => mkCursor s p | none => 0), 8), (l.length, 4)] ++ l.map (fun m => (m, 4))

def ctxQuery (by_ mask : BitVec 8) (link : Word16) (port : BitVec 8) (short : Word16) (eui cursor : Word64) (s : State) : Reply :=
  if 2 < by_.toNat || mask = 0 || mask.getLsbD 6 || mask.getLsbD 7 ||
     (by_ = 1 && !linkNameOk link.toNat port.toNat) || (by_ = 2 && link ≠ 0xFFFF && !linkNameOk link.toNat port.toNat) then
    deny s .badParam
  else match cursorPos s cursor.toNat with
    | none => deny s .badParam
    | some pos =>
      if by_.toNat < 2 then
        let hit := if by_ = 0 then findEui s eui else findAddr s link.toNat port.toNat short.toNat
        match hit with
        | some m => ⟨s, .ok, listBody none s (if stateNamed mask (mctOf s m) && pos ≤ m then [m] else []), []⟩
        | none => ⟨s, .ok, listBody none s [], []⟩
      else
        let f := queryFilter s mask link.toNat port.toNat
        let r := if mask.getLsbD 0 && link = 0xFFFF then scanMcx s f mcxCount pos 16000
          else scanListed f (s.p.mct.keys.filter (fun m => pos ≤ m)) 16000
        ⟨s, .ok, listBody r.2 s r.1, []⟩

/-- CTX_QUERY. -/
def execCtxQuery (r : Req) (by_ mask : BitVec 8) (link : Word16) (port : BitVec 8) (short : Word16) (eui cursor : Word64) (s : State) :
    Host.Outcome State Fault Refusal :=
  finish s (gmi ciCtxQuery r (ctxQuery by_ mask link port short eui cursor) s)

/-! ### Session expiry (R150) -/

/-- A meter's association is closed when its time has run out; `due` says of its times whether it has. -/
def expireSlot (due : State → MeterSess → Bool) (slot : Nat) (s : State) : State :=
  match s.ctx.sess.get? slot with
  | some x => if due s x then closeSession s x.mcx else s
  | none => s

/-- SESSION_IDLE_EXPIRY. -/
def execSessionIdleExpiry (slot : Fin 16384) (s : State) : Host.Outcome State Fault Refusal :=
  finish s (if running s then expireSlot (fun s x => decide (prmN s .ctxMeterIdle * nsPerS ≤ s.time.mc - x.lastTraffic)) slot.val s else s)

/-- SESSION_LIFE_EXPIRY. -/
def execSessionLifeExpiry (slot : Fin 16384) (s : State) : Host.Outcome State Fault Refusal :=
  finish s (if running s then expireSlot (fun s x => decide (prmN s .ctxMeterLife * nsPerS ≤ s.time.mc - x.opened)) slot.val s else s)

/-- TLS_IDLE_EXPIRY: a session without records for ctx.session.tls_idle_s closes. -/
def tlsIdleExpiryEff (sess : Nat) (s : State) : State :=
  match s.mb.tls.get? sess with
  | some t => if prmN s .ctxTlsIdle * nsPerS ≤ s.time.mc - t.lastRecNs then tlsClose s sess else s
  | none => s

def execTlsIdleExpiry (sess : Nat) (s : State) : Host.Outcome State Fault Refusal :=
  finish s (if running s then tlsIdleExpiryEff sess s else s)

end Sys2Proof.Machine
end

