-- ==== Sys2Proof/Machine/Plc.lean ====
section
/-! DEFINITION. The power-line channels and the ports of remote cells: zero-cross detectors, superframes, grants, tone maps,
repeater selection, frames and beacons (R44 to R78). -/

namespace Sys2Proof.Machine
open Sys2Proof

/-! ### Domains and modes -/

/-- A power domain is on (the order of the power domain list). -/
def domainOn (s : State) (d : Nat) : Bool := s.boot.domains.getLsbD d

def pdPlc : Nat := 10
def pdRf : Nat := 11
def pdMetro : Nat := 12

/-- The port's mode in force: 0 OFF, 1 COMPAT, 2 COORD. -/
def plcMode (s : State) (lp : Nat) : Int := prm s .plcMode lp

/-- The front end of a port runs: a channel needs its domain, a cell port its cell. -/
def plcUp (s : State) (lp : Nat) : Bool :=
  plcMode s lp ≠ 0 && (if lp < 4096 then (cellOf s (lp / 4)).state = .up || (cellOf s (lp / 4)).state = .silent else domainOn s pdPlc)

def coord (s : State) (lp : Nat) : Bool := plcUp s lp && plcMode s lp = 2

/-- The port's link comes into question for meter work. -/
def linkIdOfLp (lp : Nat) : Nat := (linkOfLp lp).1

/-- Set a sticky event bit of CH_STATUS, raising source 10 where INT_ENABLE has the bit (0 BEACON_FAIL, 1 ZONE_DOWNGRADE,
2 ADMIT_REFUSED, 3 RX_SAT). -/
def chEvent (s : State) (lp bit : Nat) : State :=
  let x := plcPortOf s lp
  let y := match bit with
    | 0 => { x with stBeaconFail := true }
    | 1 => { x with stZoneDowngrade := true }
    | 2 => { x with stAdmitRefused := true }
    | _ => { x with stRxSat := true }
  let s1 := plcSet s lp y
  if x.intEnable.getLsbD bit then { s1 with irq := irqRaise s1.irq 10 } else s1

/-! ### Zero-cross detectors (R50 to R53) -/

def halfMin : Nat := 7692000
def halfMax : Nat := 11111000
def zcWindow : Nat := 250000
def zcSilenceNs : Nat := 50000000

def detOf (p : PlcSt) : Nat → Detector
  | 0 => p.det0 | 1 => p.det1 | 2 => p.det2 | _ => p.det3

def detSet (p : PlcSt) (i : Nat) (d : Detector) : PlcSt :=
  match i with
  | 0 => { p with det0 := d } | 1 => { p with det1 := d } | 2 => { p with det2 := d } | _ => { p with det3 := d }

/-- The mean of the half periods kept. -/
def meanHalf (l : List Nat) : Nat := if l.isEmpty then 0 else openDiv .halfPeriod l.sum l.length

def absDiff (a b : Nat) : Nat := (a - b) + (b - a)

/-- A crossing is accepted: half period, prediction and count move on. -/
def zcAccept (d : Detector) (x : Nat) : Detector :=
  let h := x - d.lastEt
  let hs := if halfMin ≤ h && h ≤ halfMax then (h :: d.halves).take 16 else d.halves
  let hp := meanHalf hs
  { d with halves := hs, halfPeriod := hp, lastEt := x, predicted := x + hp, accepted := d.accepted + 1, rejects := 0 }

/-- The prediction the next crossing is judged by: moved on by whole half periods that passed without one. -/
def zcPrediction (d : Detector) (x : Nat) : Nat :=
  if d.halfPeriod = 0 || x + zcWindow < d.predicted then d.predicted
  else d.predicted + (x + zcWindow - d.predicted) / d.halfPeriod * d.halfPeriod

/-- A crossing reported at `x`, latency compensated (R50). -/
def zcReport (d0 : Detector) (x mc : Nat) : Detector :=
  let d := { d0 with reportMc := mc }
  match d.state with
  | .lost =>
    match d.seed with
    | none => { d with seed := some x }
    | some y =>
      let h := x - y
      if halfMin ≤ h && h ≤ halfMax then
        { d with state := .acquiring, seed := none, halves := [h], halfPeriod := h, predicted := x + h, accepted := 0, rejects := 0, lastEt := x }
      else { d with seed := some x }
  | .acquiring =>
    if absDiff x (zcPrediction d x) ≤ zcWindow then
      let d1 := zcAccept d x
      if 16 ≤ d1.accepted then { d1 with state := .locked } else d1
    else { d with accepted := 0, halves := [d.halfPeriod], lastEt := x, predicted := x + d.halfPeriod }
  | .locked =>
    if absDiff x (zcPrediction d x) ≤ zcWindow then zcAccept d x
    else if 8 ≤ d.rejects + 1 then { d with state := .lost, seed := none, rejects := 0, halves := [], accepted := 0 }
    else { d with rejects := d.rejects + 1 }

/-- ZC_CROSSING. -/
def zcCrossingEff (det : Fin 4) (et : Nat) (s : State) : State :=
  if domainOn s pdPlc then
    let d := detOf s.plc det.val
    { s with plc := detSet s.plc det.val (zcReport d (et - d.latNs.toNat) s.time.mc) }
  else s

def execZcCrossing (det : Fin 4) (et : Nat) (s : State) : Host.Outcome State Fault Refusal :=
  finish s (if running s then zcCrossingEff det et s else s)

def zcLose (d : Detector) : Detector := { d with state := .lost, seed := none, halves := [], accepted := 0, rejects := 0 }

/-- ZC_SILENCE: 50 ms without any crossing (R50). -/
def zcSilenceEff (det : Fin 4) (s : State) : State :=
  let d := detOf s.plc det.val
  if d.state ≠ .lost && zcSilenceNs ≤ s.time.mc - d.reportMc then { s with plc := detSet s.plc det.val (zcLose d) } else s

def execZcSilence (det : Fin 4) (s : State) : Host.Outcome State Fault Refusal :=
  finish s (if running s then zcSilenceEff det s else s)

/-- The start of a zone 0 of a port after the detector's last crossing: the prediction plus the phase offset (R51). -/
def zone0 (d : Detector) (phase : Nat) : Nat :=
  if d.halfPeriod = 0 then 0 else d.predicted + phase * d.halfPeriod / 180 % d.halfPeriod

/-- The detector of a port: a channel's from the engine; a cell's from its last CELL_STATUS. -/
def portZcLocked (s : State) (lp : Nat) : Bool :=
  if lp < 4096 then match (cellOf s (lp / 4)).status with
    | some st => match st.ports[prmN s .plcZcDet lp]? with | some p => p.zcLocked | none => false
    | none => false
  else (detOf s.plc (prmN s .plcZcDet lp)).state = .locked

/-! ### Members and hops -/

def hopKey (frm upTo : Nat) : Nat := 65536 * frm + upTo

def hopOf (x : PlcPort) (k : Nat) : HopLink := x.hops.getD k {}

def shortOf (s : State) (m : Nat) : Nat := (mctOf s m).short

/-- The MCX that a short address names on a port. -/
def mcxAt (s : State) (lp short : Nat) : Option Nat := let l := linkOfLp lp; findAddr s l.1 l.2 short

/-- Required SNR, in 1/256 dB, of DBPSK and of ROBO, plus the margin (R56). -/
def dbpskReq (s : State) (lp : Nat) : Int := (5 + prm s .plcTmMargin lp) * 256
def roboReq (s : State) (lp : Nat) : Int := (1 + prm s .plcTmMargin lp) * 256

/-- Weighted attempts and successes, newest first, with the weight falling by 7/8 (R75). -/
def etxSums : List Bool → Nat → Nat × Nat
  | [], _ => (0, 0)
  | b :: t, w => let r := etxSums t (w * 7 / 8); (r.1 + w, r.2 + (if b then w else 0))

/-- Hop ETX in 1/256, or none where the hop is unusable (R75). -/
def etx (s : State) (lp frm upTo : Nat) : Option Nat :=
  let x := plcPortOf s lp
  let h := hopOf x (hopKey frm upTo)
  if h.attempts.isEmpty then
    match h.nbr with
    | some (snr, _) => if dbpskReq s lp ≤ snr then some 256 else if roboReq s lp ≤ snr then some 512 else none
    | none => none
  else
    let r := etxSums h.attempts (8 ^ 32)
    if r.2 = 0 then none else some (openDiv .metric (256 * r.1) r.2)

/-- Note one granted transmission on a hop. -/
def noteAttempt (x : PlcPort) (k : Nat) (ok : Bool) : PlcPort :=
  let h := hopOf x k
  { x with hops := x.hops.set k { h with attempts := (ok :: h.attempts).take 32 } }

/-- Update SNR estimates with weight 1/8. -/
def noteSnr (h : HopLink) (l : List (Nat × Nat × Int)) : HopLink :=
  l.foldl (fun h q =>
    let k := 32 * q.1 + q.2.1
    { h with snr := h.snr.set k (match h.snr.get? k with
        | some o => o + openDivI .snr (q.2.2 - o) 8
        | none => q.2.2) }) h

/-! ### Tone-map estimation (R56, R57) -/

/-- Tone groups of a band. -/
def toneGroups (band : Int) : Nat := if band = 0 then 6 else 24

def maskOf (l : List Nat) : BitVec 24 := BitVec.ofNat 24 (l.foldl (fun a i => a + 2 ^ i) 0)

/-- The result of one zone: MOD and kept groups. The coherent modulations carry as many bits as the differential ones at
a lower requirement, so the fastest that is met is always one of them. -/
def zoneResult (margin : Int) (groups : Nat) (h : HopLink) (z : Nat) : Nat × BitVec 24 :=
  let est := (List.range groups).filterMap (fun g => (h.snr.get? (32 * z + g)).map (fun v => (g, v)))
  let kept := est.filter (fun e => decide (256 ≤ e.2))
  let met := fun (db : Int) => !kept.isEmpty && kept.all (fun e => decide ((db + margin) * 256 ≤ e.2))
  (if met 11 then 6 else if met 6 then 5 else if met 3 then 4 else 0, maskOf (kept.map Prod.fst))

/-- Required SNR in dB of the MODs. -/
def modSnr : Nat → Nat
  | 0 => 1 | 1 => 5 | 2 => 8 | 3 => 13 | 4 => 3 | 5 => 6 | 6 => 11 | _ => 0

/-- Merge the two results nearest in required SNR into the more robust of them, until three are left. -/
def mergeResults : Nat → List (Nat × BitVec 24) → List ((Nat × BitVec 24) × (Nat × BitVec 24)) → List (Nat × BitVec 24) × List ((Nat × BitVec 24) × (Nat × BitVec 24))
  | 0, l, m => (l, m)
  | n + 1, l, m =>
    if l.length ≤ 3 then (l, m)
    else
      -- `l` is ordered by required SNR, so the nearest two are neighbours
      let pairs := l.zip (l.drop 1)
      let d := fun (p : (Nat × BitVec 24) × (Nat × BitVec 24)) => modSnr p.2.1 - modSnr p.1.1
      match pairs with
      | [] => (l, m)
      | p :: t =>
        let best := t.foldl (fun b q => if d q < d b then q else b) p
        mergeResults n (l.filter (fun r => r ≠ best.2)) (m ++ [(best.2, best.1)])

def insSnr (r : Nat × BitVec 24) : List (Nat × BitVec 24) → List (Nat × BitVec 24)
  | [] => [r]
  | q :: t => if q = r then q :: t else if modSnr r.1 < modSnr q.1 then r :: q :: t else q :: insSnr r t

def follow (m : List ((Nat × BitVec 24) × (Nat × BitVec 24))) (r : Nat × BitVec 24) : Nat × BitVec 24 :=
  m.foldl (fun r e => if r = e.1 then e.2 else r) r

/-- Put two bits of a zone map. -/
def putZone (zm : BitVec 16) (z v : Nat) : BitVec 16 :=
  (zm &&& ~~~(BitVec.ofNat 16 (3 * 4 ^ z))) ||| BitVec.ofNat 16 (v * 4 ^ z)

def getZone (zm : BitVec 16) (z : Nat) : Nat := zm.toNat / 4 ^ z % 4

def zones : List Nat := [0, 1, 2, 3, 4, 5, 6, 7]

/-- Estimate a set for a hop link (R56). -/
def estimateSet (s : State) (lp : Nat) (h : HopLink) : TmSet :=
  let rs := zones.map (zoneResult (prm s .plcTmMargin lp) (toneGroups (prm s .plcBand lp)) h)
  let fastOnes := (rs.filter (fun r => r.1 ≠ 0)).foldl (fun l r => insSnr r l) []
  let m := mergeResults 8 fastOnes []
  let map := fun (i : Nat) => match m.1[i]? with
    | some r => ({ mod := r.1, gain := Config.tmGain lp r.1 % 16, tones := r.2, valid := true } : ToneMap)
    | none => {}
  let zm := (zones.zip rs).foldl (fun zm e =>
    if e.2.1 = 0 then putZone zm e.1 0
    else match m.1.findIdx? (fun r => r = follow m.2 e.2) with
      | some i => putZone zm e.1 (i + 1)
      | none => putZone zm e.1 0) 0
  { map1 := map 0, map2 := map 1, map3 := map 2, zoneMap := zm, gen := h.set.gen + 1 }

def mapAt (t : TmSet) (i : Nat) : ToneMap := match i with | 1 => t.map1 | 2 => t.map2 | 3 => t.map3 | _ => {}

def setMap (t : TmSet) (i : Nat) (m : ToneMap) : TmSet :=
  match i with
  | 1 => { t with map1 := m } | 2 => { t with map2 := m } | 3 => { t with map3 := m } | _ => t

/-- The next more robust valid map of a set below map `i`, or map 0. -/
def moreRobust (t : TmSet) (i : Nat) : Nat :=
  let here := modSnr (mapAt t i).mod
  let c := [1, 2, 3].filter (fun j => (mapAt t j).valid && modSnr (mapAt t j).mod < here)
  c.foldl (fun b j => if b = 0 || modSnr (mapAt t b).mod < modSnr (mapAt t j).mod then j else b) 0

/-- A zone's entry moves to the next more robust valid map; DOWNGRADED is set on the entry it moves to (R70). -/
def downgradeZone (t : TmSet) (z : Nat) : TmSet :=
  let i := getZone t.zoneMap z
  let j := if i = 0 then 0 else moreRobust t i
  let t1 := { t with zoneMap := putZone t.zoneMap z j }
  setMap t1 j { mapAt t1 j with downgraded := true }

/-- Count faults of a failed frame, and clear the counts of zones received well under their own map (R70): the port, and
the zones downgraded. -/
def faultZones (x : PlcPort) (k : Nat) (failed : Bool) (faulted ownMap : BitVec 8) : PlcPort × Nat :=
  let h := hopOf x k
  let r := zones.foldl (fun (a : HopLink × Nat) z =>
    if !ownMap.getLsbD z then a
    else if faulted.getLsbD z then
      if failed then
        let n := a.1.faults.getD z 0 + 1
        if 3 ≤ n then ({ a.1 with faults := a.1.faults.set z 0, set := downgradeZone a.1.set z, reest := true }, a.2 + 1)
        else ({ a.1 with faults := a.1.faults.set z n }, a.2)
      else a
    else if failed then a
    else ({ a.1 with faults := a.1.faults.set z 0 }, a.2)) (h, 0)
  ({ x with hops := x.hops.set k r.1, zoneDowngrades := x.zoneDowngrades + r.2 }, r.2)

/-- Queue a TONE_MAP_UPDATE for a hop link the engine receives (R57). -/
def sendToneMap (s : State) (lp k : Nat) : State :=
  let x := plcPortOf s lp
  let h := hopOf x k
  let t := estimateSet s lp h
  let h1 := { h with nextSet := some t, nextAcked := false, reest := false, estSf := x.sfNum }
  let d : PlcDown := { kind := .toneMap k, dst := k / 65536, seq := x.nextSeq }
  plcSet s lp { x with hops := x.hops.set k h1, down := x.down ++ [d], nextSeq := x.nextSeq + 1 }

/-- Estimation due at a superframe boundary: links into the engine that joined, were downgraded, or are due a refresh. -/
def estimateDue (s : State) (lp : Nat) : State :=
  let x := plcPortOf s lp
  let due := (x.hops.filter (fun e => e.1 % 65536 = 0 && e.2.nextSet.isNone &&
    (e.2.reest || prmN s .plcTmRefresh lp ≤ x.sfNum - e.2.estSf))).map Prod.fst
  due.foldl (fun s k => sendToneMap s lp k) s

/-- Sets acknowledged in the last superframe apply from this one. -/
def applySets (x : PlcPort) : PlcPort :=
  { x with hops := x.hops.map (fun e => match e.2.nextSet with
      | some t => if e.2.nextAcked then (e.1, { e.2 with set := t, nextSet := none, nextAcked := false }) else e
      | none => e) }

/-! ### Slots and grants (R62 to R64) -/

def slotCount (s : State) (lp : Nat) : Nat := prmN s .plcCfpSlots lp

/-- A grant is in force in a superframe. -/
def inForce (g : Grant) (sf : Nat) : Bool := g.period ≠ 0 && sf % g.period == g.offset

/-- Two schedules of powers of two meet in some superframe. -/
def meets (p1 o1 p2 o2 : Nat) : Bool := o1 % (min p1 p2) == o2 % (min p1 p2)

/-- Ports that share the slots of a port: itself, and its lock group where exclusive is set (R77). -/
def sharers (s : State) (lp : Nat) : List Nat :=
  if lp < 4096 then [lp]
  else match s.p.groups.find? (fun g => g.2.contains (lp - 4096)) with
    | some g => if prm s .plcExclusive g.1 = 1 then g.2.map plcLp else [lp]
    | none => [lp]

/-- A slot is free at a period and offset. -/
def slotFree (s : State) (lp slot period offset : Nat) : Bool :=
  (sharers s lp).all (fun q => (plcPortOf s q).grants.all (fun g => g.slot ≠ slot || !meets g.period g.offset period offset))

/-- `n` free slots at a period and offset, rising; which of the free ones is Gamokor's choice. -/
def freeSlots (s : State) (lp m period offset n : Nat) : Option (List Nat) :=
  let l := (List.range (slotCount s lp)).filter (fun k => slotFree s lp k period offset)
  let c := (l.filter (fun k => !Config.grantSkip s.freeCtr m (4096 + k))).take n
  if l.length < n then none else if c.length = n then some c else some (l.take n)

/-- The offsets of a period, in the order in which Gamokor tries them. -/
def offsetOrder (s : State) (m period : Nat) : List Nat :=
  (List.range period).filter (fun o => !Config.grantSkip s.freeCtr m o) ++ List.range period

/-- The first offset with room for `n` hops. -/
def findOffset (s : State) (lp m period n : Nat) : List Nat → Option (Nat × List Nat)
  | [] => none
  | o :: t => match freeSlots s lp m period o n with
    | some l => some (o, l)
    | none => findOffset s lp m period n t

/-- The nodes of a meter's route toward the channel: the meter, its repeaters, in order. -/
def meterRoute (s : State) (m : Nat) : Nat → List Nat
  | 0 => []
  | n + 1 => match (mctOf s m).paths with
    | p :: _ => match p.parent with
      | some r => m :: meterRoute s r n
      | none => [m]
    | [] => []

/-- The grants of each hop of a route: the sender transmits, a repeating receiver receives. -/
def hopGrants (s : State) (lp : Nat) (route slots : List Nat) (period offset : Nat) : List Grant :=
  ((route.zip slots).zip ((route.drop 1).map some ++ [none])).foldl (fun l e =>
    let m := e.1.1
    let upTo := match e.2 with | some r => shortOf s r | none => 0
    let h := hopOf (plcPortOf s lp) (hopKey (shortOf s m) upTo)
    let tx : Grant := ⟨e.1.2, true, m, upTo, period, offset, h.set.zoneMap, h.set.gen⟩
    let rx : List Grant := match e.2 with
      | some r => [⟨e.1.2, false, r, shortOf s m, period, offset, h.set.zoneMap, h.set.gen⟩]
      | none => []
    l ++ [tx] ++ rx) []

/-- Grant a member's path, unless it already holds a TX grant or no room is left (R63). -/
def grantMember (s : State) (lp m : Nat) : State :=
  let x := plcPortOf s lp
  if x.grants.any (fun g => g.tx && g.member = m) then s
  else
    let route := meterRoute s m 4
    if route.isEmpty then s
    else
      let period := prmN s .plcMaxGrantPeriod lp
      match findOffset s lp m period route.length (offsetOrder s m period) with
      | some (o, slots) =>
        plcSet s lp { x with
          grants := x.grants ++ hopGrants s lp route slots period o
          members := x.members.modify m (fun y => { y with joinWait := false }) }
      | none => s

/-- The source of a port's link is under pressure: no new grants, no RETX_SLOT (R200). -/
def linkPressure (s : State) (lp : Nat) : Bool :=
  match sourceOf s (linkIdOfLp lp) with
  | some x => underPressure s x.node
  | none => globalPressure s

/-- Grants for every attached member without one. -/
def grantAll (s : State) (lp : Nat) : State :=
  if linkPressure s lp then s
  else ((plcPortOf s lp).members.filter (fun e => e.2.attached)).foldl (fun s e => grantMember s lp e.1) s

/-- A free slot later in the current superframe for a retransmission (R69). -/
def retxSlotFor (s : State) (lp : Nat) : Option Nat :=
  let x := plcPortOf s lp
  if linkPressure s lp then none
  else match x.slot with
    | some cur => ((List.range (slotCount s lp)).filter (fun k =>
        cur < k && !x.retxUsed.contains k && x.grants.all (fun g => g.slot ≠ k || !inForce g x.sfNum))).head?
    | none => none

/-! ### Detachment and repeater selection (R73, R76) -/

/-- Void a member's grants and paths and report it (R73). -/
def detach (s : State) (lp m : Nat) : State :=
  let x := plcPortOf s lp
  let s1 := plcSet s lp { x with
    grants := x.grants.filter (fun g => g.member ≠ m)
    members := x.members.modify m (fun y => { y with attached := false, silent := 0 }) }
  let s2 := updM s1 m (fun e => { e with paths := [] })
  emit1 s2 (alarmNow s2 (keyMcx m) (stCode .linkDown) [])

/-- The superframe just ended, as R73 counts it: the members now silent in three. -/
def silenceCount (x : PlcPort) (sf : Nat) : PlcPort × List Nat :=
  let step := fun (e : Nat × Member) =>
    let holds := x.grants.any (fun g => g.tx && g.member = e.1 && inForce g sf)
    if !holds || !e.2.attached then (e.1, { e.2 with heard := false })
    else if e.2.heard then (e.1, { e.2 with silent := 0, heard := false })
    else (e.1, { e.2 with silent := e.2.silent + 1 })
  let ms := x.members.map step
  ({ x with members := ms }, (ms.filter (fun e => 3 ≤ e.2.silent)).map Prod.fst)

/-- Members whose primary path names `r` first. -/
def children (s : State) (lp r : Nat) : Nat :=
  ((plcPortOf s lp).members.filter (fun e => match (mctOf s e.1).paths with
    | p :: _ => p.parent == some r
    | [] => false)).length

def isAttached (s : State) (lp m : Nat) : Bool :=
  match (plcPortOf s lp).members.get? m with | some y => y.attached | none => false

/-- A path as R76 orders it: metric, then hops, then parent MCX. -/
def pathBefore (a b : PathEnt) : Bool :=
  decide (a.metric < b.metric) ||
  (a.metric == b.metric && (decide (a.hops < b.hops) || (a.hops == b.hops && decide (a.parent.getD 0xFFFFF ≤ b.parent.getD 0xFFFFF))))

def insPath (p : PathEnt) : List PathEnt → List PathEnt
  | [] => [p]
  | q :: t => if pathBefore p q then p :: q :: t else q :: insPath p t

/-- Candidate paths of a member (R76), best first, at most four. -/
def candPaths (s : State) (lp m : Nat) : List PathEnt :=
  let x := plcPortOf s lp
  let sm := shortOf s m
  let q4 := fun (e : Nat) => min 255 (openDiv .metric e 16)
  let direct : List PathEnt := match etx s lp sm 0 with
    | some e => [⟨none, 1, e, q4 e, x.sfNum % 65536⟩]
    | none => []
  let via := (x.members.filter (fun y => y.1 ≠ m && y.2.attached)).filterMap (fun y =>
    let r := y.1
    let er := mctOf s r
    let h := hopOf x (hopKey sm (shortOf s r))
    let fresh := match h.nbr with
      | some (_, sf) => decide (x.sfNum - sf ≤ prmN s .plcNbrAge lp)
      | none => false
    match er.paths with
    | p :: _ =>
      if fresh && er.repeater && decide (r ≠ mcxLast) && decide (p.hops ≤ 3) && decide (children s lp r < prmN s .plcMaxChildren lp) &&
         !(meterRoute s r 4).contains m then
        match etx s lp sm (shortOf s r) with
        | some e => some ⟨some r, p.hops + 1, p.metric + e, q4 e, x.sfNum % 65536⟩
        | none => none
      else none
    | [] => none)
  ((direct ++ via).foldl (fun l p => insPath p l) []).take 4

/-- A member is a candidate for re-evaluation (R76). -/
def isCand (s : State) (lp m : Nat) : Bool :=
  match (mctOf s m).paths with
  | [] => true
  | p :: _ =>
    (match p.parent with | some r => !isAttached s lp r | none => false) ||
    (match (plcPortOf s lp).members.get? m with
     | some y => decide (y.selMetric * (100 + prmN s .plcWorsen lp) < p.metric * 100)
     | none => false)

/-- The current metric of a member's primary path. -/
def refreshMetric (s : State) (lp m : Nat) : State :=
  match (mctOf s m).paths with
  | p :: t =>
    let upTo := match p.parent with | some r => shortOf s r | none => 0
    let base := match p.parent with
      | some r => (match (mctOf s r).paths with | q :: _ => q.metric | [] => 0)
      | none => 0
    match etx s lp (shortOf s m) upTo with
    | some e => if base + e = p.metric then s else updM s m (fun x => { x with paths := { p with metric := base + e, hopEtx := min 255 (openDiv .metric e 16) } :: t })
    | none => updM s m (fun x => { x with paths := t })
  | [] => s

/-- Choose a member's paths (R76). -/
def selectPath (s : State) (lp m : Nat) : State :=
  let cand := candPaths s lp m
  let old := (mctOf s m).paths
  match cand with
  | [] => if old.isEmpty then s else s
  | best :: rest =>
    let switch := match old with
      | [] => true
      | p :: _ => decide (best.metric * (100 + prmN s .plcSwitchMargin lp) < p.metric * 100)
    if switch then
      let x := plcPortOf s lp
      let s1 := updM s m (fun e => { e with paths := best :: rest })
      plcSet s1 lp { x with
        members := x.members.modify m (fun y => { y with selMetric := best.metric })
        grants := x.grants.filter (fun g => g.member ≠ m) }
    else match old with
      | p :: _ => updM s m (fun e => { e with paths := p :: (cand.filter (fun q => q.parent ≠ p.parent)).take 3 })
      | [] => s

def insHops (s : State) (m : Nat) : List Nat → List Nat
  | [] => [m]
  | k :: t =>
    let h := fun (i : Nat) => match (mctOf s i).paths with | p :: _ => p.hops | [] => 0
    if h m < h k then m :: k :: t else k :: insHops s m t

/-- Repeater selection at a superframe boundary (R76). -/
def selectRoutes (s : State) (lp : Nat) : State :=
  let ms := (plcPortOf s lp).members.keys
  let s1 := ms.foldl (fun s m => refreshMetric s lp m) s
  let cand := (ms.filter (isCand s1 lp)).foldl (fun l m => insHops s1 m l) []
  cand.foldl (fun s m => selectPath s lp m) s1

/-! ### Superframes (R58 to R61) -/

/-- Parameters of the layout of a superframe. -/
def layoutKeys : List ParamKey := [.plcSfTicks, .plcBeaconTicks, .plcSlotTicks, .plcCfpSlots, .plcBand]

/-- A change of layout or band waits for this boundary: it voids every grant and sets GRANT_RESET (R44, R61). -/
def layoutChange (s : State) (lp : Nat) : Bool :=
  s.pendParams.any (fun q => q.id.idx == lp && layoutKeys.contains q.id.key && decide (prm s q.id.key lp ≠ q.val.val))

def groupOf (s : State) (ch : Nat) : Option (Nat × List Nat) := s.p.groups.find? (fun g => g.2.contains ch)

/-- The port sends ROBO beacons: it, or a channel of its group, is impaired (R71, R77). -/
def roboBeacon (s : State) (lp : Nat) : Bool :=
  (plcPortOf s lp).impaired ||
  (if lp < 4096 then false
   else match groupOf s (lp - 4096) with
     | some g => g.2.any (fun c => (plcPortOf s (plcLp c)).impaired)
     | none => false)

/-- Build the beacon of the superframe that starts at the next boundary (R59), whose ET is `et`. -/
def buildBeacon (s : State) (lp et : Nat) : State :=
  let x := plcPortOf s lp
  let reset := x.grantReset || layoutChange s lp
  let launch := et + prmN s .plcBeaconOffset lp * 1000
  plcSet s lp { x with beacon := some (launch, roboBeacon s lp, reset, portZcLocked s lp), sfNextEt := launch, grantReset := false }

/-- SUPERFRAME_BOUNDARY. -/
def superframeEff (lp : Fin 4112) (s0 : State) : State :=
  let lp := lp.val
  let change := layoutChange s0 lp
  let s1 := applyPend s0 (fun b => b == .superframe lp)
  let x0 := plcPortOf s1 lp
  let s2 := if change then plcSet s1 lp { x0 with grants := [], slot := none } else s1
  if !coord s2 lp then
    plcSet s2 lp { plcPortOf s2 lp with grants := [], beacon := none, slot := none }
  else
    let c := silenceCount (plcPortOf s2 lp) x0.sfNum
    let sf := pairTickOf s2 / prmN s2 .plcSfTicks lp
    let s3 := plcSet s2 lp (applySets { c.1 with sfNum := sf, slot := none, retxUsed := [] })
    let s4 := c.2.foldl (fun s m => detach s lp m) s3
    grantAll (selectRoutes (estimateDue s4 lp) lp) lp

def execSuperframeBoundary (lp : Fin 4112) (s : State) : Host.Outcome State Fault Refusal :=
  finish s (if running s && coord s lp.val && pairTickOf s % prmN s .plcSfTicks lp.val == 0 then superframeEff lp s else s)

/-- The short address of a broadcast: it is not acknowledged. -/
def bcastAddr : Nat := 0xFFFF

/-- SLOT_START: the engine sends the oldest frame that waits, in a slot free of members' transmissions, or the
retransmission that names the slot (R64, R69). -/
def slotStartEff (ch : Fin 16) (slot : Nat) (s : State) : State :=
  let lp := plcLp ch.val
  let x := { plcPortOf s lp with slot := some slot }
  let taken := x.grants.any (fun g => g.slot = slot && g.tx && inForce g x.sfNum)
  let may := fun (d : PlcDown) => !d.sent && (match d.retxSlot with | some k => k == slot | none => !taken)
  let down := match x.down.findIdx? may with
    | some i => if egressOk s then x.down.set i { x.down.getD i ⟨.data 0, 0, 0, true, 0, 0, none, 0⟩ with sent := true, retxSlot := none } else x.down
    | none => x.down
  plcSet s lp { x with down := down.filter (fun d => !(d.sent && d.dst = bcastAddr)) }

def execSlotStart (ch : Fin 16) (slot : Nat) (s : State) : Host.Outcome State Fault Refusal :=
  finish s (if running s && coord s (plcLp ch.val) && decide (slot < slotCount s (plcLp ch.val)) then slotStartEff ch slot s else s)

/-! ### Beacon verification (R71) -/

/-- One beacon's verification at a port. -/
def beaconVerified (s : State) (lp : Nat) (robo ok strong : Bool) : State :=
  let x := plcPortOf s lp
  if ok then
    let run := if robo && strong then x.roboRun + 1 else 0
    let leave := x.impaired && 64 ≤ run
    plcSet s lp { x with verified := wrapAdd 32 x.verified 1, failRun := 0, roboRun := if leave then 0 else run, impaired := x.impaired && !leave }
  else
    let n := x.failRun + 1
    let enter := !x.impaired && 3 ≤ n
    let s1 := chEvent (plcSet s lp { x with failed := wrapAdd 32 x.failed 1, failRun := n, roboRun := 0, impaired := x.impaired || enter }) lp 0
    if enter then
      let l := linkOfLp lp
      emit1 s1 (.event .beaconImpaired 0 mb01 [(l.1, 2), (l.2, 1), (0, 1)])
    else s1

/-- BEACON_VERIFY: the loopback of the beacon last launched. -/
def beaconVerifyEff (ch : Fin 16) (ok : Bool) (snr : Int) (s : State) : State :=
  let lp := plcLp ch.val
  let x := plcPortOf s lp
  match x.beaconOut with
  | some robo => beaconVerified (plcSet s lp { x with beaconOut := none }) lp robo ok (decide (dbpskReq s lp ≤ snr))
  | none => s

/-! ### Frames (R66 to R70) -/

/-- The receive path latency of a channel in ns. -/
def rxLatOf (s : State) (ch : Nat) : Nat := match (plcPortOf s (plcLp ch)).rxLat with
  | some v => v.toNat
  | none => (Config.plcLat 0 ch).toNat

/-- The item of a frame that arrived on a link. -/
def frameItem (s : State) (link cport rx : Nat) (f : AppFrame) (timeInvalid : Bool) : Item :=
  mkItem link (.frame { f := f, link := link, cport := cport, rx := rx, unsynced := s.time.unsynced, timeInvalid := timeInvalid })

/-- Admit a frame at its link's source. -/
def letIn (s : State) (link cport rx : Nat) (f : AppFrame) (timeInvalid : Bool) : State :=
  match sourceOf s link with
  | some x => admitAt s x (frameItem s link cport rx f timeInvalid)
  | none => s

/-- The member heard in a grant of its own. -/
def hearMember (s : State) (lp : Nat) (short : Nat) : State :=
  match mcxAt s lp short with
  | some m =>
    let x := plcPortOf s lp
    plcSet s lp { x with members := x.members.modify m (fun y => { y with heard := true, silent := 0 }) }
  | none => s

/-- PLC_FRAME_RX. -/
def plcFrameRxEff (ch : Fin 16) (f : PlcRx) (s0 : State) : State :=
  let lp := plcLp ch.val
  let link := 1024 + ch.val
  let k := hopKey f.src.toNat 0
  let s := if f.saturated then chEvent s0 lp 3 else s0
  let x := plcPortOf s lp
  let x1 := { x with rxFrames := wrapAdd 64 x.rxFrames 1, hops := x.hops.set k (noteSnr (hopOf x k) f.snr) }
  let x2 := if f.inGrant then noteAttempt x1 k f.decodeOk else x1
  let z := faultZones x2 k (!f.decodeOk) f.faulted f.ownMap
  let s1 := plcSet s lp z.1
  let s2 := if 0 < z.2 then chEvent s1 lp 1 else s1
  let s3 := hearMember s2 lp f.src.toNat
  let y := plcPortOf s3 lp
  if f.decodeOk then
    if linkCredit s3 link f.frame.bytes then
      letIn (plcSet s3 lp { y with acksSent := y.acksSent + 1 }) link 0 (f.stamp - rxLatOf s ch.val) f.frame false
    else
      chEvent (plcSet s3 lp { y with nackSent := wrapAdd 64 y.nackSent 1, admitRefused := wrapAdd 64 y.admitRefused 1 }) lp 2
  else
    let y1 := { y with rxDecodeFail := wrapAdd 64 y.rxDecodeFail 1, nackSent := wrapAdd 64 y.nackSent 1 }
    match retxSlotFor s3 lp with
    | some n => plcSet s3 lp { y1 with retxUsed := n :: y1.retxUsed }
    | none => plcSet s3 lp y1

def execPlcFrameRx (ch : Fin 16) (f : PlcRx) (s : State) : Host.Outcome State Fault Refusal :=
  finish s (if running s && coord s (plcLp ch.val) then plcFrameRxEff ch f s else s)

/-- PLC_COMPAT_FRAME_RX: in compatibility mode, or at any time in coordinated mode (R47, R49, R66). -/
def plcCompatRxEff (ch : Fin 16) (f : PlcRx) (s0 : State) : State :=
  let lp := plcLp ch.val
  let link := 1024 + ch.val
  let s := if f.saturated then chEvent s0 lp 3 else s0
  let x := plcPortOf s lp
  let x1 := { x with rxFrames := wrapAdd 64 x.rxFrames 1 }
  if f.decodeOk then
    if linkCredit s link f.frame.bytes then
      letIn (plcSet s lp { x1 with acksSent := x1.acksSent + 1 }) link 0 (f.stamp - rxLatOf s ch.val) f.frame false
    else chEvent (plcSet s lp { x1 with admitRefused := wrapAdd 64 x1.admitRefused 1 }) lp 2
  else plcSet s lp { x1 with rxDecodeFail := wrapAdd 64 x1.rxDecodeFail 1 }

def execPlcCompatFrameRx (ch : Fin 16) (f : PlcRx) (s : State) : Host.Outcome State Fault Refusal :=
  finish s (if running s && plcUp s (plcLp ch.val) then plcCompatRxEff ch f s else s)

/-- A downlink frame is done. -/
def dropDown (x : PlcPort) (seq : BitVec 8) : PlcPort := { x with down := x.down.filter (fun d => !(d.sent && d.seq = seq)) }

def sentDown (x : PlcPort) (seq : BitVec 8) : Option PlcDown := x.down.find? (fun d => d.sent && d.seq = seq)

/-- PLC_ACK_RX: the frame answered is done; a TONE_MAP_UPDATE acknowledged applies from the next superframe (R57). -/
def plcAckRxEff (ch : Fin 16) (seq : BitVec 8) (s : State) : State :=
  let lp := plcLp ch.val
  let x := plcPortOf s lp
  match sentDown x seq with
  | none => s
  | some d =>
    let x1 := noteAttempt (dropDown x seq) (hopKey 0 d.dst) true
    match d.kind with
    | .toneMap k => plcSet s lp { x1 with hops := x1.hops.modify k (fun h => { h with nextAcked := true }) }
    | .data _ => plcSet s lp x1

def execPlcAckRx (ch : Fin 16) (seq : BitVec 8) (s : State) : Host.Outcome State Fault Refusal :=
  finish s (if running s && coord s (plcLp ch.val) then plcAckRxEff ch seq s else s)

/-- A frame not acknowledged is sent again, at most max_retx times (R69). -/
def retransmit (s : State) (lp : Nat) (seq zone : BitVec 8) (slot : Option Nat) (count : Bool) : State :=
  let x := plcPortOf s lp
  match sentDown x seq with
  | none => s
  | some d =>
    let n := d.retx + b2n count
    let x0 := if count then noteAttempt x (hopKey 0 d.dst) false else x
    if prmN s .plcMaxRetx lp < n then
      let s1 := plcSet s lp (dropDown x0 seq)
      match d.kind with
      | .data m => completeDown s1 m .timeout
      | .toneMap k => plcSet s1 lp { plcPortOf s1 lp with hops := (plcPortOf s1 lp).hops.modify k (fun h => { h with nextSet := none, reest := true }) }
    else
      plcSet s lp { x0 with down := x0.down.map (fun q => if q.sent && q.seq = seq then { q with sent := false, retx := n, override := zone, retxSlot := slot } else q) }

/-- PLC_NACK_RX: REASON 1 DECODE_FAIL with its zones and slot, 2 BUSY, which does not count (R66, R69). RETX_SLOT 0xFF is
the sender's next grant. -/
def plcNackRxEff (ch : Fin 16) (seq reason zoneFault retxSlot : BitVec 8) (s : State) : State :=
  let slot := if retxSlot = 0xFF then none else some retxSlot.toNat
  if reason = 1 then retransmit s (plcLp ch.val) seq zoneFault slot true
  else if reason = 2 then retransmit s (plcLp ch.val) seq 0 slot false
  else s

def execPlcNackRx (ch : Fin 16) (seq reason zoneFault retxSlot : BitVec 8) (s : State) : Host.Outcome State Fault Refusal :=
  finish s (if running s && coord s (plcLp ch.val) then plcNackRxEff ch seq reason zoneFault retxSlot s else s)

/-- PLC_ACK_TIMEOUT: the slot ended without an ACK or NACK (R68). -/
def execPlcAckTimeout (ch : Fin 16) (seq : BitVec 8) (s : State) : Host.Outcome State Fault Refusal :=
  finish s (if running s && coord s (plcLp ch.val) then retransmit s (plcLp ch.val) seq 0 none true else s)

/-! ### Control frames of members (R48, R57, R65, R72, R75) -/

/-- The meter a control frame of a member names, after its MIC and source are judged. -/
def memberOf (s : State) (lp : Nat) (src : Word16) (micOk : Bool) : State × Option Nat :=
  let link := linkIdOfLp lp
  if !micOk then (countAuthFail s link, none)
  else match mcxAt s lp src.toNat with
    | some m => (s, some m)
    | none => (unknownSender s link (.short src), none)

/-- JOIN_REQ_RX: the join completes or is refused, and GRANT frames answer it (R72, R537). -/
def joinReqRxEff (lp : Fin 4112) (src : Sender) (micOk : Bool) (snr : Int) (s : State) : State :=
  let l := linkOfLp lp.val
  if !micOk then countAuthFail s l.1
  else match findSender s l.1 l.2 src with
    | none => unknownSender s l.1 src
    | some m => match linkJoin s m l.1 l.2 with
      | none => unknownSender s l.1 src
      | some s1 =>
        let x := plcPortOf s1 lp.val
        let old := x.members.getD m { mcx := m }
        let k := hopKey (shortOf s1 m) 0
        let h := hopOf x k
        let s2 := plcSet s1 lp.val { x with
          members := x.members.set m { old with attached := true, silent := 0, joinWait := true }
          hops := x.hops.set k { h with nbr := some (snr, x.sfNum), reest := true } }
        if linkPressure s2 lp.val then s2 else grantMember s2 lp.val m

def execJoinReqRx (lp : Fin 4112) (src : Sender) (micOk : Bool) (snr : Int) (s : State) : Host.Outcome State Fault Refusal :=
  finish s (if running s && coord s lp.val then joinReqRxEff lp src micOk snr s else s)

/-- NEIGHBOUR_REPORT_RX: up to 16 neighbours with their mean SNR. -/
def neighbourReportRxEff (lp : Fin 4112) (src : Word16) (micOk : Bool) (l : List (Word16 × Int)) (s : State) : State :=
  match memberOf s lp.val src micOk with
  | (s1, none) => s1
  | (s1, some _) =>
    let s2 := hearMember s1 lp.val src.toNat
    let x := plcPortOf s2 lp.val
    plcSet s2 lp.val { x with hops := (l.take 16).foldl (fun t e =>
      let k := hopKey src.toNat e.1.toNat
      t.set k { t.getD k {} with nbr := some (e.2, x.sfNum) }) x.hops }

def execNeighbourReportRx (lp : Fin 4112) (src : Word16) (micOk : Bool) (l : List (Word16 × Int)) (s : State) :
    Host.Outcome State Fault Refusal :=
  finish s (if running s && coord s lp.val then neighbourReportRxEff lp src micOk l s else s)

/-- The set a TONE_MAP_UPDATE carries. -/
def tmSetOf (a : TmArg) : TmSet :=
  let m := fun (i : Nat) => match a.maps[i]? with
    | some e => ({ mod := e.1, gain := e.2.1, tones := e.2.2, valid := true } : ToneMap)
    | none => {}
  { map1 := m 0, map2 := m 1, map3 := m 2, zoneMap := a.zoneMap, gen := a.gen }

/-- TONE_MAP_UPDATE_RX: a member's set for the link from `frm` (0 the engine) to it, acknowledged and applied from the
next superframe (R57). -/
def toneMapUpdateRxEff (lp : Fin 4112) (src frm : Word16) (micOk : Bool) (a : TmArg) (s : State) : State :=
  match memberOf s lp.val src micOk with
  | (s1, none) => s1
  | (s1, some _) =>
    let s2 := hearMember s1 lp.val src.toNat
    let x := plcPortOf s2 lp.val
    let k := hopKey frm.toNat src.toNat
    plcSet s2 lp.val { x with hops := x.hops.set k { hopOf x k with nextSet := some (tmSetOf a), nextAcked := true, estSf := x.sfNum, reest := false } }

def execToneMapUpdateRx (lp : Fin 4112) (src frm : Word16) (micOk : Bool) (a : TmArg) (s : State) : Host.Outcome State Fault Refusal :=
  finish s (if running s && coord s lp.val then toneMapUpdateRxEff lp src frm micOk a s else s)

/-- KEEPALIVE_RX: the member has transmitted in its grant (R65, R73). -/
def keepaliveRxEff (lp : Fin 4112) (src : Word16) (micOk : Bool) (s : State) : State :=
  match memberOf s lp.val src micOk with
  | (s1, none) => s1
  | (s1, some _) =>
    let s2 := hearMember s1 lp.val src.toNat
    plcSet s2 lp.val (noteAttempt (plcPortOf s2 lp.val) (hopKey src.toNat 0) true)

def execKeepaliveRx (lp : Fin 4112) (src : Word16) (micOk : Bool) (s : State) : Host.Outcome State Fault Refusal :=
  finish s (if running s && coord s lp.val then keepaliveRxEff lp src micOk s else s)

/-! ### Compatibility mode (R47) -/

/-- One answer of the coordinator: a beacon, an RREP, a tone-map response, a bootstrap message. -/
def compatAnswer (s : State) (lp : Nat) : State :=
  if egressOk s then plcSet s lp { plcPortOf s lp with compatAnswers := (plcPortOf s lp).compatAnswers + 1 } else s

/-- BEACON_REQUEST_RX: answered. -/
def execBeaconRequestRx (ch : Fin 16) (s : State) : Host.Outcome State Fault Refusal :=
  finish s (if running s && plcUp s (plcLp ch.val) then compatAnswer s (plcLp ch.val) else s)

/-- RREQ_RX: answered as destination; never forwarded. -/
def execRreqRx (ch : Fin 16) (forEngine : Bool) (s : State) : Host.Outcome State Fault Refusal :=
  finish s (if running s && plcUp s (plcLp ch.val) && forEngine then compatAnswer s (plcLp ch.val) else s)

/-- TONE_MAP_REQUEST_RX: answered as responder. -/
def execToneMapRequestRx (ch : Fin 16) (s : State) : Host.Outcome State Fault Refusal :=
  finish s (if running s && plcUp s (plcLp ch.val) then compatAnswer s (plcLp ch.val) else s)

/-- LBP_BOOTSTRAP_RX: a bootstrap message is answered; the message that completes the bootstrap joins the meter (R537). -/
def lbpBootstrapRxEff (ch : Fin 16) (eui : Word64) (completes : Bool) (s : State) : State :=
  let link := 1024 + ch.val
  let lp := plcLp ch.val
  if !completes then compatAnswer s lp
  else match findEui s eui with
    | none => unknownSender s link (.eui eui)
    | some m => match linkJoin s m link 0 with
      | none => unknownSender s link (.eui eui)
      | some s1 =>
        let x := plcPortOf s1 lp
        compatAnswer (plcSet s1 lp { x with members := x.members.set m { x.members.getD m { mcx := m } with attached := true } }) lp

def execLbpBootstrapRx (ch : Fin 16) (eui : Word64) (completes : Bool) (s : State) : Host.Outcome State Fault Refusal :=
  finish s (if running s && plcUp s (plcLp ch.val) then lbpBootstrapRxEff ch eui completes s else s)

end Sys2Proof.Machine
end

