-- ==== Sys2Proof/Machine/Queues.lean ====
section
/-! DEFINITION. Host queues and the DMA engine (R416 to R435). -/

namespace Sys2Proof.Machine
open Sys2Proof

/-! ### Queues, cells and the pool (R416, R417) -/

def qOf (s : State) (q : Nat) : Queue := s.q.qs.getD q {}

/-- The queue is an edge of the graph in force: OWNER is ENGINE. -/
def qEngine (s : State) (q : Nat) : Bool := (edgeRec s q).isSome || (edgeRec s (q + 2048)).isSome

def qWords (x : Queue) : Nat := (x.items.map List.length).sum - x.popped + ((x.open_.map (fun e => e.2.length + 1)).sum)

/-- Cells in use: 32 words each, from the cell of the next word to pop to the cell of the last word written. -/
def qCells (x : Queue) : Nat := (x.off + qWords x + 31) / 32

def poolCells : Nat := 65536

/-- Cells reserved to the edges in force. -/
def poolReserved (s : State) : Nat := ((gEdges s).map GEdge.capCells).sum

/-- Cells that queues other than edges hold. -/
def poolOther (s : State) : Nat := (s.q.qs.map (fun e => qCells e.2)).sum

/-- Cells left for queues other than edges. -/
def poolRoom (s : State) : Nat := poolCells - poolReserved s - poolOther s

/-- The group of a queue raises its source: in a group routed to PF1 only NORMAL queues do (R441). -/
def qRaise (s : State) (q : Nat) (o : QOwner) : State :=
  let g := q / 32
  let r := routeOf s.irq (64 + g)
  if r.enable && (r.func = 0 || o = .normal) then
    let i := { s.irq with qpend := s.irq.qpend.set g (s.irq.qpend.getD g 0 ||| BitVec.ofNat 32 (2 ^ (q % 32))) }
    { s with irq := irqRaise i (64 + g) }
  else s

/-- Put a queue back: its peak, and the interrupts of what has come up. -/
def qPut (s : State) (q : Nat) (x : Queue) : State :=
  let old := qOf s q
  let y := { x with peak := max x.peak (qCells x) }
  let s1 := { s with q := { s.q with qs := s.q.qs.set q y } }
  let hit := (y.intNonempty && old.items.isEmpty && !y.items.isEmpty) ||
    (y.intLevel && decide (qCells old < y.level) && decide (y.level ≤ qCells y))
  if hit then qRaise s1 q y.owner else s1

/-! ### Writers (R420, R422) -/

def wrStatus (x : Queue) (w : Nat) : Status := x.wr.getD w .ok

/-- A failed write: WR_STATUS keeps a value other than OK until an OPEN is accepted. -/
def wrFail (x : Queue) (w : Nat) (st : Status) : Queue :=
  { x with wrErr := true, wr := x.wr.set w (if wrStatus x w = .ok then st else wrStatus x w) }

/-- The queue takes writes (R420, R423). -/
def qTakes (x : Queue) : Bool := x.enable && decide (x.owner ≠ .free) && decide (2 ≤ x.cap)

/-- A write of one more word finds no cell. -/
def noCell (s : State) (x : Queue) : Bool := (x.off + qWords x) % 32 = 0 && (x.cap ≤ qCells x || poolRoom s = 0)

def dropOpen (x : Queue) (w : Nat) : Queue := { x with open_ := x.open_.erase w }

def poolFail (s : State) : State := { s with q := { s.q with poolFails := s.q.poolFails + 1 } }

/-- OPEN. -/
def qOpen (s : State) (q w : Nat) : State :=
  let x := qOf s q
  if !qTakes x then qPut s q (wrFail x w .notPermitted)
  else
    let had := (x.open_.get? w).isSome
    let y := dropOpen x w
    if 64 ≤ y.open_.length then qPut s q (wrFail y w .noResource)
    else if noCell s y then poolFail (qPut s q (wrFail y w .noResource))
    else
      let z : Queue := { y with open_ := y.open_.set w [], wr := y.wr.set w (if had then .badParam else .ok), wrErr := y.wrErr || had }
      qPut s q z

/-- PUSH. -/
def qPush (s : State) (q w v : Nat) : State :=
  let x := qOf s q
  if !qTakes x then qPut s q (wrFail x w .notPermitted)
  else match x.open_.get? w with
    | none => qPut s q (wrFail x w .badParam)
    | some l =>
      if noCell s x then poolFail (qPut s q (wrFail (dropOpen x w) w .noResource))
      else qPut s q { x with open_ := x.open_.set w (l ++ [v]) }

def hdrLength (h : Nat) : Nat := h % 65536

def hdrFlag (h i : Nat) : Bool := natBit h (56 + i)

/-- CLOSE. -/
def qClose (s : State) (q w h : Nat) : State :=
  let x := qOf s q
  if !qTakes x then qPut s q (wrFail x w .notPermitted)
  else match x.open_.get? w with
    | none => qPut s q (wrFail x w .badParam)
    | some l =>
      if l.length ≠ 1 + (hdrLength h + 7) / 8 || 16368 < hdrLength h then qPut s q (wrFail (dropOpen x w) w .badParam)
      else qPut s q { dropOpen x w with items := x.items ++ [h :: l] }

/-- Write a whole item, or none of it. -/
def qItem (s : State) (q : Nat) (words : List Nat) : Option State :=
  let x := qOf s q
  let y := { x with items := x.items ++ [words] }
  if qTakes x && !qEngine s q && qCells y ≤ x.cap && qCells y ≤ qCells x + poolRoom s then some (qPut s q y) else none

/-! ### Consumers (R421) -/

/-- Take `n` words off the front cell offset. -/
def advanceOff (x : Queue) (n : Nat) : Queue := { x with off := (x.off + n) % 32 }

/-- POP one word. -/
def qPop (s : State) (q : Nat) : State :=
  let x := qOf s q
  match x.items with
  | [] => qPut s q { x with underrun := true }
  | i :: t =>
    let w := (i[x.popped]?).getD 0
    let y := advanceOff { x with last := w } 1
    qPut s q (if x.popped + 1 < i.length then { y with popped := x.popped + 1 } else { y with items := t, popped := 0 })

/-- Pop what is left of the oldest item. -/
def qPopItem (x : Queue) : Option (List Nat × Queue) :=
  match x.items with
  | [] => none
  | i :: t => some (i.drop x.popped, advanceOff { x with items := t, popped := 0, last := i.getLast?.getD x.last } (i.length - x.popped))

/-! ### Flush, enable, disable (R422, R423) -/

/-- Empty a queue at once; writers with an open item read FLUSHED. -/
def qFlushed (x : Queue) : Queue :=
  { x with
    items := [], popped := 0, off := 0, open_ := []
    wr := (x.open_.map Prod.fst).foldl (fun t w => t.set w .flushed) x.wr }

def qFlushEff (s : State) (q : Nat) : State := qPut s q (qFlushed (qOf s q))

def qDisableEff (s : State) (q : Nat) : State := qPut s q { qFlushed (qOf s q) with enable := false }

def qEnableEff (s : State) (q : Nat) : State :=
  let x := qOf s q
  if x.enable then s else qPut s q { x with enable := true, last := 0 }

/-! ### Launch times (R34 to R37, R424) -/

/-- ET64 expanded to ET ns, nearest to now; the later of two equally near (R34). -/
def expandEt64 (now v : Nat) : Nat :=
  let span := 4294967296 * nsPerS
  let t := now / span * span + v / 4294967296 * nsPerS + v % 4294967296
  let c := [t - span, t, t + span].filter (fun x => x % span = t % span)
  c.foldl (fun best x => if (x - now) + (now - x) ≤ (best - now) + (now - best) then x else best) t

/-- The completion item of a frame dropped as late. -/
def complItem (h time : Nat) (at_ : Nat) : List Nat :=
  [8 + stCode .launchLate * 65536 + h / 4294967296 % 16777216 * 4294967296 + 2 ^ 56, time, et64 at_]

/-- The head leaves the queue. -/
def qDropHead (s : State) (q : Nat) (sent : Bool) : State :=
  let x := qOf s q
  match qPopItem x with
  | some (_, y) => qPut s q { y with last := x.last, sent := x.sent + b2n sent }
  | none => s

/-- Judge the head of an egress queue as it reaches the head, and those behind it in turn. -/
def qSettle (q : Nat) : Nat → State → State
  | 0, s => s
  | n + 1, s =>
    let x := qOf s q
    if !x.launch || qEngine s q || !egressOk s then s
    else match x.items with
      | [] => s
      | i :: _ =>
        let h := (i[0]?).getD 0
        let time := (i[1]?).getD 0
        if !hdrFlag h 0 || hdrFlag h 1 then qSettle q n (qDropHead s q true)
        else
          let now := etNs s
          if expandEt64 now time + x.lateTol < now then
            if x.dropLate then
              let s1 := qDropHead s q false
              let y := qOf s1 q
              let s2 := qPut s1 q { y with lateDropped := true }
              let s3 := if !x.complEn then s2
                else match qItem s2 x.complQueue (complItem h time now) with
                  | some t => t
                  | none => let z := qOf s2 q; qPut s2 q { z with complLost := true }
              qSettle q n s3
            else qSettle q n (qDropHead s q true)
          else s

def qSettled (s : State) (q : Nat) : State := qSettle q ((qOf s q).items.length + 1) s

/-- After a step of ET every held head is judged again (R37). -/
def settleAll (s : State) : State := ((s.q.qs.filter (fun e => e.2.launch)).map Prod.fst).foldl qSettled s

/-- ET reaches the launch time of a held head. -/
def qLaunch (s : State) (q : Nat) : State :=
  let x := qOf s q
  if !x.launch || qEngine s q || !egressOk s then s
  else match x.items with
    | i :: _ => if expandEt64 (etNs s) ((i[1]?).getD 0) ≤ etNs s then qSettled (qDropHead (qSettled s q) q true) q else qSettled s q
    | [] => s

/-! ### Access (R417) -/

def qBase (q : Nat) : Nat := 0x200000 + q * 0x20

def qPortBase (q : Nat) : Nat := 0x240000 + q * 0x20

/-- The violation of an access to a data port, if it is one. -/
def portViol (s : State) (fn : Fin 2) (q : Nat) : Option Nat :=
  let o := (qOf s q).owner
  if fn = 1 then (if !qEngine s q && o = .normal then none else some 2)
  else if qEngine s q || o = .free then some 3 else none

/-- The violation of a write of a field of Q_CTRL other than OWNER and LATE_TOL, if it is one. -/
def ctrlViol (s : State) (fn : Fin 2) (q : Nat) : Option Nat := portViol s fn q

/-- The violation of a read of a queue's registers by a function, if it is one. -/
def qReadViol (s : State) (fn : Fin 2) (q : Nat) : Option Nat :=
  if fn = 0 || (!qEngine s q && (qOf s q).owner = .normal) then none else some 2

def qPortWrite (fn : Fin 2) (q off : Nat) (f : State → State) (s : State) : State :=
  match portViol s fn q with
  | some k => violWrite s fn (qPortBase q + off) 8 k
  | none => qSettled (f s) q

/-- Q_OPEN. -/
def execQOpen (fn : Fin 2) (q : Fin 2048) (s : State) : Host.Outcome State Fault Refusal :=
  finish s (if alive s then qPortWrite fn q.val 0 (fun s => qOpen s q.val fn.val) (acc s fn) else s)

/-- Q_PUSH. -/
def execQPush (fn : Fin 2) (q : Fin 2048) (value : Word64) (s : State) : Host.Outcome State Fault Refusal :=
  finish s (if alive s then qPortWrite fn q.val 8 (fun s => qPush s q.val fn.val value.toNat) (acc s fn) else s)

/-- Q_CLOSE. -/
def execQClose (fn : Fin 2) (q : Fin 2048) (value : Word64) (s : State) : Host.Outcome State Fault Refusal :=
  finish s (if alive s then qPortWrite fn q.val 16 (fun s => qClose s q.val fn.val value.toNat) (acc s fn) else s)

/-- Q_POP: a read. -/
def qPopEff (fn : Fin 2) (q : Nat) (s : State) : State :=
  match portViol s fn q with
  | some k => violRead s fn (qPortBase q + 24) 8 k
  | none => qSettled (qPop s q) q

def execQPop (fn : Fin 2) (q : Fin 2048) (s : State) : Host.Outcome State Fault Refusal :=
  finish s (if alive s then qPopEff fn q.val (acc s fn) else s)

def qCtrlWrite (fn : Fin 2) (q : Nat) (f : State → State) (s : State) : State :=
  match ctrlViol s fn q with
  | some k => violWrite s fn (qBase q) 8 k
  | none => f s

/-- Q_FLUSH. -/
def execQFlush (fn : Fin 2) (q : Fin 2048) (s : State) : Host.Outcome State Fault Refusal :=
  finish s (if alive s then qCtrlWrite fn q.val (fun s => qFlushEff s q.val) (acc s fn) else s)

/-- Q_ENABLE. -/
def execQEnable (fn : Fin 2) (q : Fin 2048) (s : State) : Host.Outcome State Fault Refusal :=
  finish s (if alive s then qCtrlWrite fn q.val (fun s => qEnableEff s q.val) (acc s fn) else s)

/-- Q_DISABLE. -/
def execQDisable (fn : Fin 2) (q : Fin 2048) (s : State) : Host.Outcome State Fault Refusal :=
  finish s (if alive s then qCtrlWrite fn q.val (fun s => qDisableEff s q.val) (acc s fn) else s)

def ownerOf : Nat → Option QOwner
  | 0 => some .free | 2 => some .secure | 3 => some .normal | _ => none

/-- A disabled queue changes owner; OWNER 1 and an enabled queue leave the field as it is. -/
def qOwnerSet (s : State) (q owner : Nat) : State :=
  let x := qOf s q
  match ownerOf owner with
  | some o => if x.enable then s else qPut s q { x with owner := o }
  | none => s

/-- Q_OWNER_WRITE. -/
def qOwnerWriteEff (fn : Fin 2) (q owner : Nat) (s : State) : State :=
  if fn = 1 then violWrite s fn (qBase q) 8 (if qReadViol s fn q = none then 3 else 2)
  else if qEngine s q then violWrite s fn (qBase q) 8 3
  else qOwnerSet s q owner

def execQOwnerWrite (fn : Fin 2) (q : Fin 2048) (owner : Fin 4) (s : State) : Host.Outcome State Fault Refusal :=
  finish s (if alive s then qOwnerWriteEff fn q.val owner.val (acc s fn) else s)

/-- Peak cells of a queue. -/
def peakOf (s : State) (q : Nat) : Nat := if qEngine s q then (edgeSt s q).peak else (qOf s q).peak

/-- PEAK_CELLS reads as 0 until CELLS next changes. -/
def clearPeak (s : State) (q : Nat) : State :=
  if qEngine s q then { s with flow := { s.flow with edges := s.flow.edges.modify q (fun e => { e with peak := 0 }) } }
  else { s with q := { s.q with qs := s.q.qs.modify q (fun x => { x with peak := 0 }) } }

/-- A low-half read latches the high half. -/
def shadowSet (s : State) (fn : Fin 2) (x : Shadow) : State :=
  { s with reg := if fn = 0 then { s.reg with shadow0 := some x } else { s.reg with shadow1 := some x } }

/-- PEAK_CELLS_READ, of the whole register or of its low half. -/
def peakCellsReadEff (fn : Fin 2) (q : Nat) (full : Bool) (s : State) : State :=
  match qReadViol s fn q with
  | some k => violRead s fn (qBase q + 24) (if full then 8 else 4) k
  | none =>
    let s1 := clearPeak s q
    if full then s1 else shadowSet s1 fn ⟨qBase q + 24, BitVec.ofNat 32 (qOf s q).level⟩

def execPeakCellsRead (fn : Fin 2) (q : Fin 2048) (full : Bool) (s : State) : Host.Outcome State Fault Refusal :=
  finish s (if alive s then peakCellsReadEff fn q.val full (acc s fn) else s)

/-! ### DMA channels (R427 to R434) -/

def dmaOf (s : State) (n : Nat) : DmaCh := s.dma.getD n {}

def dmaSet (s : State) (n : Nat) (x : DmaCh) : State := { s with dma := s.dma.set n x }

def dmaBase (n : Nat) : Nat := 0x100000 + n * 0x100

/-- The violation of a write to a channel's registers, if it is one (R427). -/
def dmaViol (fn : Fin 2) (n : Nat) : Option Nat :=
  if n < 24 then (if fn = 0 then some 3 else some 2)
  else if n < 28 then (if fn = 0 then none else some 2)
  else none

def dmaWrite (fn : Fin 2) (n off size : Nat) (f : State → State) (s : State) : State :=
  match dmaViol fn n with
  | some k => violWrite s fn (dmaBase n + off) size k
  | none => f s

/-- START has effect only in IDLE. -/
def dmaStart (n : Nat) (s : State) : State :=
  let x := dmaOf s n
  if x.state = .idle then
    dmaSet s n { x with state := .running, bytes := 0, descCount := 0, index := 0, descBytes := 0, descFlushed := false, waiting := [], waits := false }
  else s

def execDmaStart (fn : Fin 2) (n : Fin 32) (s : State) : Host.Outcome State Fault Refusal :=
  finish s (if alive s then dmaWrite fn n.val 0 8 (dmaStart n.val) (acc s fn) else s)

/-- RESTART has effect only in HALTED. -/
def dmaRestart (n : Nat) (s : State) : State :=
  let x := dmaOf s n
  if x.state = .halted then dmaSet s n { x with state := .running } else s

def execDmaRestart (fn : Fin 2) (n : Fin 32) (s : State) : Host.Outcome State Fault Refusal :=
  finish s (if alive s then dmaWrite fn n.val 0 8 (dmaRestart n.val) (acc s fn) else s)

def ringSize (x : DmaCh) : Nat := 2 ^ x.crSize

def ringFull (x : DmaCh) : Bool := ringSize x ≤ (x.head - x.tail).toNat

/-- A record goes to slot HEAD mod CR_SIZE. -/
def putRec (x : DmaCh) (r : DmaRec) : DmaCh :=
  { x with
    ring := x.ring.set (x.head.toNat % ringSize x) { r with phase := decide (x.head.toNat / ringSize x % 2 = 0) }
    head := x.head + 1, lastStatus := r.status }

/-- The descriptor is behind the channel: the next, or the end of the chain. -/
def dmaGoOn (x : DmaCh) (next : Option Nat) : DmaCh :=
  match next with
  | some a => { x with state := .running, descAddr := a, index := x.index + 1 }
  | none => { x with state := .idle, done := true }

def dmaIrq (s : State) (n : Nat) (yes : Bool) : State := if yes then { s with irq := irqRaise s.irq (32 + n) } else s

/-- Write a record when the ring has room, then do what follows it. -/
def dmaRecord (s : State) (n : Nat) (x : DmaCh) (r : DmaRec) (a : DmaAfter) : State :=
  if ringFull x then dmaSet s n { x with state := .waitRing, pend := some (r, a) }
  else dmaIrq (dmaSet s n (dmaGoOn (putRec x r) a.next)) n a.interrupt

def mkDmaRec (s : State) (n : Nat) (x : DmaCh) (st : Status) : DmaRec :=
  ⟨x.descId, st, x.descBytes, etNs s % nsPerS, x.index % 65536, true, n⟩

/-- ABORT ends the chain with an ABORTED record; where the ring is full the record follows once it has room. -/
def dmaAbort (n : Nat) (s : State) : State :=
  let x := dmaOf s n
  if x.state = .idle then s
  else
    let y : DmaCh := { x with state := .idle, done := true, waiting := [], waits := false, pend := none }
    let r := mkDmaRec s n x .aborted
    let s1 := { s with q := { s.q with qs := s.q.qs.map (fun e => (e.1, dropOpen e.2 (2 + n))) } }
    if ringFull y then dmaSet s1 n { y with pend := some (r, ⟨false, none⟩), lastStatus := .aborted } else dmaSet s1 n (putRec y r)

def execDmaAbort (fn : Fin 2) (n : Fin 32) (s : State) : Host.Outcome State Fault Refusal :=
  finish s (if alive s then dmaWrite fn n.val 0 8 (dmaAbort n.val) (acc s fn) else s)

/-- DMA_CR_BASE_WRITE: in IDLE the ring starts anew. -/
def dmaCrBase (n v : Nat) (s : State) : State :=
  let x := dmaOf s n
  let y := { x with crBase := v / 16 * 16 }
  dmaSet s n (if x.state = .idle then { y with head := 0, tail := 0, pend := none, ring := [] } else y)

def execDmaCrBaseWrite (fn : Fin 2) (n : Fin 32) (value : Word64) (s : State) : Host.Outcome State Fault Refusal :=
  finish s (if alive s then dmaWrite fn n.val 0x18 8 (dmaCrBase n.val value.toNat) (acc s fn) else s)

/-- DMA_CR_TAIL_WRITE: room for the record that waits. -/
def dmaCrTail (n : Nat) (v : Word32) (s : State) : State :=
  let x := { dmaOf s n with tail := v }
  match x.pend with
  | some (r, a) =>
    if ringFull x then dmaSet s n x
    else if x.state = .waitRing then dmaIrq (dmaSet s n (dmaGoOn (putRec { x with pend := none } r) a.next)) n a.interrupt
    else dmaSet s n (putRec { x with pend := none } r)
  | none => dmaSet s n x

def execDmaCrTailWrite (fn : Fin 2) (n : Fin 32) (value : Word32) (s : State) : Host.Outcome State Fault Refusal :=
  finish s (if alive s then dmaWrite fn n.val 0x30 8 (dmaCrTail n.val value) (acc s fn) else s)

/-- The channel halts (R433). -/
def dmaHalt (s : State) (n : Nat) (code : Status) (dir addr offset descId : Nat) (check : Bool) : State :=
  let x := dmaOf s n
  let y : DmaCh := { x with
    state := .halted, fault := true, faultAddr := addr, faultCode := code, faultDescId := descId, faultIndex := x.index % 65536
    faultCheck := check, faultDir := dir, faultOffset := offset, descBytes := offset }
  let s1 := dmaSet { s with q := { s.q with qs := s.q.qs.map (fun e => (e.1, dropOpen e.2 (2 + n))) } } n y
  dmaIrq (emit1 s1 (.trouble ⟨0xB, addr, locOpen, accByte 0xF 3 (dir % 2 = 1), code,
    [n, x.index % 256, x.index / 256 % 256, descId % 256, descId / 256 % 256]⟩)) n x.intFault

/-- DMA_FAULT. -/
def execDmaFault (n : Fin 32) (code : Status) (dir : Fin 4) (addr offset : Nat) (descId : Word16) (s : State) :
    Host.Outcome State Fault Refusal :=
  finish s (if running s && decide ((dmaOf s n.val).state = .running) then dmaHalt s n.val code dir.val addr offset descId.toNat false else s)

/-- A space takes this address and length; a QUEUE address is a queue number. -/
def spaceForm (space addr len : Nat) : Bool :=
  match space with
  | 0 => true
  | 3 => decide (addr < 2048) && decide (len % 8 = 0)
  | _ => decide (addr % 8 = 0) && decide (len % 8 = 0)

/-- The channel may use a space and address (R429). -/
def spaceAllowed (s : State) (n space addr : Nat) : Bool :=
  match space with
  | 0 => true
  | 3 =>
    if n < 24 then true
    else !qEngine s addr && ((qOf s addr).owner = .normal || (n < 28 && (qOf s addr).owner = .secure))
  | _ => decide (n < 24)

/-- The check of a descriptor (R429). -/
def descCheck (s : State) (n : Nat) (d : DmaDesc) : Option Status :=
  if !d.reservedOk || d.length = 0 || 67108864 < d.length || !spaceForm d.srcSpace d.src d.length || !spaceForm d.dstSpace d.dst d.length ||
    (d.chain && d.next % 32 ≠ 0) then some .badParam
  else if spaceAllowed s n d.srcSpace d.src && spaceAllowed s n d.dstSpace d.dst then none
  else some .notPermitted

/-- Items a channel takes off a queue: as many as fit. -/
def popItems (n : Nat) : Nat → State → Nat → List (List Nat) × State
  | 0, s, _ => ([], s)
  | k + 1, s, room => match qPopItem (qOf s n) with
    | some (i, y) => if 8 * i.length ≤ room then
        let r := popItems n k (qPut s n y) (room - 8 * i.length)
        (i :: r.1, r.2)
      else ([], s)
    | none => ([], s)

/-- Write one item as a channel does: OPEN, PUSH, CLOSE. -/
def dmaPutItem (s : State) (q w : Nat) (i : List Nat) : State :=
  qClose ((i.drop 1).foldl (fun s v => qPush s q w v) (qOpen s q w)) q w ((i[0]?).getD 0)

/-- Write items while the queue has room: what is left, the bytes written, whether one met FLUSHED. -/
def dmaPutItems (q w : Nat) : List (List Nat) → State → List (List Nat) × State × Nat × Bool
  | [], s => ([], s, 0, false)
  | i :: t, s =>
    let x := qOf s q
    if !qTakes x then
      let r := dmaPutItems q w t s
      (r.1, r.2.1, r.2.2.1, true)
    else
      let y := { x with items := x.items ++ [i] }
      if qCells y ≤ x.cap && qCells y ≤ qCells x + poolRoom s then
        let r := dmaPutItems q w t (dmaPutItem s q w i)
        (r.1, r.2.1, r.2.2.1 + 8 * i.length, r.2.2.2)
      else (i :: t, s, 0, false)

/-- The descriptor's data has moved. -/
def dmaEnd (s : State) (n : Nat) (d : DmaDesc) : State :=
  let x := dmaOf s n
  let st : Status := if x.descFlushed then .flushed else .ok
  let r := mkDmaRec s n x st
  let next := if d.chain then some d.next else none
  let y : DmaCh := { x with
    descCount := wrapAdd 32 x.descCount 1, bytes := x.bytes + x.descBytes, descBytes := 0, descFlushed := false, waiting := [], waits := false }
  if d.completion then dmaRecord s n y r ⟨d.interrupt, next⟩
  else dmaIrq (dmaSet s n (dmaGoOn y next)) n d.interrupt

/-- DMA_DESCRIPTOR_DONE: `items` are the items read, where the destination is a queue and the source is none. -/
def dmaDescriptorDoneEff (n : Nat) (d : DmaDesc) (items : List (List Nat)) (s : State) : State :=
  match descCheck s n d with
  | some st => dmaHalt s n st 2 (dmaOf s n).descAddr 0 d.descId true
  | none =>
    let x := dmaOf s n
    let x0 : DmaCh := if x.waits then x else { x with descId := d.descId, descFlushed := false }
    let got : List (List Nat) × State := if x.waits then (x.waiting, s)
      else if d.srcSpace = 3 then popItems d.src (qOf s d.src).items.length s d.length
      else (items, s)
    let s1 := dmaSet got.2 n x0
    if d.dstSpace = 3 then
      let r := dmaPutItems d.dst (2 + n) got.1 s1
      let y : DmaCh := { x0 with descBytes := x0.descBytes + r.2.2.1, descFlushed := x0.descFlushed || r.2.2.2 }
      let s2 := qSettled r.2.1 d.dst
      if r.1.isEmpty then dmaEnd (dmaSet s2 n y) n d else dmaSet s2 n { y with waiting := r.1, waits := true }
    else
      let moved := if d.srcSpace = 3 then 8 * (got.1.map List.length).sum else d.length - x0.descBytes
      dmaEnd (dmaSet s1 n { x0 with descBytes := x0.descBytes + moved }) n d

def execDmaDescriptorDone (n : Fin 32) (d : DmaDesc) (items : List (List Nat)) (s : State) : Host.Outcome State Fault Refusal :=
  finish s (if running s && decide ((dmaOf s n.val).state = .running) then dmaDescriptorDoneEff n.val d items s else s)

/-- A function's reset aborts its channels, flushes its queues (R439). -/
def hostReset (s : State) (chs : List Nat) (o : QOwner) : State :=
  let s1 := chs.foldl (fun s n => dmaAbort n s) s
  ((s1.q.qs.filter (fun e => e.2.owner = o && !qEngine s1 e.1)).map Prod.fst).foldl qFlushEff s1

end Sys2Proof.Machine
end

