-- ==== Sys2Proof/Machine/CampOps.lean ====
section
/-! DEFINITION. Operations on campaigns and the CAMPAIGN field that the pipeline, the downlink and the commands share (R384, R385, R387). -/

namespace Sys2Proof.Machine
open Sys2Proof

def campOf (s : State) (k : Nat) : Option Campaign := s.p.camps.get? k

def campSet (s : State) (k : Nat) (c : Campaign) : State := { s with p := { s.p with camps := s.p.camps.set k c } }

def campMod (s : State) (k : Nat) (f : Campaign → Campaign) : State := { s with p := { s.p with camps := s.p.camps.modify k f } }

/-- ACTIVATED, FAILED, SKIPPED and CANCELLED are final. -/
def campFinal (st : CampState) : Bool :=
  match st with
  | .activated | .failed | .skipped | .cancelled => true
  | _ => false

/-- The field of a target of campaign `k`, as the campaign sees it. -/
def memberField (s : State) (k : Nat) (c : Campaign) (m : Nat) : CampField :=
  match c.kept.get? m with
  | some f => f
  | none =>
    let f := (mctOf s m).camp
    if c.skipped.contains m || !f.valid || f.slot ≠ k then { slot := k, valid := true, state := .skipped } else f

def memberLive (s : State) (k : Nat) (c : Campaign) (m : Nat) : Bool :=
  c.members.contains m && !campFinal (memberField s k c m).state

def campTargets (c : Campaign) : List Nat := c.members ++ c.skipped

/-- Targets of a campaign in a state. -/
def campCount (s : State) (k : Nat) (c : Campaign) (st : CampState) : Nat :=
  ((campTargets c).filter (fun m => (memberField s k c m).state = st)).length

def campOpen (s : State) (k : Nat) (c : Campaign) : Bool := c.members.any (memberLive s k c)

/-- The completion of a campaign: the event on its creating mailbox and its record, once (R387). -/
def campDone (s : State) (k : Nat) : State :=
  match campOf s k with
  | some c =>
    if c.doneSent || campOpen s k c then s
    else
      let body : Body := [(k, 1), (0, 3), (campCount s k c .activated, 4), (campCount s k c .failed, 4), (campCount s k c .skipped, 4),
        (campCount s k c .cancelled, 4)]
      emitAll (campSet s k { c with doneSent := true, rounds := [], asked := [] })
        [.event .ok 3 (BitVec.ofNat 8 (2 ^ c.creator)) body, .record 0x17 0 ((3, 2) :: (0, 2) :: body)]
  | none => s

/-- Change a member's field; LAST_TICK says when. -/
def setCamp (s : State) (m : Nat) (f : CampField → CampField) : State :=
  updM s m (fun e => { e with camp := { f e.camp with lastTick := s.vault.tick % 65536 } })

/-- A member becomes FAILED for a reason. -/
def campFail (s : State) (k m reason : Nat) : State :=
  let s1 := setCamp s m (fun f => { f with state := .failed, reason := reason })
  campDone (campMod s1 k (fun c => { c with asked := c.asked.erase m })) k

/-- The campaign that a meter is a live member of. -/
def campIn (s : State) (m : Nat) : Option (Nat × Campaign) :=
  let f := (mctOf s m).camp
  if f.valid && !campFinal f.state then
    match campOf s f.slot with
    | some c => if c.members.contains m then some (f.slot, c) else none
    | none => none
  else none

/-- A security failure of a meter's unicast work (R385). -/
def campSecurity (s : State) (m : Nat) : State :=
  match campIn s m with
  | some (k, c) => if (c.asked.get? m).isSome then campFail s k m 6 else s
  | none => s

end Sys2Proof.Machine
end

