-- ==== Sys2Proof/Machine/Recorder.lean ====
section
/-! DEFINITION. The event recorder and the reading of the trouble log (R346 to R366). -/

namespace Sys2Proof.Machine
open Sys2Proof

/-- Heartwood slots; the first sapwood sequence. -/
def heartSlots : Nat := 4096

/-- Sapwood sequences, over which differences are taken (R347). -/
def sapMod : Nat := 4294967296 - 4096

/-- Distance from sapwood sequence `a` on to `b`. -/
def sapDist (a b : Nat) : Nat := (b + sapMod - a) % sapMod

/-- The sequence after `q` (R347). -/
def seqNext (q : Nat) : Nat := if q + 1 < 4294967296 then q + 1 else 4096

/-- `n` sapwood sequences after `q`. -/
def sapPlus (q n : Nat) : Nat := 4096 + (q - 4096 + n) % sapMod

/-- Page of a heartwood sequence (R360). -/
def heartPage (q : Nat) : Nat := 4 + q / 64

/-- The first heartwood sequence from `q` on whose page is not lost, or 4,096. -/
def heartSkip (lost : List Nat) : Nat → Nat → Nat
  | 0, q => if q < 4096 then 4096 else q
  | n + 1, q =>
    if 4096 ≤ q then q
    else if lost.contains (heartPage q) then heartSkip lost n ((q / 64 + 1) * 64)
    else q

/-- The sequence the next record takes (R347, R360). -/
def nextSeq (r : RecSt) : Nat :=
  let q := match r.headSeq with | none => 0 | some h => seqNext h
  heartSkip r.lostPages 65 q

/-- Sapwood holds a record. -/
def sapAny (r : RecSt) : Bool := match r.headSeq with | some h => decide (4096 ≤ h) | none => false

/-- OLDEST_SEQ (R348). -/
def oldestSeq (r : RecSt) : Nat :=
  if sapAny r then r.oldest else match r.headSeq with | some h => h + 1 | none => 0

/-- One mark as OLDEST_SEQ moves to `o` (R358): a sapwood mark behind it moves there and counts what it passed. -/
def markMove (o : Nat) (m : RMark) : RMark × Nat :=
  if 4096 ≤ m.seq && decide (0 < sapDist m.seq o) && decide (sapDist m.seq o < sapMod / 2) then
    ({ seq := o, lost := satAdd 32 m.lost (sapDist m.seq o) }, sapDist m.seq o)
  else (m, 0)

/-- OLDEST_SEQ moves to `o`: records before it are no longer held and marks follow. -/
def oldestTo (r : RecSt) (o : Nat) : RecSt :=
  let moved := r.marks.map (fun e => (e.1, markMove o e.2))
  let hit := (moved.filter (fun e => decide (0 < e.2.2))).map Prod.fst
  { r with
    oldest := o
    held := r.held.filter (fun e => decide (e.1 < 4096) || !(decide (0 < sapDist e.1 o) && decide (sapDist e.1 o < sapMod / 2)))
    marks := moved.map (fun e => (e.1, e.2.1))
    movedMarks := r.movedMarks ++ hit.filter (fun k => !r.movedMarks.contains k)
    movedRecs := r.movedRecs + (moved.map (fun e => e.2.2)).sum
    stMarkMoved := r.stMarkMoved || !hit.isEmpty }

/-- Step 1 of R353: the slot to be written holds the record at OLDEST_SEQ. -/
def makeRoom (r : RecSt) (q : Nat) : RecSt :=
  if 4096 ≤ q && sapAny r && decide (r.cap ≤ sapDist r.oldest q) then
    { oldestTo r (sapPlus r.oldest (sapDist r.oldest q + 1 - r.cap)) with wrapped := true }
  else r

/-- Steps 2 and 3 of R353: the record stands in its slot and HEAD_SEQ advances. -/
def putRecord (r : RecSt) (q : Nat) (x : Rec) : RecSt :=
  { r with
    held := r.held.set q x
    headSeq := some q
    heartWritten := if q < 4096 then r.heartWritten + 1 else r.heartWritten
    heartFull := r.heartFull || decide (4096 ≤ heartSkip r.lostPages 65 (seqNext q)) }

/-- The page a sapwood sequence stands on, counted from the first sapwood page. -/
def sapPage (r : RecSt) (q : Nat) : Nat := 68 + (q - 4096) % (if r.cap = 0 then 1 else r.cap) / 64

def pageOf (r : RecSt) (q : Nat) : Nat := if q < 4096 then heartPage q else sapPage r q

/-- The location code of a recorder page (R532): front-end die, block 0x38. -/
def recPageLoc (pg : Nat) : Nat :=
  1 * 2 ^ 40 + 1 * 2 ^ 36 + 14 * 2 ^ 32 + 0x38 * 2 ^ 24 + pg / 1024 * 2 ^ 16 + pg % 1024 * 64

/-- The location code of the recorder as a whole. -/
def recLoc : Nat := 1 * 2 ^ 40 + 1 * 2 ^ 36 + 14 * 2 ^ 32 + 0x38FFFFFF

/-- The recorder stops (R361): a REC entry and MEDIA_ERROR with SOURCE 1. -/
def recStop (s : State) (cause : Nat) : State :=
  emitAll { s with recd := { s.recd with state := .stopped, port := [] } }
    [.trouble ⟨0xA, 0, recLoc, accByte 0xF 3 false, .mediaError, [0, 0, cause]⟩,
     .event .mediaError 0 mb01 [(1, 1), (0, 3), (0, 8), (0, 4), (recLoc, 6), (0, 2)]]

def pageRetiredRec (area pg lost spares : Nat) : Emit :=
  .record 1 0x8080 [(area, 1), (pg, 2), (lost, 1), (spares, 1)]

def heartFaultRec (pg first lost : Nat) : Emit := .record 1 0x8081 [(pg, 2), (first, 4), (lost, 1)]

/-- A failing page with a spare to take its place (R359): what could be copied stays, the record is rewritten. -/
def retireSpare (s : State) (q : Nat) (x : Rec) (lost : List Nat) : State :=
  let r := s.recd
  let pg := pageOf r q
  let gone := (lost.filter (fun k => pageOf r k == pg && (r.held.get? k).isSome))
  let heart := decide (q < 4096)
  let r1 := { r with
    held := gone.foldl (fun h k => h.erase k) r.held
    spares := r.spares - 1
    sapRetired := if heart then r.sapRetired else r.sapRetired + 1
    heartRetired := if heart then r.heartRetired + 1 else r.heartRetired
    heartLost := if heart then r.heartLost + gone.length else r.heartLost
    stPageRetired := true
    stHeartFault := r.stHeartFault || (heart && !gone.isEmpty) }
  let s1 := { s with recd := putRecord r1 q x, vault := { s.vault with degraded := true } }
  emitAll s1
    ([.trouble ⟨0xA, 0, recPageLoc pg, accByte 0xF 3 true, .mediaError, [pg % 256, pg / 256, 1]⟩,
      pageRetiredRec (if heart then 0 else 1) pg gone.length (r.spares - 1)] ++
     (if heart && !gone.isEmpty then [heartFaultRec pg (gone.foldl min 4096) gone.length] else []))

/-- A failing sapwood page without a spare leaves the ring (R359): C falls by 64; the record goes into the next good slot. -/
def dropSapPage (s : State) (q : Nat) (x : Rec) : State :=
  let r := s.recd
  let pg := pageOf r q
  let gone := (r.held.keys).filter (fun k => decide (4096 ≤ k) && pageOf r k == pg)
  let cap := r.cap - 64
  let r1 := { r with
    held := gone.foldl (fun h k => h.erase k) r.held, cap := cap, sapRetired := r.sapRetired + 1, stPageRetired := true }
  let r2 := if sapAny r1 && decide (cap ≤ sapDist r1.oldest q) then oldestTo r1 (sapPlus r1.oldest (sapDist r1.oldest q + 1 - cap)) else r1
  let s1 := { s with recd := r2, vault := { s.vault with degraded := true } }
  let es : List Emit :=
    [.trouble ⟨0xA, 0, recPageLoc pg, accByte 0xF 3 true, .mediaError, [pg % 256, pg / 256, 1]⟩]
  if cap = 0 then recStop (emitAll s1 es) 1
  else emitAll { s1 with recd := putRecord s1.recd q x } (es ++ [pageRetiredRec 1 pg gone.length 0])

/-- A failing heartwood page without a spare is lost with its records; its unwritten sequences are skipped (R360). -/
def loseHeartPage (s : State) (q : Nat) : State :=
  let r := s.recd
  let pg := heartPage q
  let gone := (r.held.keys).filter (fun k => decide (k < 4096) && heartPage k == pg)
  let r1 := { r with
    held := gone.foldl (fun h k => h.erase k) r.held
    lostPages := pg :: r.lostPages
    heartRetired := r.heartRetired + 1
    heartLost := r.heartLost + gone.length + 1
    heartFull := decide (4096 ≤ heartSkip (pg :: r.lostPages) 65 q)
    stPageRetired := true, stHeartFault := true }
  emitAll { s with recd := r1, vault := { s.vault with degraded := true } }
    [.trouble ⟨0xA, 0, recPageLoc pg, accByte 0xF 3 true, .mediaError, [pg % 256, pg / 256, 1]⟩,
     pageRetiredRec 0 pg (gone.length + 1) 0, heartFaultRec pg ((pg - 4) * 64) (gone.length + 1)]

/-- RECORD_WRITE (R353, R359 to R361): the oldest record at the write port. -/
def recordWriteEff (res : RecWrite) (s : State) : State :=
  match s.recd.state, s.recd.port with
  | .running, x :: rest =>
    let r0 := { s.recd with port := rest }
    let q := nextSeq r0
    let s1 := { s with recd := makeRoom r0 q }
    match res with
    | .controller => recStop s1 3
    | .good => { s1 with recd := putRecord s1.recd q x }
    | .readBack lost =>
      if 0 < s1.recd.spares then retireSpare s1 q x lost
      else if q < 4096 then loseHeartPage s1 q
      else dropSapPage s1 q x
  | _, _ => s

def execRecordWrite (res : RecWrite) (s : State) : Host.Outcome State Fault Refusal :=
  finish s (if s.boot.powered then recRaise s.recd (recordWriteEff res s) else s)

/-- Power-up recovery (R355, R361): POWER_UP, then TAMPER, then any HEARTWOOD_FAULT due, before any other record. -/
def recRecover (s : State) (ok : Bool) (causeWord firstTick : Nat) : State :=
  if ok && decide (0 < s.recd.cap) then
    let s1 := { s with recd := { s.recd with state := .running, port := [], perSource := [], overSource := [] } }
    let flags := b2n s.vault.clean + 2 * b2n s.vault.tampered + 4 * b2n s.vault.degraded
    emitAll { s1 with recd := { s1.recd with faultDue := [] } }
      ([.record 0x10 0x8001 [(causeWord, 4), (flags, 1), (0, 3), (firstTick, 8)]] ++
       (if s.vault.tampered then
          [.record 3 0x8030 [(s.vault.tamperCause.toNat, 1), (s.vault.counters.getD 16 0 % 256, 1), (0, 2),
            ((s.vault.rtc.getD 0 / (nsPerS * unitsPerNs)) % 4294967296, 4)]] else []) ++
       s.recd.faultDue.map (fun f => heartFaultRec f.1 f.2.1 f.2.2))
  else { s with recd := { s.recd with state := .stopped, port := [] } }

/-- Formatting at the transition from BLANK to PROVISIONED (R347, R358). -/
def recFormat (r : RecSt) : RecSt :=
  { r with
    formatted := true, held := [], headSeq := none, oldest := 4096, wrapped := false, port := []
    heartWritten := 0, heartFull := false, marks := [], faultDue := [] }

/-- Heartwood is cleared on entering RETIRED (R347). -/
def recRetire (r : RecSt) : RecSt :=
  { r with held := r.held.filter (fun e => decide (4096 ≤ e.1)), heartWritten := 0 }

/-- At a Tick boundary: suppressed sources and overtaken marks of the Tick just ended are recorded (R354, R358). -/
def recTickEmits (s : State) : List Emit :=
  s.recd.overSource.map (fun e => .record 1 0x8082 [(e.1, 2), (e.2, 4), (s.vault.tick, 8)]) ++
  (if s.recd.movedMarks.isEmpty then []
   else [.record 1 0x8083 [(s.recd.movedMarks.length, 2), (if s.recd.movedRecs < 4294967296 then s.recd.movedRecs else 4294967295, 4), (s.vault.tick, 8)]])

def recTick (s : State) : State :=
  let es := recTickEmits s
  emitAll { s with recd := { s.recd with perSource := [], overSource := [], movedMarks := [], movedRecs := 0 } } es

/-! ### Registers of the recorder -/

def recStateCode : RecState → Nat | .recovering => 0 | .running => 1 | .stopped => 2

def recStatusReg (s : State) : Nat :=
  recStateCode s.recd.state + 4 * b2n s.recd.heartFull + 8 * b2n s.recd.wrapped + 16 * b2n s.vault.degraded +
  256 * b2n s.recd.stPageRetired + 512 * b2n s.recd.stHeartFault + 1024 * b2n s.recd.stSuppressed +
  2048 * b2n s.recd.stMarkMoved

def recHeadReg (s : State) : Nat := s.recd.headSeq.getD 0

def recCapacityReg (s : State) : Nat := s.recd.heartWritten + s.recd.spares * 2 ^ 16 + s.recd.cap * 2 ^ 32

def recRetiredReg (s : State) : Nat := s.recd.sapRetired + s.recd.heartRetired * 2 ^ 16 + s.recd.heartLost * 2 ^ 32

/-! ### Commands -/

def ciRec (code : Nat) : CmdInfo := { code := code, plain := 0x73, roles := 0x1F, states := 0x1E, hold := true }

def markKey (mb slot : Nat) : Nat := 8 * mb + slot

def markOf (s : State) (mb slot : Nat) : RMark := s.recd.marks.getD (markKey mb slot) {}

def recStatusBody (s : State) (mb : Nat) : Body :=
  [(recStatusReg s, 8), (recHeadReg s, 8), (oldestSeq s.recd, 8), (recCapacityReg s, 8), (recRetiredReg s, 8),
   (s.recd.suppressed, 8)] ++
  ([0, 1, 2, 3, 4, 5, 6, 7].map (fun k => [((markOf s mb k).seq, 4), ((markOf s mb k).lost, 4)])).flatten

/-- REC_STATUS (R483). -/
def execRecStatus (r : Req) (s : State) : Host.Outcome State Fault Refusal :=
  finish s (gmi (ciRec 0x0A01) r (fun s => ⟨s, .ok, recStatusBody s r.mb.val, []⟩) s)

/-- Bytes of a value, lowest first (R6). -/
def bytesOf (v : Nat) : Nat → List Nat
  | 0 => []
  | n + 1 => v % 256 :: bytesOf (v / 256) n

def bodyBytes (b : Body) : List Nat := (b.map (fun f => bytesOf f.1 f.2)).flatten

/-- One bit step of CRC-32C (reflected polynomial 0x82F63B78). -/
def crcBit (c : Nat) : Nat := if c % 2 = 1 then Nat.xor (c / 2) 0x82F63B78 else c / 2

def crcByte (c b : Nat) : Nat :=
  crcBit (crcBit (crcBit (crcBit (crcBit (crcBit (crcBit (crcBit (Nat.xor c b))))))))

/-- CRC-32C of a list of bytes (R349). -/
def crc32c (l : List Nat) : Nat := Nat.xor (l.foldl crcByte 0xFFFFFFFF) 0xFFFFFFFF

/-- Bytes 0 to 59 of a record (R349). -/
def recFields (q : Nat) (x : Rec) : Body :=
  [(q, 4), (x.src + 1024 * b2n x.fmtCal + 2048 * b2n (decide (q < 4096)), 2), (x.code, 2)] ++
  (if x.fmtCal then [(x.t1, 6), (x.t2, 2)] else [(x.t1, 4), (x.t2, 3), (0, 1)]) ++
  x.body ++ [(0, 44 - bodyLen x.body)]

def recImage (q : Nat) (x : Rec) : Body := recFields q x ++ [(crc32c (bodyBytes (recFields q x)), 4)]

/-- Held records from a sequence on, in sequence order (R484, R356). -/
def recFrom (r : RecSt) (f : Nat) : List (Nat × Rec) :=
  if f < 4096 then r.held.filter (fun e => decide (f ≤ e.1) && decide (e.1 < 4096))
  else if sapAny r then
    let o := r.oldest
    let span := sapDist o (r.headSeq.getD o)
    let start := if sapDist o f ≤ span then f else if sapDist f o < sapMod / 2 then o else f
    if sapDist o start ≤ span then
      let ks := r.held.filter (fun e => decide (4096 ≤ e.1) && decide (sapDist o start ≤ sapDist o e.1) && decide (sapDist o e.1 ≤ span))
      ks.filter (fun e => decide (start ≤ e.1)) ++ ks.filter (fun e => decide (e.1 < start))
    else []
  else []

/-- REC_READ (R484). -/
def recRead (f count : Nat) (s : State) : Reply :=
  if count = 0 || 63 < count then deny s .badParam
  else
    let l := (recFrom s.recd f).take count
    ⟨s, .ok, [(recHeadReg s, 4), (oldestSeq s.recd, 4), (s.recd.cap, 4), (l.length, 1), (0, 3)] ++
      (l.map (fun e => recImage e.1 e.2)).flatten, []⟩

def execRecRead (r : Req) (fromSeq : Word32) (count : BitVec 8) (s : State) : Host.Outcome State Fault Refusal :=
  finish s (gmi (ciRec 0x0A02) r (recRead fromSeq.toNat count.toNat) s)

/-- A sequence a mark may take (R358). -/
def markSeqOk (r : RecSt) (q : Nat) : Bool :=
  (decide (q < 4096) && (r.held.get? q).isSome) ||
  (if sapAny r then
     decide (4096 ≤ q) && decide (sapDist r.oldest q ≤ sapDist r.oldest (r.headSeq.getD 0) + 1)
   else decide (q = oldestSeq r))

/-- REC_MARK_SET (R358): LOST keeps its value. -/
def recMarkSet (mb slot q : Nat) (s : State) : Reply :=
  if 8 ≤ slot || !markSeqOk s.recd q then deny s .badParam
  else ⟨{ s with recd := { s.recd with marks := s.recd.marks.set (markKey mb slot) { markOf s mb slot with seq := q } } }, .ok, [], []⟩

def execRecMarkSet (r : Req) (slot : BitVec 8) (seq : Word32) (s : State) : Host.Outcome State Fault Refusal :=
  finish s (gmi (ciRec 0x0A03) r (recMarkSet r.mb.val slot.toNat seq.toNat) s)

/-- REC_MARK_GET (R358): LOST is returned and cleared. -/
def recMarkGet (mb slot : Nat) (s : State) : Reply :=
  if 8 ≤ slot then deny s .badParam
  else
    let m := markOf s mb slot
    ⟨{ s with recd := { s.recd with marks := s.recd.marks.set (markKey mb slot) { m with lost := 0 } } }, .ok,
      [(m.seq, 4), (m.lost, 4)], []⟩

def execRecMarkGet (r : Req) (slot : BitVec 8) (s : State) : Host.Outcome State Fault Refusal :=
  finish s (gmi (ciRec 0x0A04) r (recMarkGet r.mb.val slot.toNat) s)

/-- A trouble-log entry (R362). -/
def tEntryBody (e : TEntry) : Body :=
  [(e.mc, 8), (e.addr, 8), (e.loc, 6), (e.cls, 1), (e.accessor + 128 * b2n e.first, 1), (stCode e.code, 2)] ++
  e.detail ++ [(0, 6 - bodyLen e.detail)]

/-- TROUBLE_READ (R364). -/
def troubleRead (f n : Nat) (s : State) : Reply :=
  if n = 0 || 127 < n then deny s .badParam
  else
    let oldest := s.err.tnext - s.err.tlog.length
    let start := if f < oldest then oldest else f
    let l := (s.err.tlog.drop (start - oldest)).take n
    ⟨s, .ok, [(start + l.length, 4), (oldest - f, 4), (l.length, 2), (0, 2)] ++ (l.map tEntryBody).flatten, []⟩

def ciTroubleRead : CmdInfo := { code := 0x0A05, plain := 0x41, hold := true }

def execTroubleRead (r : Req) (fromEntry : Word32) (maxCount : Word16) (s : State) : Host.Outcome State Fault Refusal :=
  finish s (gmi ciTroubleRead r (troubleRead fromEntry.toNat maxCount.toNat) s)

end Sys2Proof.Machine
end

