-- ==== Sys2Proof/Machine/Keys.lean ====
section
/-! DEFINITION. The key commands and quarantine expiry (R157 to R189, R478, R479). -/

namespace Sys2Proof.Machine
open Sys2Proof

/-- A value fresh from the random source. -/
def fresh (s : State) : Nat × State := (Config.freeValue s.freeCtr, { s with freeCtr := s.freeCtr + 1 })

/-- Algorithms a class may hold (R163). -/
def classAlgs : Nat → List Nat
  | 4 => [2] | 5 => [1] | 6 => [2] | 7 => [4] | 8 => [5, 6] | 9 => [5, 6] | 10 => [2] | 11 => [3, 4] | _ => []

/-- TARGETS is zero for classes other than KEK and ANCHOR (R164). -/
def attrFormOk (cls : Nat) (a : KeyAttr) : Bool :=
  (classAlgs cls).contains a.alg && (cls = 6 || cls = 8 || a.targets = 0)

/-- The slot a new key goes to, with its next GENERATION; none where the slot holds a key of another class (R163). -/
def slotGen (s : State) (cls idx : Nat) : Option (BitVec 8) :=
  match s.p.keys.slots.get? idx with
  | some k => if k.cls = cls then some (k.attr.generation + 1) else none
  | none => some 0

/-- PARENT_GEN of a new key: the parent's GENERATION now. -/
def parentGen (s : State) (p : Word32) : BitVec 8 := match keyView s p with | some v => v.attr.generation | none => 0

def putSlot (s : State) (idx : Nat) (k : KSlot) : State :=
  { s with p := { s.p with keys := { s.p.keys with slots := s.p.keys.slots.set idx k } } }

/-- Place a key in a general slot; what was quarantined for its handle returns (R172). -/
def placeKey (s : State) (h : Word32) (gen : BitVec 8) (a : KeyAttr) (mat : Nat) (kek : KekId) : State :=
  let a1 := { a with generation := gen, valid := true, invalidated := false, pend := false, parentGen := parentGen s a.parent }
  releaseQuar (putSlot s (hIdx h) ⟨hClass h, a1, mat, kek⟩) h

/-- The provisioning key of slot 0 (R163, R184). -/
def provKey (gen : BitVec 8) : KeyAttr :=
  { masters := 5, worlds := 1, lifecycle := 6, usage := 0x40, alg := 4, generation := gen, valid := true, publicExport := true }

def makeProvKey (s : State) : State :=
  match s.keys.kek with
  | some k =>
    let f := fresh s
    putSlot f.2 0 ⟨11, provKey 0, f.1, k⟩
  | none => s

/-- The vault fills the KEK file for the state it is in (R160). -/
def refillKek (s : State) : State :=
  { s with keys := { clearWorking s.keys with kek := vaultKek s, kekNext := none } }

/-! ### Import and generation (R185, R478, R479) -/

def ciKeyImportWrapped : CmdInfo := { code := 0x0501, plain := 0x01, states := 0x06, w := true }

/-- The unwrapping key of an import is of a form the command takes. -/
def unwrapFormOk (a : ImportArg) : Bool :=
  (hClass a.unwrap = 6 && a.ephLen = 0) || (a.unwrap = 0xB0000000 && a.ephLen = 97)

/-- A TAMPERED engine fails every command that names a handle (R167 step 1, R479). -/
def tamperedFail (s : State) (r : Req) (h : Word32) : State :=
  keyFail s h ⟨mbMaster s r, r.mb.val == 1, 0, [], 0⟩ (.tampered, 1)

def missingFail (s : State) (r : Req) (h : Word32) : State :=
  keyFail s h ⟨mbMaster s r, r.mb.val == 1, 0, [], 0⟩ (.keyMissing, 2)

def keyImport (r : Req) (a : ImportArg) (s : State) : Reply :=
  let c := hClass a.target
  if s.vault.tampered then deny (tamperedFail s r a.target) .tampered
  else if 1 ≤ c && c ≤ 3 then deny s .badParam
  else if c < 4 || 11 < c || 65535 < hIdx a.target then deny (missingFail s r a.target) .keyMissing
  else if a.wrapLen < 24 || 160 < a.wrapLen || !unwrapFormOk a || !attrFormOk c a.attr then deny s .badParam
  else match slotGen s c (hIdx a.target) with
    | none => deny (missingFail s r a.target) .keyMissing
    | some gen =>
      let u := if hClass a.unwrap = 6 then useKey s r a.unwrap 5 [2] (BitVec.ofNat 16 (2 ^ c)) else useKey s r a.unwrap 6 [4] 0
      match u with
      | (s1, some st) => deny s1 st
      | (s1, none) =>
        if a.attr.parent ≠ 0 && (keyView s1 a.attr.parent).isNone then deny (missingFail s1 r a.attr.parent) .keyMissing
        else if !a.wrapped.ok then deny s1 .authFail
        else match s1.keys.kek with
          | none => deny s1 .keyMissing
          | some k => ⟨placeKey s1 a.target gen a.attr a.wrapped.mat k, .ok, [(gen.toNat, 1), (0, 3)], []⟩

/-- KEY_IMPORT_WRAPPED. -/
def execKeyImportWrapped (r : Req) (a : ImportArg) (s : State) : Host.Outcome State Fault Refusal :=
  finish s (gmi ciKeyImportWrapped r (keyImport r a) s)

def ciKeyGenerate : CmdInfo := { code := 0x0502, plain := 0x01, states := 0x07, w := true }

def taprootTarget : Word32 := 0xFFFFFFFF

def taprootRegen (s : State) : Nat := s.vault.counters.getD 16 0

/-- KEY_GENERATE of TAPROOT (R182). -/
def genTaproot (s : State) : Reply :=
  if !s.vault.tampered || decide (8 ≤ taprootRegen s) then deny s .notPermitted
  else
    let n := taprootRegen s + 1
    let s1 := { s with vault := { s.vault with counters := s.vault.counters.set 16 n, tampered := false } }
    let f := fresh s1
    let rec1 : List Emit := [.record 3 0x8032 [(n, 1)]]
    if s.vault.life = .blank then ⟨f.2, .ok, [(f.1 % 256, 1), (0, 3)], rec1⟩
    else
      let s2 := refillKek { f.2 with vault := { f.2.vault with taproot := true } }
      let s3 := { s2 with p := { s2.p with keys := { epoch := s2.p.keys.epoch } }, keys := { s2.keys with ready := true, rewrap := none } }
      ⟨makeProvKey s3, .ok, [(f.1 % 256, 1), (0, 3)], rec1⟩

def keyGenerate (r : Req) (target : Word32) (a : KeyAttr) (s : State) : Reply :=
  let c := hClass target
  if target = taprootTarget then (if a = {} then genTaproot s else deny s .badParam)
  else if s.vault.life = .blank then deny s .notPermitted
  else if s.vault.tampered then deny (tamperedFail s r target) .tampered
  else if !(c = 6 || c = 7 || c = 11) then deny s .badParam
  else if 65535 < hIdx target then deny (missingFail s r target) .keyMissing
  else if !attrFormOk c a then deny s .badParam
  else match slotGen s c (hIdx target), s.keys.kek with
    | some gen, some k =>
      if a.parent ≠ 0 && (keyView s a.parent).isNone then deny (missingFail s r a.parent) .keyMissing
      else
        let f := fresh s
        ⟨placeKey f.2 target gen a f.1 k, .ok, [(gen.toNat, 1), (0, 3)], []⟩
    | _, _ => deny (missingFail s r target) .keyMissing

/-- KEY_GENERATE. -/
def execKeyGenerate (r : Req) (target : Word32) (a : KeyAttr) (s : State) : Host.Outcome State Fault Refusal :=
  finish s (gmi ciKeyGenerate r (keyGenerate r target a) s)

/-! ### Invalidation (R170) -/

def ciKeyInvalidate : CmdInfo := { code := 0x0503, plain := 0x01, roles := 0x01, states := 0x06, w := true }

/-- Steps 1 to 3 of R167 for a handle that a command names without using its key. -/
def namedFail (s : State) (h : Word32) : Option (Status × Nat) :=
  if s.vault.tampered then some (.tampered, 1)
  else match keyView s h with
    | none => some (.keyMissing, 2)
    | some v => if revokedChain s v.attr (chainFuel s) then some (.keyRevoked, 3) else none

def failNamed (s : State) (r : Req) (h : Word32) (f : Status × Nat) : Reply :=
  deny (keyFail s h ⟨mbMaster s r, r.mb.val == 1, 0, [], 0⟩ f) f.1

def keyInvalidate (r : Req) (h : Word32) (s : State) : Reply :=
  if r.mb.val ≠ 0 && !(1 ≤ hClass h && hClass h ≤ 3) then deny s .notPermitted
  else match namedFail s h with
    | some f => failNamed s r h f
    | none => ⟨invalidateKey s h (mbMaster s r), .ok, [], []⟩

/-- KEY_INVALIDATE. -/
def execKeyInvalidate (r : Req) (h : Word32) (s : State) : Host.Outcome State Fault Refusal :=
  finish s (gmi ciKeyInvalidate r (keyInvalidate r h) s)

/-! ### Rotation (R174) -/

def ciKeyRotateMeter : CmdInfo := { code := 0x0504, plain := 0x01, roles := 0x01, states := 0x04, w := true }

def pendCount (k : MKeys) : Nat := b2n k.pUc.isSome + b2n k.pAk.isSome + b2n k.pBk.isSome

/-- Entries of the pending pool in use. -/
def poolUsed (s : State) : Nat := (s.p.keys.meters.map (fun e => pendCount e.2)).sum

def poolSize : Nat := 131072

/-- The WRAPPED entries a rotation names are given, and no other (R174). -/
def wrapsOk (mask : BitVec 8) (op : BitVec 8) (w : List (Option Wrapped)) : Bool :=
  [0, 1, 2].all (fun i => ((w[i]?).getD none).isSome == (mask.getLsbD i && op == 0))

def wrapAt (w : List (Option Wrapped)) (i : Nat) : Wrapped := ((w[i]?).getD none).getD ⟨0, true⟩

def installKeys (s : State) (m : Nat) (mask : BitVec 8) (w : List (Option Wrapped)) (k : KekId) : State :=
  let o := mkeysOf s m
  let ks : MKeys := { o with
    pUc := if mask.getLsbD 0 then some { mat := (wrapAt w 0).mat, kek := k } else o.pUc
    pAk := if mask.getLsbD 1 then some { mat := (wrapAt w 1).mat, kek := k } else o.pAk
    pBk := if mask.getLsbD 2 then some { mat := (wrapAt w 2).mat, kek := k } else o.pBk }
  let s1 := { s with p := { s.p with keys := { s.p.keys with meters := s.p.keys.meters.set m ks } } }
  cmdM s1 m (fun e => { e with pend := e.pend ||| mask.setWidth 3 })

def cancelKeys (s : State) (m : Nat) (mask : BitVec 8) : State :=
  let o := mkeysOf s m
  let ks : MKeys := { o with
    pUc := if mask.getLsbD 0 then none else o.pUc
    pAk := if mask.getLsbD 1 then none else o.pAk
    pBk := if mask.getLsbD 2 then none else o.pBk }
  let s1 := { s with p := { s.p with keys := { s.p.keys with meters := s.p.keys.meters.set m ks } } }
  cmdM s1 m (fun e => { e with pend := e.pend &&& ~~~(mask.setWidth 3) })

/-- GENERATION [3] and KEY_PEND: a pending key shows the generation it was installed with. -/
def rotateBody (s : State) (m : Nat) : Body :=
  let e := mctOf s m
  let g := fun (i : Nat) (x : BitVec 8) => (((if e.pend.getLsbD i then x + 1 else x) : BitVec 8).toNat, 1)
  [g 0 e.genUc, g 1 e.genAk, g 2 e.genBk, (e.pend.toNat, 1)]

/-- New valid keys are in the active slots: what their handles hold in quarantine returns. -/
def releaseMeterQuar (s : State) (m : Nat) : State :=
  [1, 2, 3].foldl (fun s c => releaseQuar s (mkHandle c m)) s

def keyRotate (r : Req) (m : Nat) (mask op : BitVec 8) (kek : Word32) (w : List (Option Wrapped)) (s : State) : Reply :=
  let h := mkHandle 1 m
  if mcxCount ≤ m || mask = 0 || decide (7 < mask.toNat) || decide (2 < op.toNat) || !wrapsOk mask op w then deny s .badParam
  else if s.vault.tampered then deny (tamperedFail s r h) .tampered
  else if (mctOf s m).state = .free then deny (missingFail s r h) .keyMissing
  else if (mctOf s m).state = .retired then failNamed s r h (.keyRevoked, 3)
  else if op ≠ 0 then
    if (mctOf s m).pend &&& mask.setWidth 3 ≠ mask.setWidth 3 then deny s .badParam
    else
      let s1 := if op = 1 then releaseMeterQuar (cmdM (commitKeys s m (mask.setWidth 3) none) m id) m else cancelKeys s m mask
      ⟨s1, .ok, rotateBody s1 m, []⟩
  else match useKey s r kek 5 [2] (BitVec.ofNat 16 (2 * mask.toNat)) with
    | (s1, some st) => deny s1 st
    | (s1, none) =>
      if !([0, 1, 2].all (fun i => (wrapAt w i).ok)) then deny s1 .authFail
      else match s1.keys.kek with
        | none => deny s1 .keyMissing
        | some k =>
          let s2 := installKeys s1 m mask w k
          if poolSize < poolUsed s2 then deny s1 .noResource else ⟨s2, .ok, rotateBody s2 m, []⟩

/-- KEY_ROTATE_METER. -/
def execKeyRotateMeter (r : Req) (mcx : Word32) (mask op : BitVec 8) (kek : Word32) (wUc wAk wBk : Option Wrapped) (s : State) :
    Host.Outcome State Fault Refusal :=
  finish s (gmi ciKeyRotateMeter r (keyRotate r mcx.toNat mask op kek [wUc, wAk, wBk]) s)

/-! ### Reading attributes and public keys -/

def attrBody (a : KeyAttr) : Body :=
  [(a.masters.toNat, 1), (a.worlds.toNat, 1), (a.lifecycle.toNat, 1), (a.usage.toNat, 1), (a.alg, 1), (a.generation.toNat, 1),
   (b2n a.valid + 2 * b2n a.invalidated + 4 * b2n a.publicExport + 8 * b2n a.pend, 1), (a.parentGen.toNat, 1), (a.targets.toNat, 2),
   (0, 2), (a.parent.toNat, 4)]

def ciKeyAttrGet : CmdInfo := { code := 0x0505, plain := 0x01, roles := 0x01, states := 0x0E }

/-- KEY_ATTR_GET. The attributes of a purpose KEK are stated nowhere: free values. -/
def keyAttrGet (r : Req) (h : Word32) (s : State) : Reply :=
  if hClass h = 13 && hIdx h < 7 && !s.vault.tampered && s.keys.kek.isSome then
    let f := fresh s
    ⟨f.2, .ok, [(f.1 % 2 ^ 128, 16)], []⟩
  else match namedFail s h with
    | some f => failNamed s r h f
    | none => match keyView s h with
      | some v => ⟨s, .ok, attrBody v.attr, []⟩
      | none => deny s .keyMissing

def execKeyAttrGet (r : Req) (h : Word32) (s : State) : Host.Outcome State Fault Refusal :=
  finish s (gmi ciKeyAttrGet r (keyAttrGet r h) s)

def ciKeyExportPublic : CmdInfo := { code := 0x0506, plain := 0x23, roles := 0x1F, states := 0x0E }

/-- ALG and length of the public point of a key; none for a symmetric key. -/
def pointForm : Nat → Option (Nat × Nat)
  | 3 => some (5, 65) | 4 => some (6, 97) | 5 => some (5, 65) | 6 => some (6, 97) | _ => none

def keyExportPublic (r : Req) (h : Word32) (s : State) : Reply :=
  match namedFail s h with
  | some f => failNamed s r h f
  | none => match keyView s h with
    | none => deny s .keyMissing
    | some v => match pointForm v.attr.alg with
      | some (alg, len) =>
        if v.attr.publicExport then
          let pt := if v.attr.alg ≤ 4 then Config.pubPoint v.mat else v.mat
          ⟨s, .ok, [(alg, 1), (0, 1), (len, 2), (pt, len), (0, 3)], []⟩
        else deny s .notPermitted
      | none => deny s .notPermitted

/-- KEY_EXPORT_PUBLIC. -/
def execKeyExportPublic (r : Req) (h : Word32) (s : State) : Host.Outcome State Fault Refusal :=
  finish s (gmi ciKeyExportPublic r (keyExportPublic r h) s)

/-- QUARANTINE_EXPIRY: the oldest item has been held for key.quarantine_hold_s (R172). -/
def quarantineExpiryEff (s : State) : State :=
  match s.quar with
  | q :: t =>
    if prmN s .keyQuarHold * nsPerS ≤ s.time.mc - q.2.2 then
      { s with quar := t, keys := { s.keys with quarDropped := s.keys.quarDropped + 1 } }
    else s
  | [] => s

def execQuarantineExpiry (s : State) : Host.Outcome State Fault Refusal :=
  finish s (if running s then quarantineExpiryEff s else s)

end Sys2Proof.Machine
end

