-- ==== Sys2Proof/Machine/Pipeline.lean ====
section
/-! DEFINITION. The nodes that bring a frame from its source to its content: LINK_RX to CONTEXT_UPDATE (R129, R133, R136,
R140 to R145, R175, R187, R190). -/

namespace Sys2Proof.Machine
open Sys2Proof

/-- The meter an item's line belongs to. -/
def itemLine (i : Item) : Option Nat :=
  match i.work with
  | .frame f => f.mcx
  | .ival r => some r.mcx
  | .snap m _ => some m
  | .readAdopted m _ _ _ _ => some m
  | .respread m _ _ _ => some m
  | .down d => if d.group.isSome then none else some d.mcx
  | _ => none

def noLine (_ : Item) : Option Nat := none

/-! ### Sources (R190) -/

/-- LINK_RX: an admitted frame goes on. -/
def linkRxItem (s : State) (i : Item) : NodeOut := ⟨s, [i]⟩

def execLinkRx (core : Fin 64) (s : State) : Host.Outcome State Fault Refusal :=
  finish s (if running s then nodeWork tLinkRx core.val noLine linkRxItem s else s)

/-- CELL_RX: chunks are split into one item per frame. -/
def cellRxItem (s : State) (i : Item) : NodeOut :=
  match i.work with
  | .chunk l => ⟨s, l.map (fun f => mkItem i.key (.frame f))⟩
  | _ => ⟨s, [i]⟩

def execCellRx (core : Fin 64) (s : State) : Host.Outcome State Fault Refusal :=
  finish s (if running s then nodeWork tCellRx core.val noLine cellRxItem s else s)

/-- PORT_RX: a head end's request for meter work becomes downlink work, unless the source is under pressure (R133, R200). -/
def portRxEff (port : Fin 2) (sess : Nat) (mcx : Fin 1048576) (bytes : Nat) (s : State) : State :=
  match s.mb.tls.get? sess, boundNode s tPortRx port.val with
  | some t, some x =>
    if t.port ≠ port || underPressure s x.node || !serving s then s
    else
      let s1 := { s with mb := { s.mb with tls := s.mb.tls.set sess { t with lastRecNs := s.time.mc, recvRecs := t.recvRecs + 1 } } }
      let st := (mctOf s mcx.val).state
      if st = .joined || st = .active then
        reschedule (pushAll s1 x [mkItem mcx.val (.down { mcx := mcx.val, task := .request sess, bytes := bytes })])
      else completeDown s1 mcx.val .notPermitted
  | _, _ => s

def execPortRx (port : Fin 2) (sess : Nat) (mcx : Fin 1048576) (bytes : Nat) (s : State) : Host.Outcome State Fault Refusal :=
  finish s (if running s then portRxEff port sess mcx bytes s else s)

/-! ### DEFRAG (R129, R133, R136) -/

/-- DEFRAG: the last fragment completes the frame, and its sender's context is looked up. -/
def defragItem (s : State) (i : Item) : NodeOut :=
  match i.work with
  | .frame f =>
    if !f.f.lastFragment then ⟨s, []⟩
    else match findSender s f.link f.cport f.f.sender with
      | none => ⟨unknownSender s f.link f.f.sender, []⟩
      | some m => match (mctOf s m).state with
        | .joined | .active | .suspended => ⟨s, [mkItem m (.frame { f with stage := .found, mcx := some m })]⟩
        | _ => ⟨countDrop s f.link, []⟩
  | _ => ⟨s, []⟩

def execDefrag (core : Fin 64) (s : State) : Host.Outcome State Fault Refusal :=
  finish s (if running s then nodeWork tDefrag core.val noLine defragItem s else s)

/-! ### The replay window (R140) -/

inductive WinVerdict where
  | accept | replay | stale
  deriving DecidableEq, Repr

/-- The decision of R140 on a counter. -/
def winJudge (e : Mct) (c : Nat) : WinVerdict :=
  if e.windowEmpty || e.upHigh < c then .accept
  else if e.upHigh - c ≤ 1023 then (if e.bmp.getLsbD (e.upHigh - c) then .replay else .accept)
  else .stale

/-- The window after an accepted counter. -/
def winAccept (e : Mct) (c : Nat) : Mct :=
  if e.windowEmpty then { e with upHigh := c, bmp := 1, windowEmpty := false }
  else if e.upHigh < c then { e with upHigh := c, bmp := (e.bmp <<< (c - e.upHigh)) ||| 1 }
  else { e with bmp := e.bmp ||| BitVec.ofNat 1024 (2 ^ (e.upHigh - c)) }

/-- A REPLAY or REPLAY_STALE decision is counted; the stale one is reported (R142). -/
def winRefuse (s : State) (m : Nat) (f : InFrame) (v : WinVerdict) : State :=
  match v with
  | .accept => s
  | .replay => countReplay (updM s m (fun e => { e with replayCnt := satInc 16 e.replayCnt })) f.link
  | .stale =>
    let s1 := updM s m (fun e => { e with staleCnt := satInc 16 e.staleCnt })
    emit1 s1 (alarmNow s1 (keyMcx m) (stCode .replayStale) [(f.f.counter.toNat, 4), (et64 f.rx, 8), (f.link, 2)])

/-! ### DECRYPT_VERIFY (R141, R167, R171, R175, R187) -/

/-- What STREAM needs of a meter's unicast key and authentication key to verify. -/
def ucUse : KeyReq := ⟨1, false, 1, [1, 2], 0⟩
def akUse : KeyReq := ⟨1, false, 2, [1, 2], 0⟩

/-- The first check of R167 that fails for the keys of a meter: the handle, what was asked, the failure. -/
def meterKeyFail (s : State) (e : Mct) : Option (Word32 × KeyReq × Status × Nat) :=
  match keyJudge s e.hUc ucUse with
  | some f => some (e.hUc, ucUse, f)
  | none => match keyJudge s e.hAk akUse with
    | some f => some (e.hAk, akUse, f)
    | none => none

def activeMatch (e : Mct) (f : AppFrame) : Bool := f.tagOk && f.genUc = e.genUc && f.genAk = e.genAk

/-- The set in which every pending key replaces its active key. -/
def pendMatch (e : Mct) (f : AppFrame) : Bool :=
  f.tagOk && decide (f.genUc = e.genUc + (if e.pend.getLsbD 0 then 1 else 0)) &&
  decide (f.genAk = e.genAk + (if e.pend.getLsbD 1 then 1 else 0))

/-- Load the meter's unicast and authentication keys into a lane. -/
def loadMeter (s : State) (lane m : Nat) (pend : Bool) : State :=
  let e := mctOf s m
  let k := mkeysOf s m
  let uc := if pend then (k.pUc.getD k.uc) else k.uc
  let ak := if pend then (k.pAk.getD k.ak) else k.ak
  let g := fun (i : Nat) (x : BitVec 8) => if pend && e.pend.getLsbD i then x + 1 else x
  loadKey (loadKey s false lane e.hAk (g 1 e.genAk) ak.mat) false lane e.hUc (g 0 e.genUc) uc.mat

/-- The trial under the pending set, which commits when it verifies; otherwise `no`. -/
def pendTrial (s : State) (lane m : Nat) (f : InFrame) (allowed : Bool) (no : State → NodeOut) : NodeOut :=
  let e := mctOf s m
  if allowed && e.pend ≠ 0 then
    let s1 := loadMeter s lane m true
    if pendMatch e f.f then ⟨s1, [mkItem m (.frame { f with stage := .verified, underPend := true })]⟩ else no s1
  else no s

/-- A frame that fails verification is counted; as the answer to campaign work it ends the member's campaign (R385). -/
def authFailed (s : State) (m : Nat) (f : InFrame) : State :=
  let s1 := countAuthFail s f.link
  if f.f.apdu.reply.isSome then campSecurity s1 m else s1

/-- DECRYPT_VERIFY. -/
def decryptItem (lane : Nat) (s : State) (i : Item) : NodeOut :=
  match i.work with
  | .frame f => match f.mcx with
    | none => ⟨s, []⟩
    | some m =>
      let e := mctOf s m
      if !f.f.suiteOk then ⟨authFailed s m f, []⟩
      else
        let v := winJudge e f.f.counter.toNat
        let open_ := decide (v = .accept)
        if !open_ then pendTrial s lane m f (e.pend.getLsbD 0) (fun s => ⟨winRefuse s m f v, []⟩)
        else match meterKeyFail s e with
          | some (h, q, fl) =>
            let s1 := keyFail s h q fl
            pendTrial s1 lane m f true (fun s =>
              if fl.1 = .keyRevoked then ⟨quarantine s f h, []⟩ else ⟨authFailed s m f, []⟩)
          | none =>
            let s1 := loadMeter s lane m false
            if activeMatch e f.f then ⟨s1, [mkItem m (.frame { f with stage := .verified, underPend := false })]⟩
            else pendTrial s1 lane m f true (fun s => ⟨authFailed s m f, []⟩)
  | _ => ⟨s, []⟩

def execDecryptVerify (core : Fin 64) (lane : Fin 16) (s : State) : Host.Outcome State Fault Refusal :=
  finish s (if running s && !s.pair.withdrawn.contains lane.val then nodeWork tDecrypt core.val itemLine (decryptItem lane.val) s else s)

/-! ### REPLAY_CHECK (R141, R144, R145, R175) -/

/-- A frame is committed: JOINED becomes ACTIVE (R132). -/
def commitFrame (s : State) (m : Nat) (f : InFrame) : NodeOut :=
  let s1 := addJournal (updM s m (fun e => if e.state = .joined then setSt s e .active else e)) 64
  let s2 := counterCheck s1 m
  if (mctOf s2 m).state = .suspended then ⟨s2, []⟩
  else ⟨s2, [mkItem m (.frame { f with stage := .committed })]⟩

/-- REPLAY_CHECK: one test-and-set, and the commit of a rotation by the first frame under the pending set. -/
def replayItem (s : State) (i : Item) : NodeOut :=
  match i.work with
  | .frame f => match f.mcx with
    | none => ⟨s, []⟩
    | some m =>
      let e := mctOf s m
      let c := f.f.counter.toNat
      if f.underPend && e.pend ≠ 0 && e.pend.getLsbD 0 then
        commitFrame (releaseMeterQuar (commitKeys s m 7 (some c)) m) m f
      else if !f.underPend && decide (f.f.genUc ≠ e.genUc) then ⟨countAuthFail s f.link, []⟩
      else match winJudge e c with
        | .accept =>
          let s1 := updM s m (fun e => winAccept e c)
          let s2 := if f.underPend && e.pend ≠ 0 then releaseMeterQuar (commitKeys s1 m 7 (some c)) m else s1
          commitFrame s2 m f
        | v => ⟨winRefuse s m f v, []⟩
  | _ => ⟨s, []⟩

def execReplayCheck (core : Fin 64) (s : State) : Host.Outcome State Fault Refusal :=
  finish s (if running s then nodeWork tReplay core.val itemLine replayItem s else s)

/-! ### PARSE_APDU and CONTEXT_UPDATE (R150, R190, R491) -/

/-- A meter event goes to ALARM, and to the meter's suspicion entry. -/
def meterEvent (m rx : Nat) (s : State) (ev : BitVec 8 × Nat) : State :=
  let s1 := emit1 s (.alarm ⟨keyMcx m, ev.2 + s.time.utcOffset * nsPerS, 0x8200 + ev.1.toNat, []⟩)
  hookMeterEvent s1 m ev.1.toNat rx

/-- PARSE_APDU: events go to ALARM; the content goes on. -/
def parseItem (s : State) (i : Item) : NodeOut :=
  match i.work with
  | .frame f => match f.mcx with
    | none => ⟨s, []⟩
    | some m => ⟨f.f.apdu.events.foldl (meterEvent m f.rx) s, [mkItem m (.frame { f with stage := .parsed })]⟩
  | _ => ⟨s, []⟩

def execParseApdu (core : Fin 64) (s : State) : Host.Outcome State Fault Refusal :=
  finish s (if running s then nodeWork tParse core.val noLine parseItem s else s)

/-- CONTEXT_UPDATE: LAST_RX, the session slot's traffic, a DLMS release. -/
def contextItem (s : State) (i : Item) : NodeOut :=
  match i.work with
  | .frame f => match f.mcx with
    | none => ⟨s, []⟩
    | some m =>
      let s1 := updM s m (fun e => { e with lastRx := max e.lastRx f.rx })
      let s2 := match (mctOf s1 m).session with
        | some k => { s1 with ctx := { s1.ctx with sess := s1.ctx.sess.modify k (fun x => { x with lastTraffic := s1.time.mc }) } }
        | none => s1
      ⟨if f.f.apdu.release then closeSession s2 m else s2, [i]⟩
  | _ => ⟨s, []⟩

def execContextUpdate (core : Fin 64) (s : State) : Host.Outcome State Fault Refusal :=
  finish s (if running s then nodeWork tCtxUpdate core.val itemLine contextItem s else s)

end Sys2Proof.Machine
end

