-- ==== Sys2Proof/Machine/Validate.lean ====
section
/-! DEFINITION. Validation and estimation (R208 to R234). -/

namespace Sys2Proof.Machine
open Sys2Proof

/-! ### Class tables and interval length (R209, R212) -/

def classOf (s : State) (c : Nat) : ClassTable := (s.p.rules.getD c (0, {})).2

def lenOfCode (k : Nat) : Nat := nth [60, 300, 600, 900, 1800, 3600] k

/-- The interval length of a class in seconds. -/
def lenOf (t : ClassTable) : Nat := max 60 (lenOfCode t.interval)

def checkOn (t : ClassTable) (i : Nat) : Bool := t.checks.getLsbD i

/-- Bring a meter to its class's present interval length, before any other work on it (R212). -/
def relen (s : State) (m : Nat) : State :=
  let e := mctOf s m
  let l := lenOf (classOf s e.cls)
  if e.val.prevL = l then s
  else if e.val.prevL = 0 then updM s m (fun e => { e with val := { e.val with prevL := l } })
  else updM s m (fun e => { e with
    lastEnd := if e.lastEnd = 0 then 0 else endAt s l (endIdx s l e.lastEnd)
    val := { e.val with
      prevL := l, present := 0, est := 0, mean := 0, var := 0, statN := 0, zeroRun := 0, sumEst := true } })

/-! ### The estimate ledger (R228) -/

def ledgerMax : Nat := 4194304

def ledgerLive (s : State) (x : LedgerEnt) : Bool := decide (etNs s < x.endNs + prmN s .valLedgerDays * dayNs)

def ledgerFind (s : State) (m endNs : Nat) : Option LedgerEnt :=
  s.p.ledger.find? (fun x => x.mcx = m && x.endNs = endNs && ledgerLive s x)

def ledgerErase (s : State) (m endNs : Nat) : State :=
  { s with p := { s.p with ledger := s.p.ledger.filter (fun x => !(x.mcx = m && x.endNs = endNs)) } }

/-- The entry with the oldest END. -/
def oldestEnt : List LedgerEnt → Option LedgerEnt
  | [] => none
  | x :: t => match oldestEnt t with
    | some y => if x.endNs ≤ y.endNs then some x else some y
    | none => some x

/-- Write an entry; a full ledger loses its oldest. -/
def ledgerPut (s : State) (x : LedgerEnt) : State :=
  let l := (s.p.ledger.filter (fun y => !(y.mcx = x.mcx && y.endNs = x.endNs)))
  if l.length < ledgerMax then { s with p := { s.p with ledger := l ++ [x] } }
  else match oldestEnt l with
    | some o => { s with
        p := { s.p with ledger := l.filter (fun y => y ≠ o) ++ [x] }
        val := { s.val with evicted := s.val.evicted + 1 } }
    | none => s

/-! ### Records (R213 to R215) -/

def qSub (a b : Qty4) : Qty4 := ⟨a.ap - b.ap, a.an - b.an, a.rp - b.rp, a.rn - b.rn⟩

/-- QUALITY of measured data: VALID or SUSPECT, LATE, CLOCK_ADJUSTED. -/
def measQuality (checks : BitVec 8) (late adjusted : Bool) : BitVec 8 :=
  (if checks = 0 then 1 else 8) ||| (if late then 16 else 0) ||| (if adjusted then 32 else 0)

/-- QUALITY of an estimate: ESTIMATED and GAP, EDITED when it supersedes one. -/
def estQuality (edited : Bool) : BitVec 8 := if edited then 0x46 else 0x42

def estRecord (s : State) (m : Nat) (kind endNs : Nat) (method : Nat) (checks : BitVec 8) (vals delta : Qty4) : IRec :=
  { mcx := m, icode := (classOf s (mctOf s m).cls).interval, endNs := endNs, quality := estQuality (kind = 2), kind := kind
    method := method, checks := checks, vals := vals, delta := delta, tick := s.vault.tick, cls := (mctOf s m).cls }

/-- The record of an interval under quality rules, as an item of its meter. -/
def recItem (r : IRec) : Item := mkItem r.mcx (.ival r)

/-! ### Class profiles (R227) -/

/-- The hour of the week, from Monday 00:00, in which an instant lies in Calendar Time of a calendar. -/
def hourOfWeek (s : State) (cal et : Nat) : Nat :=
  let f := match partAt (calOf s cal) et with
    | some p => localAt s p.body et
    | none => utcOf s et
  (weekdayOf (f / dayNs) - 1) * 24 + f % dayNs / (3600 * nsPerS)

def profOf (s : State) (node cls : Nat) : Option Profile := s.p.profiles.find? (fun p => p.node = node && p.cls = cls)

/-- One quantity of a slot moves toward a record with weight 1/16. -/
def toward (old new : Int) : Int := old + openDivI .profile (new - old) 16

/-- A VALID record updates its slot: values per meter-hour. -/
def profileUpdate (s : State) (m endNs : Nat) (l : Nat) (v : Qty4) : State :=
  let e := mctOf s m
  let h := hourOfWeek s e.cal (endNs - l * nsPerS)
  let per := fun (x : Int) => openDivI .profile (x * 3600) l
  let n : Qty4 := ⟨per v.ap, per v.an, per v.rp, per v.rn⟩
  let upd := fun (p : Profile) =>
    let k := p.slots.getD h {}
    let vals : Qty4 := if k.n = 0 then n else ⟨toward k.vals.ap n.ap, toward k.vals.an n.an, toward k.vals.rp n.rp, toward k.vals.rn n.rn⟩
    { p with slots := p.slots.set h { vals := vals, n := satInc 8 k.n } }
  match profOf s e.topoNode e.cls with
  | some _ => { s with p := { s.p with profiles := s.p.profiles.map (fun p => if p.node = e.topoNode && p.cls = e.cls then upd p else p) } }
  | none =>
    if s.p.profiles.length < 16384 then
      { s with p := { s.p with profiles := s.p.profiles ++ [upd { node := e.topoNode, cls := e.cls }] } }
    else s

/-! ### Clock skew (R217) -/

/-- What R217 makes of an APDU: the state, and the skew in ms that corrects its ENDs. -/
def skewOf (s : State) (m : Nat) (f : InFrame) : State × Option Int :=
  let e := mctOf s m
  let t := classOf s e.cls
  if !checkOn t 5 then (s, none)
  else
    let change := fun (s : State) (ms : Int) (skewed : Bool) =>
      let was := (mctOf s m).val.skewed
      let s1 := updM s m (fun e => { e with val := { e.val with skewMs := ms, skewed := skewed } })
      if was = skewed then s1 else emit1 s1 (alarmNow s1 (keyMcx m) evClockSkew [])
    match (if f.unsynced || f.timeInvalid then none else f.f.apdu.send) with
    | some (lcl, dev) =>
      let et := etOfUtcNow s (lcl + (dev.getD 0) * 60 * (nsPerS : Int))
      let ms := openDivI .skew (et - (f.rx : Int)) 1000000
      let skewed := decide ((t.skewLimitMs : Int) < ms) || decide (ms < -((t.skewLimitMs : Int) + t.transitMs)) || f.f.apdu.clockInvalid
      (change s ms skewed, if skewed then some ms else none)
    | none =>
      let skewed := e.val.skewed || f.f.apdu.clockInvalid
      let s1 := if f.f.apdu.clockInvalid && !(f.unsynced || f.timeInvalid) then change s e.val.skewMs true else s
      (s1, if skewed then some e.val.skewMs else none)

/-! ### Checks on an interval (R220 to R222) -/

/-- A+ exceeds MEAN + (k/4)·√VAR, decided without the root. MEAN counts 1/16 Wh. -/
def spikes (v : ValField) (kx4 : Nat) (ap : Int) : Bool :=
  let d := 16 * ap - (v.mean : Int)
  decide (0 < d) && decide ((16 * kx4 * kx4 * v.var : Int) < d * d)

/-- The checks of one interval: the state and CHECKS. -/
def ivalChecks (s : State) (m endNs : Nat) (v : Qty4) (vMean : Option Nat) : State × BitVec 8 × Nat :=
  let e := mctOf s m
  let t := classOf s e.cls
  let rev := checkOn t 4 && decide ((t.reverseWh : Int) < v.an)
  let s1 := if !checkOn t 4 then s
    else
      let s0 := updM s m (fun e => { e with val := { e.val with reverseRun := rev } })
      if rev && !e.val.reverseRun then emit1 s0 (alarmNow s0 (keyMcx m) evReverseFlow []) else s0
  let spk := checkOn t 2 && decide (t.spikeMinN ≤ e.val.statN) && spikes e.val t.spikeKx4 v.ap && decide ((t.spikeMinWh : Int) < v.ap)
  let volt := match vMean with | some x => some x | none => hookVolt s m endNs (lenOf t)
  let z := match volt with
    | none => (s1, false)
    | some x =>
      if !checkOn t 3 then (s1, false)
      else
        let run := if v.ap = 0 && v.an = 0 && t.zeroV ≤ x then satInc 16 e.val.zeroRun else 0
        let s2 := updM s1 m (fun e => { e with val := { e.val with zeroRun := run } })
        (if run = t.zeroRun then emit1 s2 (alarmNow s2 (keyMcx m) evZeroVoltage []) else s2, decide (t.zeroRun ≤ run))
  let bits : BitVec 8 := (if spk then 1 else 0) ||| (if z.2 then 2 else 0) ||| (if rev then 4 else 0)
  (z.1, bits, volt.getD 0)

/-- A VALID record that is not LATE updates the rolling statistics with weight 1/32 (R221). -/
def statUpdate (v : ValField) (ap : Int) : ValField :=
  let d := 16 * ap - (v.mean : Int)
  let mean := ((v.mean : Int) + openDivI .mean d 32).toNat
  let var := openDiv .variance (31 * (v.var * 8192 + d.natAbs * d.natAbs)) 262144
  { v with mean := mean, var := min var (2 ^ 32 - 1), statN := satInc 8 v.statN }

/-- Measured data of an interval after LAST_READ counts in the sums of the span (R211). -/
def sumUpdate (e : Mct) (endNs : Nat) (v : Qty4) (suspect : Bool) : Mct :=
  if endNs ≤ e.lastRead then e
  else { e with val := { e.val with
    sumAp := e.val.sumAp + v.ap.toNat, sumAn := satAdd 16 e.val.sumAn v.an.toNat, sumN := satInc 8 e.val.sumN
    sumEst := e.val.sumEst || suspect } }

/-! ### Placement (R218, R219, R230) -/

/-- Where an END lies against ANCHOR. -/
inductive Place where
  | after (d : Nat)
  | inside (i : Nat)
  | before
  deriving DecidableEq, Repr

def placeOf (s : State) (e : Mct) (l endNs : Nat) : Place :=
  if e.lastEnd = 0 then .after 64
  else
    let a := endIdx s l e.lastEnd
    let k := endIdx s l endNs
    if a < k then .after (k - a) else if a - k < 64 then .inside (a - k) else .before

def bit64 (i : Nat) : BitVec 64 := BitVec.ofNat 64 (2 ^ i)

/-- Move the bitmaps up and set one of the two bits of the new ANCHOR. -/
def advanceTo (e : Mct) (d endNs : Nat) (measured : Bool) : Mct :=
  { e with lastEnd := endNs, val := { e.val with
      present := (e.val.present <<< d) ||| (if measured then 1 else 0)
      est := (e.val.est <<< d) ||| (if measured then 0 else 1) } }

/-- Set PRESENT at a place of the horizon and clear EST. -/
def markPresent (e : Mct) (i : Nat) : Mct :=
  { e with val := { e.val with present := e.val.present ||| bit64 i, est := e.val.est &&& ~~~bit64 i } }

/-- The record an accepted interval makes: the state, and the items that leave. -/
def placed (s : State) (m : Nat) (l endNs : Nat) (iv : IntervalIn) (skew : Option Int) (kind : Nat) (late : Bool)
    (old : Option LedgerEnt) : NodeOut :=
  let c := ivalChecks s m endNs iv.vals iv.vMean
  let t := classOf s (mctOf s m).cls
  let q := measQuality c.2.1 late skew.isSome
  let delta := if kind = 3 then {} else match old with | some x => qSub iv.vals x.vals | none => iv.vals
  let r : IRec := {
    mcx := m, icode := t.interval, endNs := endNs, quality := q, kind := kind, checks := c.2.1, vals := iv.vals, delta := delta
    vMean := c.2.2, skewMs := skew.getD 0, tick := s.vault.tick, cls := (mctOf s m).cls
    vOwn := iv.vMean.isSome }
  let s1 := updM c.1 m (fun e =>
    let e1 := sumUpdate e endNs iv.vals (decide (c.2.1 ≠ 0))
    let v := if c.2.1 = 0 && !late then statUpdate e1.val iv.vals.ap else e1.val
    { e1 with val := { v with abandoned := false, lastMeas := max v.lastMeas endNs } })
  let s2 := if c.2.1 = 0 then profileUpdate s1 m endNs l iv.vals else s1
  let s2 := hookRecord s2 r
  match old with
  | some x =>
    let s3 := ledgerErase s2 m endNs
    ⟨s3, [recItem r] ++ (if x.method = 1 then [mkItem m (.respread m x.span iv.vals x.vals)] else [])⟩
  | none => ⟨s2, [recItem r]⟩

/-- Place one interval whose END is settled. -/
def placeIval (s : State) (m l endNs : Nat) (iv : IntervalIn) (skew : Option Int) : NodeOut :=
  let e := mctOf s m
  let t := classOf s e.cls
  let late := decide (endNs + t.gapWait * l * nsPerS < etNs s)
  let unmatched := fun (s : State) => { s with val := { s.val with unmatched := s.val.unmatched + 1 } }
  match placeOf s e l endNs with
  | .after d => placed (updM s m (fun e => advanceTo e d endNs true)) m l endNs iv skew 0 late none
  | .inside i =>
    if e.val.present.getLsbD i then ⟨{ s with val := { s.val with duplicates := s.val.duplicates + 1 } }, []⟩
    else
      let s1 := updM s m (fun e => markPresent e i)
      if e.val.est.getLsbD i then
        match ledgerFind s m endNs with
        | some x => placed s1 m l endNs iv skew 2 true (some x)
        | none => placed (unmatched s1) m l endNs iv skew 3 true none
      else placed s1 m l endNs iv skew 0 late none
  | .before =>
    match ledgerFind s m endNs with
    | some x => placed s m l endNs iv skew 2 true (some x)
    | none => placed (unmatched s) m l endNs iv skew 3 true none

/-- The END of an interval as a correction leaves it. -/
def correctedEnd (s : State) (l : Nat) (iv : IntervalIn) (skew : Option Int) : Nat :=
  let et := etOfUtcNow s iv.endUtc
  match skew with
  | some ms => nearestEnd s l (et - ms * 1000000)
  | none => et.toNat

/-- R218 refuses an interval. -/
def ivalRefused (s : State) (l rx endNs : Nat) (iv : IntervalIn) : Bool :=
  decide (rx + l * nsPerS < endNs) || iv.lenS ≠ l || !isEnd s l endNs

def insIval (e : Nat × IntervalIn) : List (Nat × IntervalIn) → List (Nat × IntervalIn)
  | [] => [e]
  | x :: t => if e.1 ≤ x.1 then e :: x :: t else x :: insIval e t

/-! ### Register reads (R223, R224) -/

/-- The advance of one register, or none where it has fallen and no rollover explains it. -/
def regAdvance (t : ClassTable) (old new : Int) (dtNs : Int) : Option Int :=
  if old ≤ new then some (new - old)
  else if t.regDigits ≠ 0 then
    let adv := (10 ^ t.regDigits : Int) - old + new
    if adv * 3600 * (nsPerS : Int) ≤ t.maxRateW * dtNs then some adv else none
  else none

def sumFails (t : ClassTable) (delta sum : Int) : Bool :=
  decide ((max ((t.sumTolWh : Int) * 1000) (t.sumTolPpt * delta)) < 1000 * ((delta - sum).natAbs : Int))

/-- One register read. -/
def readReg (s : State) (m : Nat) (rd : ReadIn) : NodeOut :=
  let e := mctOf s m
  let t := classOf s e.cls
  let at_ := (etOfUtcNow s rd.captureUtc).toNat
  let dt := (at_ : Int) - e.lastRead
  let adv := fun (a b : Int) => if checkOn t 0 then regAdvance t a b dt else some (b - a)
  if e.lastRead = 0 then
    ⟨updM s m (fun e => { e with lastRegs := rd.regs, lastRead := at_, val := { e.val with sumAp := 0, sumAn := 0, sumN := 0, sumEst := false } }), []⟩
  else match adv e.lastRegs.ap rd.regs.ap, adv e.lastRegs.an rd.regs.an, adv e.lastRegs.rp rd.regs.rp, adv e.lastRegs.rn rd.regs.rn with
    | some ap, some an, some _, some _ =>
      let l := lenOf t
      let n := endIdx s l at_ - endIdx s l e.lastRead
      let sumApplies := checkOn t 1 && !e.val.sumEst && e.val.sumN = n && 0 < n
      let bad := sumApplies && (sumFails t ap e.val.sumAp || sumFails t an e.val.sumAn)
      let s1 := if bad then emit1 s (alarmNow s (keyMcx m) evSumMismatch
          [(et64 e.lastRead, 8), (et64 at_, 8), (encS 4 (ap - e.val.sumAp), 4), (encS 4 (an - e.val.sumAn), 4)]) else s
      let s2 := updM s1 m (fun e => { e with
        lastRegs := rd.regs, lastRead := at_, val := { e.val with sumAp := 0, sumAn := 0, sumN := 0, sumEst := false } })
      ⟨s2, [mkItem m (.readAdopted m e.lastRead at_ (ap - e.val.sumAp) (an - e.val.sumAn))]⟩
    | _, _, _, _ => ⟨emit1 s (alarmNow s (keyMcx m) evRegisterDecrease []), []⟩

def insRead (r : ReadIn) : List ReadIn → List ReadIn
  | [] => [r]
  | x :: t => if r.captureUtc ≤ x.captureUtc then r :: x :: t else x :: insRead r t

/-! ### VALIDATE (R216) -/

/-- The reported power failures of an APDU, kept for the demand windows they lie in (R250). -/
def notePowerFails (s : State) (m : Nat) (l : List Nat) : State :=
  if l.isEmpty then s
  else
    let b := s.p.bill.brt.getD m {}
    { s with p := { s.p with bill := { s.p.bill with
        brt := s.p.bill.brt.set m { b with powerFails := b.powerFails ++ l.map (fun (u : Nat) => (etOfUtcNow s (u : Int)).toNat) } } } }

/-- One APDU: clock skew, intervals in ascending END, register reads in ascending capture time. -/
def validateItem (s : State) (i : Item) : NodeOut :=
  match i.work with
  | .frame f => match f.mcx with
    | none => ⟨s, []⟩
    | some m =>
      let s0 := notePowerFails (relen s m) m f.f.apdu.powerFails
      let k := skewOf s0 m f
      let l := lenOf (classOf s0 (mctOf s0 m).cls)
      let ivs := f.f.apdu.intervals.foldl (fun a iv => insIval (correctedEnd k.1 l iv k.2, iv) a) []
      let o := ivs.foldl (fun (a : NodeOut × Bool) e =>
        if ivalRefused a.1.s l f.rx e.1 e.2 then
          (⟨{ a.1.s with val := { a.1.s.val with refused := a.1.s.val.refused + 1 } }, a.1.outs⟩, true)
        else
          let p := placeIval a.1.s m l e.1 e.2 k.2
          (⟨p.s, a.1.outs ++ p.outs⟩, a.2)) (⟨k.1, []⟩, false)
      let rds := f.f.apdu.reads.foldl (fun a r => insRead r a) []
      let o2 := rds.foldl (fun (a : NodeOut) r => let p := readReg a.s m r; ⟨p.s, a.outs ++ p.outs⟩) o.1
      let s3 := addJournal o2.s (64 * o2.outs.length)
      ⟨if o.2 then emit1 s3 (alarmNow s3 (keyMcx m) evIntervalRefused []) else s3, o2.outs⟩
  | _ => ⟨s, []⟩

def execValidate (core : Fin 64) (s : State) : Host.Outcome State Fault Refusal :=
  finish s (if running s then nodeWork tValidate core.val itemLine validateItem s else s)

/-! ### Estimates at sweep time (R225, R226) -/

/-- The clamped ratio k of R226 as a fraction. -/
def kRatio (s : State) (e : Mct) (p : Profile) : Option (Nat × Nat) :=
  let sum := (p.slots.map (fun x => x.2.vals.ap.toNat)).sum
  let l := lenOf (classOf s e.cls)
  if sum = 0 then none
  else if e.val.statN < 8 then some (1, 1)
  else
    let num := e.val.mean * 168 * 3600
    let den := 16 * sum * l
    if num * 10 < den then some (1, 10) else if 10 * den < num then some (10, 1) else some (num, den)

/-- The values and METHOD of an estimate made at sweep time. -/
def sweepValues (s : State) (m endNs : Nat) : Qty4 × Nat :=
  let e := mctOf s m
  let t := classOf s e.cls
  let l := lenOf t
  let byProfile : Option Qty4 :=
    if !t.profile then none
    else match profOf s e.topoNode e.cls with
      | none => none
      | some p =>
        let k := p.slots.getD (hourOfWeek s e.cal (endNs - l * nsPerS)) {}
        if k.n < 8 then none
        else match kRatio s e p with
          | none => none
          | some (num, den) =>
            let v := fun (x : Int) => ((roundDiv (x.toNat * l * num) (3600 * den) : Nat) : Int)
            some ⟨v k.vals.ap, v k.vals.an, v k.vals.rp, v k.vals.rn⟩
  match byProfile with
  | some q => (q, 2)
  | none => if t.meanFallback && 8 ≤ e.val.statN then (⟨(roundDiv e.val.mean 16 : Nat), 0, 0, 0⟩, 3) else ({}, 0)

/-- One estimate: its record and its ledger entry. -/
def estimateAt (s : State) (m endNs : Nat) : NodeOut :=
  let v := sweepValues s m endNs
  let r := estRecord s m 1 endNs v.2 0 v.1 v.1
  let s1 := ledgerPut s { mcx := m, endNs := endNs, vals := v.1, method := v.2 }
  let s2 := updM s1 m (fun e => if e.lastRead < endNs then { e with val := { e.val with sumEst := true } } else e)
  ⟨s2, [recItem r]⟩

/-- The open gap would exceed val.est_open_max_h. -/
def gapTooLong (s : State) (e : Mct) (endNs : Nat) : Bool :=
  e.val.lastMeas ≠ 0 && decide (e.val.lastMeas + prmN s .valEstOpenMax * 3600 * nsPerS < endNs)

/-- Estimate every end after ANCHOR up to an end, or abandon the meter. -/
def estimateOn (s : State) (m l toIdx : Nat) : Nat → NodeOut
  | 0 => ⟨s, []⟩
  | n + 1 =>
    let e := mctOf s m
    let k := endIdx s l e.lastEnd + 1
    if toIdx < k || e.val.abandoned then ⟨s, []⟩
    else
      let t := endAt s l k
      if gapTooLong s e t then
        let s1 := updM s m (fun e => { e with val := { e.val with abandoned := true } })
        ⟨emit1 s1 (alarmNow s1 (keyMcx m) evGapAbandoned []), []⟩
      else
        let o := estimateAt (updM s m (fun e => advanceTo e 1 t false)) m t
        let r := estimateOn o.s m l toIdx n
        ⟨r.s, o.outs ++ r.outs⟩

/-- Ends of the horizon up to an end with neither bit set, oldest first. -/
def openEnds (s : State) (e : Mct) (l toIdx : Nat) : List (Nat × Nat) :=
  let a := endIdx s l e.lastEnd
  ((List.range 64).reverse.filter (fun i => decide (i ≤ a) && decide (a - i ≤ toIdx) &&
    !e.val.present.getLsbD i && !e.val.est.getLsbD i)).map (fun i => (i, endAt s l (a - i)))

/-- What a sweep for an end does at one context. -/
def sweepMeter (s0 : State) (m l endNs : Nat) : NodeOut :=
  let s := relen s0 m
  let e := mctOf s m
  let k := endIdx s l endNs
  if e.lastEnd = 0 || e.val.abandoned then ⟨s, []⟩
  else if e.lastEnd < endNs then estimateOn s m l k (k - endIdx s l e.lastEnd)
  else (openEnds s e l k).foldl (fun (a : NodeOut) x =>
    let s1 := updM a.s m (fun e => { e with val := { e.val with est := e.val.est ||| bit64 x.1 } })
    let o := estimateAt s1 m x.2
    ⟨o.s, a.outs ++ o.outs⟩) ⟨s, []⟩

/-- The sweep considers this context. -/
def sweepTakes (s : State) (w : Sweep) (m : Nat) : Bool :=
  let e := mctOf s m
  let t := classOf s e.cls
  e.state = .active && lenOf t = w.lenS && t.gapWait = w.gapWait

/-- GAP_SWEEP: the oldest sweep visits contexts in ascending MCX, as many as the Tick still allows (R225). -/
def gapSweepEff (s : State) : State :=
  match s.val.sweeps with
  | [] => s
  | w :: rest =>
    let todo := (s.p.mct.filter (fun e => decide (w.nextMcx ≤ e.1))).map Prod.fst
    let room := prmN s .valSweepPerTick - s.val.swept
    let now := todo.take room
    let o := now.foldl (fun (a : NodeOut) m =>
      if sweepTakes a.s w m && (a.s.flow.cores.all (fun r => !r.2.locks.contains m)) then
        let p := sweepMeter a.s m w.lenS w.endNs
        ⟨p.s, a.outs ++ p.outs⟩
      else a) ⟨s, []⟩
    let left := todo.drop room
    let sweeps := match left with
      | m :: _ => { w with nextMcx := m } :: rest
      | [] => rest
    let s1 := pushFrom o.s tEstimate o.outs
    addJournal { s1 with val := { s1.val with sweeps := sweeps, swept := s1.val.swept + now.length } } (64 * o.outs.length)

def execGapSweep (s : State) : Host.Outcome State Fault Refusal :=
  finish s (if running s && serving s then gapSweepEff s else s)

/-! ### ESTIMATE (R229, R230) -/

def insEnt (x : LedgerEnt) : List LedgerEnt → List LedgerEnt
  | [] => [x]
  | y :: t => if x.endNs ≤ y.endNs then x :: y :: t else y :: insEnt x t

/-- Split estimates, ascending, into runs of consecutive ends. -/
def runsOf (s : State) (l : Nat) : List LedgerEnt → List (List LedgerEnt)
  | [] => []
  | x :: t => match runsOf s l t with
    | (y :: r) :: rest => if endIdx s l y.endNs = endIdx s l x.endNs + 1 then (x :: y :: r) :: rest else [x] :: (y :: r) :: rest
    | rest => [x] :: rest

/-- Shares of a total among `n`: rounded down, the remainder to the last; a negative total gives zeros and is clamped. -/
def shares (total : Int) (n : Nat) : List Int × Bool :=
  if total < 0 then (List.replicate n 0, true)
  else
    let q := total / (max 1 n : Nat)
    ((List.range n).map (fun i => if i + 1 = n then total - q * (n - 1 : Nat) else q), false)

/-- Give estimates new A+ and A− values: their REPLACEMENT records, and the ledger. -/
def giveShares (s : State) (m span : Nat) (l : List LedgerEnt) (ap an : List Int × Bool) : NodeOut :=
  let checks : BitVec 8 := if ap.2 || an.2 then 8 else 0
  (l.zip (ap.1.zip an.1)).foldl (fun (a : NodeOut) e =>
    let v : Qty4 := ⟨e.2.1, e.2.2, e.1.vals.rp, e.1.vals.rn⟩
    let r := estRecord a.s m 2 e.1.endNs 1 checks v (qSub v e.1.vals)
    ⟨ledgerPut a.s { e.1 with vals := v, method := 1, span := span }, a.outs ++ [recItem r]⟩) ⟨s, []⟩

/-- A register read was adopted: interpolate the short runs of estimates in its span (R229). -/
def interpolate (s : State) (m prev new : Nat) (restAp restAn : Int) : NodeOut :=
  let t := classOf s (mctOf s m).cls
  let l := lenOf t
  let ents := (s.p.ledger.filter (fun x => x.mcx = m && prev < x.endNs && x.endNs ≤ new && ledgerLive s x)).foldl (fun a x => insEnt x a) []
  let runs := runsOf s l ents
  let short := (runs.filter (fun r => r.length ≤ t.interpMax)).flatten
  let long := (runs.filter (fun r => t.interpMax < r.length)).flatten
  let ap := restAp - (long.map (fun x => x.vals.ap)).sum
  let an := restAn - (long.map (fun x => x.vals.an)).sum
  giveShares s m (prev / nsPerS % 65536) short (shares ap short.length) (shares an short.length)

/-- Re-spread the remaining estimates of an interpolation over what a late measured interval leaves (R230). -/
def respread (s : State) (m span : Nat) (meas est : Qty4) : NodeOut :=
  let l := (s.p.ledger.filter (fun x => x.mcx = m && x.method = 1 && x.span = span && ledgerLive s x)).foldl (fun a x => insEnt x a) []
  let ap := (l.map (fun x => x.vals.ap)).sum + est.ap - meas.ap
  let an := (l.map (fun x => x.vals.an)).sum + est.an - meas.an
  giveShares s m span l (shares ap l.length) (shares an l.length)

/-- ESTIMATE: interpolations and re-spreads. Records of others pass through. -/
def estimateItem (s : State) (i : Item) : NodeOut :=
  match i.work with
  | .readAdopted m prev new ap an => interpolate (relen s m) m prev new ap an
  | .respread m span meas est => respread (relen s m) m span meas est
  | _ => ⟨s, [i]⟩

def execEstimate (core : Fin 64) (s : State) : Host.Outcome State Fault Refusal :=
  finish s (if running s then nodeWork tEstimate core.val itemLine estimateItem s else s)

end Sys2Proof.Machine
end

