-- ==== Sys2Proof/Machine/Billing.lean ====
section
/-! DEFINITION. Billing: posting, demand, period closes, the close sweep, calendars and the access table (R235 to R268). -/

namespace Sys2Proof.Machine
open Sys2Proof

def brtOf (s : State) (m : Nat) : Brt := s.p.bill.brt.getD m {}

/-- A changed entry is journalled with the Tick (R260). -/
def brtSet (s : State) (m : Nat) (b : Brt) : State :=
  addJournal { s with
    p := { s.p with bill := { s.p.bill with brt := s.p.bill.brt.set m b } }
    bill := { s.bill with touched := if s.bill.touched.contains m then s.bill.touched else m :: s.bill.touched } } 64

def calIdOf (s : State) (m : Nat) : Nat := (mctOf s m).cal

/-! ### Demand (R249 to R251) -/

/-- Interval lengths a method serves. -/
def served (method lenS : Nat) : Bool :=
  match method with
  | 1 => [60, 300, 900].contains lenS
  | 2 => [60, 300, 600, 900, 1800].contains lenS
  | 3 => [60, 300].contains lenS
  | _ => false

/-- The distance of window ends, and the length of a window, in ns. -/
def winStep (method : Nat) : Nat := (if method = 1 then 900 else if method = 2 then 1800 else 300) * nsPerS

def winSpan (method : Nat) : Nat := (if method = 2 then 1800 else 900) * nsPerS

def winFactor (method : Nat) : Nat := if method = 2 then 2 else 4

/-- The method that serves a meter at an instant; 0 where none does. -/
def methodAt (s : State) (m x : Nat) : Nat :=
  match partAt (calOf s (calIdOf s m)) x with
  | some p => if served p.body.demand (lenOf (classOf s (mctOf s m).cls)) then p.body.demand else 0
  | none => 0

/-- The first multiple of a window length from local midnight, at or after an instant. -/
def alignedEnd (s : State) (c w x : Nat) : Nat :=
  match partAt (calOf s c) (x - 1) with
  | some p => etOfUtc s (utcOf s (x - 1) + (w - localAt s p.body (x - 1) % w))
  | none => x

def setAt {α : Type} : List α → Nat → α → List α
  | [], _, _ => []
  | _ :: t, 0, v => v :: t
  | a :: t, n + 1, v => a :: setAt t n v

/-- Complete the open window, at its end or, cut, at the instant of a change (R249, R250). -/
def completeWindow (s : State) (m : Nat) (b : Brt) (endNs : Nat) (cut : Bool) : Brt :=
  let span := winSpan b.method
  let subs := if b.method = 3 then b.sub else b.sub.take 1
  let v := winFactor b.method * (subs.map SubInt.sum).sum
  let n := (subs.map SubInt.n).sum
  let start := b.demandEnd - span
  let part := cut || b.demandPartial || decide (n * b.lenS * nsPerS < span) || subs.any SubInt.est ||
    b.powerFails.any (fun t => decide (start ≤ t) && decide (t < endNs))
  let r := rateBefore s (calIdOf s m) endNs - 1
  let md := (b.md[r]?).getD {}
  let b1 := { b with demandPartial := false, powerFails := b.powerFails.filter (fun t => decide (endNs ≤ t + span)) }
  if md.value < v then { b1 with md := setAt b.md r { value := v, isPartial := part, capture := endNs } } else b1

/-- No window is open: demand is kept again from the next record whose window the calendar's method serves. -/
def closeWindow (b : Brt) : Brt := { b with demandEnd := 0, started := false, method := 0, sub := [{}, {}, {}], demandPartial := false }

/-- Open the window that contains an instant, none of its sub-intervals before `frm` counting. -/
def openWindow (s : State) (m x frm : Nat) (b : Brt) : Brt :=
  let k := methodAt s m (x - 1)
  if k = 0 then { closeWindow b with demandUnavail := true }
  else { b with
    demandUnavail := false, method := k, lenS := lenOf (classOf s (mctOf s m).cls)
    demandEnd := alignedEnd s (calIdOf s m) (winStep k) x
    sub := [{}, {}, {}], started := true, demandPartial := false, winFrom := frm }

/-- The next window after a completed one. -/
def nextWindow (s : State) (m : Nat) (b : Brt) : Brt :=
  let e := b.demandEnd
  if methodAt s m e = b.method then
    { b with
      demandEnd := alignedEnd s (calIdOf s m) (winStep b.method) (e + 1)
      sub := if b.method = 3 then {} :: b.sub.take 2 else [{}, {}, {}] }
  else openWindow s m (e + 1) e b

/-- The instant inside the open window at which its method or interval length changed, if one did. -/
def changeIn (s : State) (m : Nat) (b : Brt) : Option Nat :=
  let len := lenOf (classOf s (mctOf s m).cls)
  if b.demandEnd = 0 || (methodAt s m (b.demandEnd - 1) = b.method && len = b.lenS) then none
  else
    let start := b.demandEnd - winStep b.method
    let inside := fun (l : List Nat) => (l.filter (fun t => decide (start ≤ t) && decide (t < b.demandEnd))).min?
    let act := match partAt (calOf s (calIdOf s m)) (b.demandEnd - 1) with
      | some p => if methodAt s m (p.at_ - 1) = b.method && methodAt s m p.at_ ≠ b.method then [p.at_] else []
      | none => []
    let rules := if len = b.lenS then [] else [s.p.rulesAt.getD (mctOf s m).cls 0]
    match inside (act ++ rules), inside [b.chgAt] with
    | some t, _ => some t
    | none, some t => some t
    | none, none => some (min b.demandEnd (etNs s))

/-- Complete every window that ended before an instant, in ascending order of end; windows without records change no maximum,
so after the third of them the window that contains the instant opens. -/
def demandRun (s : State) (m x : Nat) : Nat → Brt → Brt
  | 0, b => if b.demandEnd = 0 || x ≤ b.demandEnd then b else openWindow s m x b.winFrom b
  | n + 1, b =>
    if b.demandEnd = 0 then b
    else match changeIn s m b with
      | some c =>
        let b1 := completeWindow s m b c true
        let k := methodAt s m c
        if k = 0 then { closeWindow b1 with demandUnavail := true }
        else
          let a := alignedEnd s (calIdOf s m) (winStep k) c
          demandRun s m x n (openWindow s m (a + 1) a b1)
      | none =>
        if x ≤ b.demandEnd then b
        else demandRun s m x n (nextWindow s m (completeWindow s m b b.demandEnd false))

/-- Add a record to the sub-interval that contains it: its A+ values, or its DELTA where it replaces. -/
def addRecord (s : State) (m : Nat) (r : IRec) (b : Brt) : Brt :=
  let w := winStep b.method
  let a := alignedEnd s (calIdOf s m) w r.endNs
  let i := (b.demandEnd - a) / w
  if b.demandEnd < a || (if b.method = 3 then 2 else 0) < i || a < b.winFrom + w then b
  else
    let x := (b.sub[i]?).getD {}
    let fresh := r.kind = 0 || r.kind = 1
    let y : SubInt := {
      sum := ((x.sum : Int) + (if fresh then r.vals.ap else r.delta.ap)).toNat % 4294967296
      n := if fresh then x.n + 1 else x.n
      est := x.est || (fresh && r.quality.getLsbD 1) }
    { b with sub := setAt b.sub i y }

/-- DEMAND takes one record. -/
def demandRec (s : State) (r : IRec) : State :=
  let m := r.mcx
  let b := brtOf s m
  let b1 := demandRun s m r.endNs 6 b
  let b2 := if b1.demandEnd = 0 then openWindow s m r.endNs b1.winFrom b1 else b1
  if b2.demandEnd = 0 then (if b2 = b then s else brtSet s m b2)
  else
    let b3 := addRecord s m r b2
    let b4 := if b3.demandEnd = r.endNs && r.kind ≠ 2 && r.kind ≠ 3 then nextWindow s m (completeWindow s m b3 b3.demandEnd false) else b3
    if b4 = b then s else brtSet s m b4

def demandItem (s : State) (i : Item) : NodeOut :=
  match i.work with
  | .ival r => ⟨demandRec s r, [i]⟩
  | _ => ⟨s, [i]⟩

/-- DEMAND. -/
def execDemand (core : Fin 64) (s : State) : Host.Outcome State Fault Refusal :=
  finish s (if running s then nodeWork tDemand core.val itemLine demandItem s else s)

/-! ### Period closes (R253, R254) -/

def noQty : Qty4 := {}

/-- Keep the first snapshot of an identity, newest first, as many as bill.profile_depth. -/
def keepSnap (s : State) (m : Nat) (x : Brt) : State :=
  let l := s.p.bill.profile.getD m []
  if l.any (fun y => y.seq = x.seq) then s
  else { s with p := { s.p with bill := { s.p.bill with profile := s.p.bill.profile.set m ((x :: l).take (prmN s .billProfileDepth)) } } }

/-- A close at T: the state and the snapshot. -/
def closeAt (s : State) (m t : Nat) (forced : Bool) : State × Brt :=
  let b := demandRun s m (t + 1) 6 (brtOf s m)
  let snap := { b with closeAt := t, closeTick := s.vault.tick % 4294967296, forced := forced }
  let b1 := { b with
    md := List.replicate 8 {}, adj := noQty, adjCount := 0, start := t, seq := (b.seq + 1) % 65536, cal := calIdOf s m, forced := false
    closeTick := s.vault.tick % 4294967296 }
  (brtSet (keepSnap s m snap) m b1, snap)

/-- Boundaries of the meter's calendar's history after its PERIOD_START, ascending. -/
def openBoundaries (s : State) (m : Nat) : List Nat :=
  ((calOf s (calIdOf s m)).history.map Hist.at_).filter (fun t => decide ((brtOf s m).start < t))

/-- Close a list of boundaries in order. -/
def closeAll (s : State) (m : Nat) (forced : Bool) : List Nat → State × List Brt
  | [] => (s, [])
  | t :: l =>
    let a := closeAt s m t forced
    let r := closeAll a.1 m forced l
    (r.1, a.2 :: r.2)

/-! ### Posting (R246, R247, R237) -/

def qAdd (a b : Qty4) : Qty4 := ⟨a.ap + b.ap, a.an + b.an, a.rp + b.rp, a.rn + b.rn⟩

/-- Post a DELTA under a rate: a register that would fall below zero holds at zero. -/
def postEnergy (e : List Nat) (rate : Nat) (d : Qty4) : List Nat :=
  let k := 4 * (rate - 1)
  let add := fun (l : List Nat) (i : Nat) (x : Int) => setAt l (k + i) ((((l[k + i]?).getD 0 : Nat) : Int) + x).toNat
  add (add (add (add e 0 d.ap) 1 d.an) 2 d.rp) 3 d.rn

def postRec (s : State) (r : IRec) : State :=
  let m := r.mcx
  let b := brtOf s m
  let rate := rateBefore s (calIdOf s m) r.endNs
  let prior := decide (r.endNs ≤ b.start)
  let b1 := { b with
    energy := postEnergy b.energy rate r.delta, lastRate := rate, lastPost := max b.lastPost r.endNs
    adj := if prior then qAdd b.adj r.delta else b.adj
    adjCount := if prior then b.adjCount + 1 else b.adjCount }
  brtSet s m b1

/-- BILL_POST takes one record: closes that precede it, the posting, the close at its END. -/
def billRec (s : State) (r : IRec) : State × List Brt :=
  let a := closeAll s r.mcx false ((openBoundaries s r.mcx).filter (fun t => decide (t < r.endNs)))
  let s1 := postRec a.1 r
  let c := closeAll s1 r.mcx false ((openBoundaries s1 r.mcx).filter (fun t => decide (t = r.endNs)))
  (c.1, a.2 ++ c.2)

def snapItem (m : Nat) (b : Brt) : Item := mkItem m (.snap m b)

def billItem (s : State) (i : Item) : NodeOut :=
  match i.work with
  | .ival r =>
    let o := billRec s r
    ⟨o.1, i :: o.2.map (snapItem r.mcx)⟩
  | _ => ⟨s, [i]⟩

/-- BILL_POST. -/
def execBillPost (core : Fin 64) (s : State) : Host.Outcome State Fault Refusal :=
  finish s (if running s then nodeWork tBillPost core.val itemLine billItem s else s)

/-- Snapshots made outside the graph go to STORE_APPEND and EXPORT_STREAM. -/
def outSnaps (s : State) (m : Nat) (l : List Brt) : State :=
  { s with store := { s.store with
    toStore := s.store.toStore ++ l.map (fun b => SBody.billing m b), toExport := s.store.toExport ++ l.map (fun b => SBody.billing m b) } }

/-! ### The close sweep (R253) -/

/-- A context that a close sweep of a calendar visits. -/
def sweepVisits (s : State) (c m : Nat) : Bool :=
  let e := mctOf s m
  e.cal = c && (e.state = .provisioned || e.state = .joined || e.state = .active || e.state = .suspended)

/-- Meters of a calendar that have still to close an instant. -/
def unclosed (s : State) (c t : Nat) : List Nat :=
  (s.p.mct.filter (fun e => sweepVisits s c e.1 && decide ((brtOf s e.1).start < t))).map Prod.fst

/-- The oldest boundary whose sweep is in progress. -/
def sweepNow (s : State) : Option (Nat × Hist) :=
  (s.p.bill.cals.map (fun e => (e.2.history.filter (fun h => h.sweep.isSome && !h.done)).map (fun h => (e.1, h)))).flatten.foldl
    (fun (a : Option (Nat × Hist)) x => match a with
      | none => some x
      | some y => if x.2.at_ < y.2.at_ then some x else some y) none

def histMap (s : State) (c t : Nat) (f : Hist → Hist) : State :=
  let x := calOf s c
  calSet s c { x with history := x.history.map (fun h => if h.at_ = t then f h else h) }

/-- Boundaries that every meter has closed leave the history. -/
def histPrune (s : State) (c : Nat) : State :=
  let x := calOf s c
  calSet s c { x with history := x.history.filter (fun h => !(unclosed s c h.at_).isEmpty) }

/-- CLOSE_SWEEP visits contexts in ascending MCX, as many closes as the Tick still allows. -/
def closeSweepEff (s : State) : State :=
  match sweepNow s with
  | none => s
  | some (c, h) =>
    let room := prmN s .billClosePerTick - s.bill.closes
    let todo := (s.p.mct.map Prod.fst).filter (fun m => decide (h.sweep.getD 0 ≤ m) && sweepVisits s c m && !(openBoundaries s m).isEmpty)
    let now := todo.take room
    let s1 := now.foldl (fun s m =>
      let a := closeAll s m true (openBoundaries s m)
      outSnaps { a.1 with bill := { a.1.bill with closes := a.1.bill.closes + a.2.length } } m a.2) s
    match todo.drop room with
    | m :: _ => histMap s1 c h.at_ (fun h => { h with sweep := some m })
    | [] => histPrune (histMap s1 c h.at_ (fun h => { h with done := true })) c

def execCloseSweep (s : State) : Host.Outcome State Fault Refusal :=
  finish s (if running s && serving s then closeSweepEff s else s)

/-! ### Calendar events at a Tick boundary (R245, R252, R258, R259) -/

def maxHist : Nat := 1024

/-- The record of a boundary (R352): KIND 0 scheduled, 1 by command, 2 MD reset. -/
def boundaryRec (c kind t who : Nat) : Emit := .record 5 0x8040 [(c, 1), (kind, 1), (0, 2), (et64 t, 8), (who, 4)]

def allMeters : Nat := 0xFFFFFFFF

/-- A calendar reaches a boundary. -/
def reach (s : State) (c t kind : Nat) : State :=
  let x := calOf s c
  emit1 (calSet s c { x with last := t, history := x.history ++ [{ at_ := t }] }) (boundaryRec c kind t allMeters)

/-- The passive part becomes active at an instant. -/
def activatePart (s : State) (c t : Nat) : State :=
  let x := calOf s c
  match x.passive with
  | none => s
  | some p =>
    let p1 := { p with at_ := t, due := false }
    let last := if x.active.isNone then (if p.body.closeMode = 0 then t else latestBoundary s p.body t) else x.last
    calSet s c { x with previous := x.active, active := some p1, passive := none, last := last }

/-- The instant at which a passive part is due by a boundary that starts at `start`. -/
def dueAt (p : CalPart) (start : Nat) : Option Nat :=
  if p.due then some start else if p.at_ ≠ 0 && p.at_ ≤ start then some p.at_ else none

/-- Calendar events due by a boundary, in ascending order of instant; at one instant the boundary comes first. -/
def calEvents (c start : Nat) : Nat → State → State
  | 0, s => s
  | n + 1, s =>
    let x := calOf s c
    let act := match x.passive with | some p => dueAt p start | none => none
    let bnd := match x.active with
      | some a => match nextBoundary s a.body (max x.last (if x.last < a.at_ then a.at_ - 1 else x.last)) with
        | some t => if t ≤ start then some t else none
        | none => none
      | none => none
    let full := maxHist ≤ x.history.length
    match bnd, act with
    | none, none => s
    | none, some t => calEvents c start n (activatePart s c t)
    | some t, none => if full then s else calEvents c start n (reach s c t 0)
    | some t, some u =>
      if t ≤ u then (if full then activatePart s c u else calEvents c start n (reach s c t 0))
      else calEvents c start n (activatePart s c u)

/-- Boundaries that BILLING_CLOSE_NOW added. -/
def nowBoundaries (s : State) : State :=
  let s1 := s.bill.nowBoundaries.foldl (fun s q => if (calOf s q.1).last < q.2 then reach s q.1 q.2 1 else s) s
  { s1 with bill := { s1.bill with nowBoundaries := [] } }

/-- Close sweeps whose time has come start. -/
def startSweeps (s : State) (c start : Nat) : State :=
  let x := calOf s c
  let wait := match x.active with | some p => p.body.closeWaitMin | none => 0
  calSet s c { x with history := x.history.map (fun h =>
    if h.sweep.isNone && decide (h.at_ + wait * 60 * nsPerS ≤ start) then { h with sweep := some 0 } else h) }

/-- Step 1 of the closing work, for the boundary that starts at `start`. -/
def calendarStep1 (s : State) (start : Nat) : State :=
  let cs := s.p.bill.cals.map Prod.fst
  let s1 := nowBoundaries s
  let s2 := cs.foldl (fun s c => calEvents c start 2100 s) s1
  cs.foldl (fun s c => startSweeps (histPrune s c) c start) s2

/-! ### Loading a calendar (R241 to R244) -/

/-- A CONFIG_LOADED record (R352): KIND, final STATUS, identifier. -/
def configRec (s : State) (kind : Nat) (st : Status) (ident : Nat) : Emit :=
  .record 0x18 0x8090 [(kind, 1), (0, 1), (stCode st, 2), (ident, 8), (s.vault.tick, 8)]

def dstOk (r : DstRule) : Bool :=
  decide (1 ≤ r.month) && decide (r.month ≤ 12) && decide (1 ≤ r.week) && decide (r.week ≤ 5) && decide (1 ≤ r.weekday) &&
  decide (r.weekday ≤ 7) && decide (r.hour ≤ 23)

def strictSeasons : List Season → Bool
  | a :: b :: t => (decide (a.month < b.month) || (a.month == b.month && decide (a.day < b.day))) && strictSeasons (b :: t)
  | _ => true

def strictPoints : List SwitchPoint → Bool
  | a :: b :: t => decide (a.hour * 60 + a.minute < b.hour * 60 + b.minute) && strictPoints (b :: t)
  | _ => true

def dayOk (l : List SwitchPoint) : Bool :=
  decide (l.length ≤ 16) && strictPoints l &&
  (match l with | p :: _ => p.hour == 0 && p.minute == 0 | [] => false) &&
  l.all (fun p => decide (p.hour ≤ 23) && decide (p.minute ≤ 59) && decide (1 ≤ p.rate) && decide (p.rate ≤ 8))

/-- A day of a month in some year. -/
def monthDayOk (m d : Nat) : Bool := decide (1 ≤ m) && decide (m ≤ 12) && decide (1 ≤ d) && decide (d ≤ monthDays 2000 m)

/-- Check 3 of R243. -/
def bodyOk (b : CalBody) : Bool :=
  decide (-720 ≤ b.stdOffsetMin) && decide (b.stdOffsetMin ≤ 840) && decide (b.dstDeltaMin ≤ 120) &&
  (if b.dstDeltaMin = 0 then b.dstStart == {} && b.dstEnd == {} else dstOk b.dstStart && dstOk b.dstEnd) &&
  decide (b.closeMode ≤ 2) &&
  (if b.closeMode = 1 then b.closeDay == 255 || (decide (1 ≤ b.closeDay) && decide (b.closeDay ≤ 28)) else b.closeDay == 0) &&
  (if b.closeMode = 0 then b.closeHour == 0 && b.closeMin == 0 else decide (b.closeHour ≤ 23) && decide (b.closeMin ≤ 59)) &&
  decide (b.demand ≤ 3) && decide (b.closeWaitMin ≤ 240) &&
  decide (1 ≤ b.seasons.length) && decide (b.seasons.length ≤ 8) && decide (1 ≤ b.weeks.length) && decide (b.weeks.length ≤ 16) &&
  decide (1 ≤ b.days.length) && decide (b.days.length ≤ 32) && decide (b.special.length ≤ 64) &&
  b.seasons.all (fun e => monthDayOk e.month e.day && decide (e.week < b.weeks.length)) && strictSeasons b.seasons &&
  b.weeks.all (fun w => w.length == 7 && w.all (fun d => decide (d < b.days.length))) &&
  b.days.all dayOk &&
  b.special.all (fun e => monthDayOk e.month e.day && decide (e.profile < b.days.length)) &&
  (b.closeMode == 0 || b.demand == 0 || (b.closeHour * 60 + b.closeMin) % (winStep b.demand / nsPerS / 60) == 0)

def noDate : DateTime := { year := 0, month := 0, day := 0 }

/-- The first check of R243 that a package fails. -/
def calFail (s : State) (r : Req) (p : CalPkg) : State × Option Status :=
  if !p.headerOk then (s, some .badParam)
  else match trailerFail s r p.trailer 14 with
    | (s1, some st) => (s1, some st)
    | (s1, none) =>
      if 63 < p.calendar || !p.unusedOk || !bodyOk p.body ||
        (if p.manual then p.activate ≠ noDate else !dateTimeOk p.activate) then (s1, some .calendarInvalid)
      else (s1, none)

/-- The passive part that a package or a new ACTIVATE gives: its instant, or due at once where that has passed. -/
def passivePart (s : State) (c name : Nat) (manual : Bool) (activate : DateTime) (body : CalBody) : CalPart :=
  let zone := match partAt (calOf s c) (etNs s) with | some a => a.body | none => body
  let t := etOfLocal s zone (faceOf activate)
  if manual then { name := name, manual := true, body := body }
  else if t ≤ etNs s then { name := name, activate := activate, due := true, body := body }
  else { name := name, activate := activate, at_ := t, body := body }

/-- A package that passes takes effect. -/
def calInstall (s : State) (p : CalPkg) : State × Status :=
  let x := calOf s p.calendar
  if p.loadActive then
    if x.active.isSome then (s, .notPermitted)
    else
      let t := s.time.tickStartEt
      let part : CalPart := { name := p.name, manual := p.manual, activate := p.activate, at_ := t, body := p.body }
      let last := if p.body.closeMode = 0 then t else latestBoundary s p.body t
      (calSet s p.calendar { x with active := some part, last := last }, .ok)
  else (calSet s p.calendar { x with passive := some (passivePart s p.calendar p.name p.manual p.activate p.body) }, .ok)

def ciCalendarLoad : CmdInfo := { code := 0x0704, plain := 0x01, states := 0x06, w := true, pflag := true }

def calendarLoad (r : Req) (f : Fetch CalPkg) (s : State) : Reply :=
  match f with
  | .fault st => deny s st
  | .got p => match calFail s r p with
    | (s1, some st) => ⟨s1, .pending, [], [.final 0x0704 st [], configRec s1 2 st p.calendar]⟩
    | (s1, none) =>
      let o := calInstall s1 p
      ⟨o.1, .pending, [], [.final 0x0704 o.2 (if o.2 = .ok then [(p.calendar, 1), (0, 3)] else []), configRec s1 2 o.2 p.calendar]⟩

def execCalendarLoad (r : Req) (pkg : Fetch CalPkg) (s : State) : Host.Outcome State Fault Refusal :=
  finish s (gmi ciCalendarLoad r (calendarLoad r pkg) s)

def ciCalendarStatus : CmdInfo := { code := 0x0705, plain := 0x23, roles := 0x1F, states := 0x06 }

def partName (p : Option CalPart) : Nat × Nat := match p with | some x => (x.name, 8) | none => (0, 8)

def partAct (p : Option CalPart) : Nat × Nat := match p with | some x => (et64z x.at_, 8) | none => (0, 8)

def calendarStatus (c : Nat) (s : State) : Reply :=
  if 63 < c then deny s .badParam
  else
    let x := calOf s c
    let next := match x.active with | some a => (nextBoundary s a.body x.last).getD 0 | none => 0
    let open_ := match x.history with | h :: t => ((h :: t).getLast?.map (fun y => (unclosed s c y.at_).length)).getD 0 | [] => 0
    ⟨s, .ok, [(if x.active.isNone then 0 else if x.passive.isNone then 1 else 2, 1), (0, 3),
      partName x.active, partName x.passive, partName x.previous, partAct x.active, partAct x.passive, partAct x.previous,
      (et64z x.last, 8), (et64z next, 8), (x.history.length, 4), (open_, 4)], []⟩

def execCalendarStatus (r : Req) (calendar : BitVec 8) (s : State) : Host.Outcome State Fault Refusal :=
  finish s (gmi ciCalendarStatus r (calendarStatus calendar.toNat) s)

/-! ### BILLING_CLOSE_NOW (R255) -/

def ciBillingCloseNow : CmdInfo := { code := 0x0706, plain := 0x01, roles := 0x01, states := 0x04, w := true }

/-- A close by command for one meter: the state and BOUNDARY, or PERIOD_CLOSED. -/
def closeMeterNow (s : State) (m : Nat) : Option State :=
  let t := s.time.tickStartEt
  if t ≤ (brtOf s m).start then none
  else
    let a := closeAll s m true (openBoundaries s m)
    let b := if (brtOf a.1 m).start < t then closeAll a.1 m true [t] else (a.1, [])
    some (emit1 (outSnaps b.1 m (a.2 ++ b.2)) (boundaryRec (calIdOf s m) 1 t m))

def billingCloseNow (kind ident : Nat) (s : State) : Reply :=
  let t := s.time.tickStartEt
  if 1 < kind then deny s .badParam
  else if kind = 0 then
    if 63 < ident then deny s .badParam
    else if t ≤ (calOf s ident).last || s.bill.nowBoundaries.any (fun q => q.1 = ident && decide (t ≤ q.2)) then deny s .periodClosed
    else
      let s1 := { s with bill := { s.bill with nowBoundaries := s.bill.nowBoundaries ++ [(ident, t)] } }
      ⟨if (s.p.bill.cals.get? ident).isSome then s1 else calSet s1 ident {}, .ok, [(et64 t, 8)], []⟩
  else if mcxCount ≤ ident || (mctOf s ident).state = .free then deny s .badParam
  else match closeMeterNow s ident with
    | some s1 => ⟨s1, .ok, [(et64 t, 8)], []⟩
    | none => deny s .periodClosed

def execBillingCloseNow (r : Req) (kind : BitVec 8) (ident : Word32) (s : State) : Host.Outcome State Fault Refusal :=
  finish s (gmi ciBillingCloseNow r (billingCloseNow kind.toNat ident.toNat) s)

/-! ### The access table (R265, R266) -/

def ciAccessTableLoad : CmdInfo := { code := 0x0707, plain := 0x01, states := 0x06, w := true }

def accessTableLoad (r : Req) (f : Fetch AccessPkg) (s : State) : Reply :=
  match f with
  | .fault st => deny s st
  | .got p =>
    if !p.headerOk || p.tableId = 0 || p.rows.length ≠ 7 || p.rows.any (fun l => l.length ≠ 5) then
      ⟨s, .badParam, [], [configRec s 4 .badParam p.tableId.toNat]⟩
    else match trailerFail s r p.trailer 14 with
      | (s1, some st) => ⟨s1, st, [], [configRec s1 4 st p.tableId.toNat]⟩
      | (s1, none) =>
        ⟨{ s1 with bill := { s1.bill with accessNext := some { id := p.tableId, rows := p.rows } } }, .ok, [(p.tableId.toNat, 8)], []⟩

def execAccessTableLoad (r : Req) (pkg : Fetch AccessPkg) (s : State) : Host.Outcome State Fault Refusal :=
  finish s (gmi ciAccessTableLoad r (accessTableLoad r pkg) s)

/-- A loaded access table takes effect at a Tick boundary. -/
def accessApply (s : State) : State :=
  match s.bill.accessNext with
  | none => s
  | some t =>
    let s1 := { s with p := { s.p with bill := { s.p.bill with access := some t } }, bill := { s.bill with accessNext := none } }
    emitAll s1 [.record 7 0x8060 [(2, 1), (0, 1), (0, 1), (0, 1), (t.id.toNat, 8)], configRec s1 4 .ok t.id.toNat]

/-- The defaults of R266: rows for classes 3, 4, 7, 8, 11, 18 and 20; bits READ, WRITE, EXECUTE. -/
def defaultAccess : List (List (BitVec 3)) :=
  [[1, 1, 1, 1, 0], [5, 1, 1, 1, 0], [7, 1, 1, 1, 0], [1, 1, 1, 1, 1], [1, 1, 1, 0, 0], [7, 0, 1, 7, 0], [7, 1, 1, 0, 0]]

def classRow : Nat → Option Nat
  | 3 => some 0 | 4 => some 1 | 7 => some 2 | 8 => some 3 | 11 => some 4 | 18 => some 5 | 20 => some 6 | _ => none

/-- The right a role holds on a class: 0 READ, 1 WRITE, 2 EXECUTE. A class without a row gives none. -/
def hasRight (s : State) (cls bit : Nat) (r : Role) : Bool :=
  match classRow cls with
  | none => false
  | some i =>
    let rows := match s.p.bill.access with | some t => t.rows | none => defaultAccess
    ((((rows[i]?).getD [])[roleIdx r]?).getD 0).getLsbD bit

end Sys2Proof.Machine
end

