-- ==== Sys2Proof/Machine/Store.lean ====
section
/-! DEFINITION. The ring store (R315 to R345): journal, folding, superblocks, garbage collection, exhaustion, errors, and the
graph's two sinks STORE_APPEND and EXPORT_STREAM (R201, R491). -/

namespace Sys2Proof.Machine
open Sys2Proof

/-! ### Record bodies (R213, R236, R304, R491) -/

def ivalBody (r : IRec) : Body :=
  [(r.mcx + r.icode * 2 ^ 20, 4), (et64 r.endNs, 8), (r.quality.toNat, 1), (r.kind, 1), (r.method, 1), (r.checks.toNat, 1),
   (encS 4 r.vals.ap, 4), (encS 4 r.vals.an, 4), (encS 4 r.vals.rp, 4), (encS 4 r.vals.rn, 4),
   (encS 4 r.delta.ap, 4), (encS 4 r.delta.an, 4), (encS 4 r.delta.rp, 4), (encS 4 r.delta.rn, 4),
   (r.vMean, 4), (encS 4 r.skewMs, 4), (r.tick % 4294967296, 4), (r.cls, 1), (0, 3)]

def mdBody (m : MdReg) : Body := [(m.value, 4), (b2n m.isPartial, 1), (0, 3), (et64z m.capture, 8)]

def subSum (b : Brt) (i : Nat) : Nat := ((b.sub[i]?).getD {}).sum

/-- A BRT entry (R236); `frozen` for a snapshot. -/
def brtBody (m : Nat) (b : Brt) (frozen : Bool) : Body :=
  [(m, 4), (b.cal, 1), (b2n frozen + 2 * b2n b.forced + 4 * b2n b.demandUnavail, 1), (b.seq, 2), (et64z b.start, 8), (et64z b.closeAt, 8)] ++
  b.energy.map (fun x => (x, 8)) ++ (b.md.map mdBody).flatten ++
  [(encS 8 b.adj.ap, 8), (encS 8 b.adj.an, 8), (encS 8 b.adj.rp, 8), (encS 8 b.adj.rn, 8), (b.adjCount, 4), (et64z b.demandEnd, 8),
   (subSum b 0, 4), (subSum b 1, 4), (subSum b 2, 4), (b2n b.demandPartial + 2 * b2n b.started, 1), (b.lastRate, 1), (0, 2),
   (b.closeTick, 4), (et64z b.lastPost, 8), (0, 32)]

def reasonCode : BalReason → Nat
  | .none => 0 | .coverage => 1 | .noMeasure => 2 | .measurePartial => 3 | .measureTimeInvalid => 4 | .gapTooLong => 5
  | .childInconclusive => 6

def recConclusive (r : BRec) : Bool := r.reason = .none

def balBody (r : BRec) : Body :=
  [(r.node, 2), (b2n r.adjustment, 1),
   (b2n (r.sense = .loss) + 2 * b2n (r.sense = .excess) + 4 * b2n r.flagged + 8 * b2n r.measEstimated + 16 * b2n r.measClipped +
    32 * b2n r.stepped, 1),
   (if recConclusive r then 0 else stCode .balanceInconclusive, 2), (reasonCode r.reason, 1), (r.hits, 1), (et64 r.endNs, 8),
   (encS 8 r.measured, 8), (encS 8 r.meters, 8), (r.lossModel, 8), (encS 8 r.residual, 8), (r.threshold, 4), (r.coverage, 2),
   (r.revision, 2), (r.expected, 4), (r.tick % 4294967296, 4)]

def eventBody (a : AlarmItem) : Body :=
  let d := cutBody a.data 16
  [(a.key, 4), (et64 a.time, 8), (a.event, 2), (0, 2)] ++ d ++ [(0, 16 - bodyLen d)]

def phaseBody : Option MeasPhase → Body
  | some p => [(p.aImp, 8), (p.aExp, 8), (p.rImp, 8), (p.rExp, 8), (p.i2t, 8), (p.vMean, 4), (p.iMean, 4)]
  | none => []

/-- The CELL_MEASURE body from its offset 4. -/
def measBody (m : MeasBody) : Body :=
  [(et64 m.endNs, 8), (m.intervalS, 2), (b2n m.phA.isSome + 2 * b2n m.phB.isSome + 4 * b2n m.phC.isSome, 1),
   (b2n m.isPartial + 2 * b2n m.timeInvalid, 1)] ++ phaseBody m.phA ++ phaseBody m.phB ++ phaseBody m.phC

def sBody : SBody → Body
  | .interval r => ivalBody r
  | .billing m b => brtBody m b true
  | .balance r => balBody r
  | .event a => eventBody a
  | .supply n src _ m => [(n, 2), (src, 1), (0, 1)] ++ measBody m

/-- Retention class (R320). -/
def sClass : SBody → Nat
  | .interval _ => 0 | .billing _ _ => 1 | .balance _ => 2 | .event _ => 3 | .supply .. => 4

def sSize (b : SBody) : Nat := bodyLen (sBody b)

/-- The MCX a record belongs to, if it belongs to one. -/
def sMcx : SBody → Option Nat
  | .interval r => some r.mcx
  | .billing m _ => some m
  | .event a => if a.key < mcxCount then some a.key else none
  | _ => none

def inMcx (lo hi : Nat) (b : SBody) : Bool :=
  match sMcx b with
  | some m => decide (lo ≤ m) && decide (m ≤ hi)
  | none => true

/-! ### Slots and capacity (R317 to R319, R335) -/

def nandSlots : Nat := 5320

/-- Coarse units in a TLC superblock. -/
def slotUnits : Nat := 72

def slotOf (x : StoreSt) (i : Nat) : Slot := x.slots.getD i {}

def setSlot (x : StoreSt) (i : Nat) (v : Slot) : StoreSt := { x with slots := x.slots.set i v }

/-- Slots in service. -/
def inService (x : StoreSt) : Nat := if x.formatted then nandSlots - x.retiredSlots else 0

/-- Exported capacity in MiB. -/
def capacityMib (x : StoreSt) : Nat :=
  let u := inService x
  min 327680 ((u - (if x.lostDie.isSome then 1280 else 768)) * 72)

/-- Stored data in MiB: the coarse units mapped. -/
def storedMib (x : StoreSt) : Nat := (x.units.filter (fun e => !e.2.lost)).length

def freeMib (x : StoreSt) : Nat := capacityMib x - storedMib x

def poolCount (x : StoreSt) (p : Pool) : Nat := (x.slots.filter (fun e => e.2.pool = p)).length

/-- Superblocks on the free list. -/
def freeSbs (x : StoreSt) : Nat := if x.formatted then nandSlots - (x.slots.filter (fun e => e.2.pool ≠ .free)).length else 0

def wearOf (v : Slot) : Nat := v.wears.foldl max 0

/-- The lowest slot not listed from `i` on, in a table sorted by key. -/
def firstUnlisted : Tbl Slot → Nat → Nat
  | [], i => i
  | (k, _) :: t, i => if k = i then firstUnlisted t (i + 1) else i

/-- The free slot with the lowest wear (R335), or with the highest for a static move (R336). -/
def bestFree (x : StoreSt) (high : Bool) : Option Nat :=
  let l := x.slots.filter (fun e => e.2.pool = .free)
  let better := fun (a b : Nat × Slot) => if high then decide (wearOf b.2 < wearOf a.2) else decide (wearOf a.2 < wearOf b.2)
  let b := l.foldl (fun (a : Option (Nat × Slot)) e => match a with
    | none => some e
    | some y => if better e y then some e else some y) none
  let u := firstUnlisted x.slots 0
  let unlisted : Option Nat := if x.formatted && u < nandSlots then some u else none
  match b, unlisted with
  | some e, some k => if high then some e.1 else if wearOf e.2 = 0 && e.1 < k then some e.1 else some k
  | some e, none => some e.1
  | none, k => k

/-- Valid units of a slot. -/
def slotUnitKeys (x : StoreSt) (i : Nat) : List Nat := (x.units.filter (fun e => e.2.slot = some i && !e.2.lost)).map Prod.fst

/-- A slot is retired: no spare is left for one of its blocks (R319). -/
def retireSlot (x : StoreSt) (i : Nat) : StoreSt :=
  { setSlot x i { slotOf x i with pool := .retired, closed := true, evacuate := false, failed := none } with
    retiredSlots := x.retiredSlots + 1, openSb := x.openSb.filter (fun e => e.2 ≠ i) }

/-- A block of a slot is retired and replaced from its die's spares, or the slot with it (R319, R332). -/
def retireBlock (x : StoreSt) (i die : Nat) : StoreSt :=
  let n := nth x.spares die
  let x1 := { x with retiredBlocks := setAt x.retiredBlocks die (nth x.retiredBlocks die + 1), stBlockRetired := true }
  if 0 < n then
    { setSlot x1 i { slotOf x1 i with wears := setAt (slotOf x1 i).wears die 0 } with spares := setAt x.spares die (n - 1) }
  else retireSlot x1 i

def endOfLife : Nat := 30000

/-- Erase a slot: wear, the retirement of worn and failed blocks, and the free list. -/
def eraseSlot (x : StoreSt) (i cost : Nat) : StoreSt :=
  let v := slotOf x i
  let w := v.wears.map (fun n => n + cost)
  let x1 := setSlot x i { wears := w }
  let due := [0, 1, 2, 3].filter (fun d => decide (endOfLife ≤ nth w d - cost) || v.failed = some d)
  due.foldl (fun x d => if (slotOf x i).pool = .retired then x else retireBlock x i d) x1

/-! ### Exhaustion (R340 to R342) -/

def storeStateCode : StoreState → Nat
  | .bringup => 0 | .normal => 1 | .full => 2 | .readonly => 3 | .replay => 4

def storeStatusReg (s : State) : Nat :=
  let x := s.store
  storeStateCode x.state + 8 * b2n x.lostDie.isSome + 16 * b2n (decide (0 < x.migrating)) +
  32 * b2n (x.gcOn && decide (freeSbs x < prmN s .stGcUrgent)) + 64 * b2n (prm s .stWearStatic = 1) +
  256 * b2n x.stGcTargetFail + 512 * b2n x.stBlockRetired + 1024 * b2n x.stParityRebuild + 2048 * b2n x.stMediaError +
  4096 * b2n x.stHolding + 8192 * b2n x.stBypass + 16384 * b2n x.stCapacityShrunk +
  2 ^ 32 * b2n x.lostDie.isSome + 2 ^ 33 * x.lostDie.getD 0

def setStore (s : State) (x : StoreSt) : State := { s with store := x }

/-- An async event of the store (R490). `loc`: location code of what failed. -/
def storeEvent (s : State) (st : Status) (loc : Nat) : Emit :=
  .event st 0 mb01 [(0, 1), (0, 3), (storeStatusReg s, 8), (capacityMib s.store, 4), (loc, 6), (0, 2)]

/-- The location code of the store as a whole: a NAND die's levels not resolved (R3). -/
def storeLoc : Nat := Config.keyNone

/-- Raise the store's interrupt for sticky bits that have come up (bits of STORE_STATUS[14:8]). -/
def storeIrq (s : State) (bit : Nat) : State := if s.store.intEnable.getLsbD (bit - 8) then { s with irq := irqRaise s.irq 13 } else s

/-- Windows of a class, oldest first. -/
def windowsOf (x : StoreSt) (k : Nat) : List Nat :=
  (x.units.filter (fun e => e.2.cls = k)).foldl (fun l e => if l.contains e.2.win then l else
    l.filter (fun w => decide (w < e.2.win)) ++ [e.2.win] ++ l.filter (fun w => decide (e.2.win < w))) []

def classes : List Nat := [0, 1, 2, 3, 4]

/-- Emptied closed superblocks of the series pool go to the free list after an erase. -/
def freeEmptied (x : StoreSt) : StoreSt :=
  let l := (x.slots.filter (fun e => e.2.pool = .series && e.2.closed && (slotUnitKeys x e.1).isEmpty &&
    !x.gcErase.any (fun g => g.1 = e.1) && (match x.gc with | some g => g.target ≠ e.1 && g.victim ≠ e.1 | none => true))).map Prod.fst
  l.foldl (fun x i => eraseSlot x i 10) x

/-- Delete a window: its units and its records (R321). -/
def deleteWindow (x : StoreSt) (k w : Nat) : StoreSt :=
  freeEmptied { x with
    units := x.units.filter (fun e => !(e.2.cls = k && e.2.win = w))
    series := x.series.filter (fun r => !(sClass r.body = k && dayOf r.atNs = w)) }

/-- The class stands at its floor (R340). -/
def atFloor (s : State) (k : Nat) : Bool :=
  match windowsOf s.store k with
  | w :: _ => decide (dayOf (etNs s) ≤ w + 1 + prmN s .stRetFloor k)
  | [] => true

/-- The class with the oldest window among some classes. -/
def oldestWindow (s : State) (ks : List Nat) : Option (Nat × Nat) :=
  ks.foldl (fun (a : Option (Nat × Nat)) k => match windowsOf s.store k with
    | [] => a
    | w :: _ => match a with
      | none => some (k, w)
      | some b => if w < b.2 then some (k, w) else some b) none

/-- The record of a reclaimed window. -/
def reclaimRec (s : State) (k w : Nat) : SBody :=
  .event { key := Config.keyNone, time := etNs s, event := Config.reclaimEvent, data := [(k, 1), (w, 4)] }

/-- Delete the oldest windows of classes above their floors until so many MiB are free (R340). -/
def reclaimTo (want : Nat) : Nat → State → State
  | 0, s => s
  | n + 1, s =>
    if want ≤ freeMib s.store then s
    else match oldestWindow s (classes.filter (fun k => !atFloor s k)) with
      | none => s
      | some (k, w) =>
        let x := deleteWindow s.store k w
        reclaimTo want n (setStore s { x with toStore := x.toStore ++ [reclaimRec s k w], toExport := x.toExport ++ [reclaimRec s k w] })

/-- Delete windows until stored data fits a shrunken capacity (R341). -/
def shrinkTo : Nat → State → State
  | 0, s => s
  | n + 1, s =>
    if storedMib s.store ≤ capacityMib s.store then s
    else match oldestWindow s (classes.filter (fun k => !atFloor s k)) with
      | some (k, w) => shrinkTo n (setStore s (deleteWindow s.store k w))
      | none => match oldestWindow s classes with
        | some (k, w) => shrinkTo n (setStore s (deleteWindow s.store k w))
        | none => s

def exhausted (s : State) : Bool := freeMib s.store = 0 && classes.all (atFloor s)

/-- Enter and leave READONLY and FULL (R342). -/
def storeRefresh (s : State) : State :=
  let x := s.store
  let low := decide (capacityMib x < prmN s .stMinCapacity * 1024)
  match x.state with
  | .normal =>
    if low then let s1 := setStore s { x with state := .readonly }; emit1 s1 (storeEvent s1 .storeReadonly storeLoc)
    else if exhausted s then let s1 := setStore s { x with state := .full }; emit1 s1 (storeEvent s1 .storeFull storeLoc)
    else s
  | .full =>
    if low then let s1 := setStore s { x with state := .readonly }; emit1 s1 (storeEvent s1 .storeReadonly storeLoc)
    else if exhausted s then s
    else setStore s { x with state := .normal }
  | .readonly => if low then s else if exhausted s then setStore s { x with state := .full } else setStore s { x with state := .normal }
  | _ => s

/-- Exported capacity fell: deletions, CAPACITY_SHRUNK, the state (R341). -/
def afterShrink (s : State) (before : Nat) : State :=
  let now := capacityMib s.store
  if before ≤ now then storeRefresh s
  else
    let overfull := decide (now < storedMib s.store)
    let s1 := shrinkTo (storedMib s.store + 1) s
    let s2 := if overfull then
        let t := storeIrq (setStore s1 { s1.store with stCapacityShrunk := true }) 14
        emit1 t (alarmNow t Config.keyNone evCapacityShrunk [(now, 4)])
      else s1
    storeRefresh s2

/-! ### The hot pool (R321) -/

/-- MiB in the hot pool: checkpoints, image slots and campaign images, promoted units, the journal retained. -/
def hotMib (x : StoreSt) : Nat :=
  2916 + 256 + 128 + (x.units.filter (fun e => e.2.slot.isNone)).length + ((x.segs.map Seg.bytes).sum + 1048575) / 1048576

def hotMax (x : StoreSt) : Nat := if x.lostDie.isSome then 1024 else 512

/-- Superblocks that the hot pool's content takes; twice as many in 3-die mode, where every page is written twice. -/
def hotWant (x : StoreSt) : Nat := min (hotMax x) ((hotMib x * (if x.lostDie.isSome then 2 else 1) + 23) / 24)

/-- Superblocks join the hot pool from the free list, and leave it erased, as its content grows and shrinks. -/
def hotFit : Nat → StoreSt → StoreSt
  | 0, x => x
  | n + 1, x =>
    let have_ := poolCount x .hot
    if have_ < hotWant x then
      match bestFree x false with
      | some i => hotFit n (setSlot x i { slotOf x i with pool := .hot, closed := false, fill := 0 })
      | none => x
    else if hotWant x < have_ then
      match x.slots.find? (fun e => e.2.pool = .hot) with
      | some e => hotFit n (eraseSlot x e.1 1)
      | none => x
    else x

def hotAdjust (x : StoreSt) : StoreSt := hotFit 1100 x

/-- Formatting at the transition from BLANK to PROVISIONED (R319). -/
def storeFormat (x : StoreSt) : StoreSt :=
  hotAdjust { x with
    formatted := true, state := .normal, staging := [], stream := [], segs := [], unfolded := [], series := [], holding := [], units := [], slots := []
    openSb := [], gc := none, gcErase := [], retiredSlots := 0, lostDie := none, migrating := 0
    spares := [0, 1, 2, 3].map (fun d => 141 + Config.extraSpares d) }

/-! ### The journal (R324, R325) -/

/-- STORE_APPEND takes a record. -/
def appendRec (s : State) (b : SBody) : State :=
  let x := s.store
  let r : SRec := { id := x.nextId, body := b, tick := s.vault.tick, atNs := etNs s }
  addJournal (setStore s { x with stream := x.stream ++ [r], nextId := x.nextId + 1 }) (sSize b)

/-- Room in staging, in bytes. -/
def stagingRoom (s : State) : Nat :=
  2 * prmN s .schedJournalLimit * 1024 - (s.store.staging.map (fun t => t.bytes - t.programmed)).sum

/-- Step 3 of the closing work of a Tick: its stream and its commit entry enter staging. -/
def stageCommit (s : State) (tick bytes : Nat) : State :=
  let x := s.store
  let now := x.stream.filter (fun r => decide (r.tick ≤ tick))
  setStore s { x with
    staging := x.staging ++ [{ tick := tick, recs := now, bytes := bytes + 64, state := s.p }]
    stream := x.stream.filter (fun r => decide (tick < r.tick)) }

/-- Records of a partly programmed stream that stand in the hot pool, by their bytes. -/
def progRecs : Nat → List SRec → List SRec
  | _, [] => []
  | n, r :: t => if sSize r.body ≤ n then r :: progRecs (n - sSize r.body) t else []

/-- Journal segments that are folded and behind a checkpoint sweep started after them are freed (R326). -/
def freeSegs (x : StoreSt) : StoreSt :=
  let upTo := match x.unfolded with | r :: _ => r.id | [] => x.nextId
  { x with segs := x.segs.filter (fun g => !(decide (g.last < upTo) && decide (g.sweep + 1 < x.sweep))) }

/-- Journal bytes programmed. -/
def programmed (x : StoreSt) (bytes last : Nat) : StoreSt :=
  hotAdjust { x with segs := x.segs ++ [{ bytes := bytes, last := last, sweep := x.sweep }], sweepBytes := x.sweepBytes + bytes }

/-- A full stripe without a commit entry: 48 KiB of the oldest stream. -/
def stripeBytes : Nat := 49152

def stripeProgrammedEff (s : State) : State :=
  match s.store.staging with
  | t :: rest =>
    if stripeBytes < t.bytes - t.programmed then
      let x := { s.store with staging := { t with programmed := t.programmed + stripeBytes } :: rest }
      setStore s (programmed x stripeBytes x.nextId)
    else s
  | [] => s

/-- What waits for the durability of a Tick's journal (R176, R338, R405). -/
def durableEffects (s : State) : State :=
  let d := s.store.durable
  let due := s.flow.encHold.filter (fun e => decide (e.1 ≤ d))
  let s1 := { s with
    flow := { s.flow with encHold := s.flow.encHold.filter (fun e => decide (d < e.1)) }
    keys := { s.keys with commits := s.keys.commits.filter (fun e => decide (d < e.2)) }
    pair := { s.pair with downHoldTick := match s.pair.downHoldTick with | some t => if t ≤ d then none else some t | none => none } }
  let er := s1.store.gcErase.filter (fun e => decide (e.2 ≤ d))
  let before := capacityMib s1.store
  let x := er.foldl (fun x e => eraseSlot x e.1 10) { s1.store with gcErase := s1.store.gcErase.filter (fun e => decide (d < e.2)) }
  let s2 := afterShrink (setStore s1 x) before
  pushFrom s2 tEncrypt (due.map (fun e => mkItem e.2.mcx (.down e.2)))

/-- The oldest Tick in staging becomes durable. -/
def durableStep (s : State) : State :=
  match s.store.staging with
  | [] => s
  | t :: rest =>
    let last := match t.recs.getLast? with | some r => r.id | none => s.store.nextId - 1
    let x := { s.store with
      staging := rest, durable := t.tick, durableP := t.state, unfolded := s.store.unfolded ++ t.recs }
    durableEffects (setStore s (programmed x (t.bytes - t.programmed) last))

/-- JOURNAL_DURABLE (R325). -/
def execJournalDurable (s : State) : Host.Outcome State Fault Refusal :=
  finish s (if running s then reschedule (durableStep s) else s)

/-- STRIPE_PROGRAMMED (R325). -/
def execStripeProgrammed (s : State) : Host.Outcome State Fault Refusal :=
  finish s (if running s then stripeProgrammedEff s else s)

/-! ### Folding (R320, R323, R326, R343, R344) -/

/-- The open superblock of a class with room for a unit, taking a free one where needed. -/
def openFor (x : StoreSt) (k : Nat) : Option (StoreSt × Nat) :=
  let take := fun (x : StoreSt) =>
    match bestFree x false with
    | some i => some ({ setSlot x i { slotOf x i with pool := .series, cls := k, closed := false, fill := 0 } with openSb := x.openSb.set k i }, i)
    | none => none
  match x.openSb.get? k with
  | some i =>
    let v := slotOf x i
    if v.fill < slotUnits then some (x, i)
    else take { setSlot x i { v with closed := true, closeSeq := x.closeCtr } with closeCtr := x.closeCtr + 1 }
  | none => take x

/-- Map a new coarse unit of a class and window. -/
def newUnit (s : State) (x : StoreSt) (k w : Nat) (index : Bool) : Option (StoreSt × Nat) :=
  match openFor x k with
  | none => none
  | some (x1, i) =>
    let v := slotOf x1 i
    let u : CUnit := { cls := k, win := w, index := index, slot := some i, writtenMc := s.time.mc, lastMc := s.time.mc }
    some ({ setSlot x1 i { v with fill := v.fill + 1 } with units := x1.units.set x1.nextUnit u, nextUnit := x1.nextUnit + 1 }, x1.nextUnit)

def unitBytes : Nat := 1048576

/-- The unit that a record of a class and window goes to. -/
def unitFor (s : State) (x : StoreSt) (k w n : Nat) : Option (StoreSt × Nat) :=
  match (x.units.filter (fun e => e.2.cls = k && e.2.win = w && !e.2.index && !e.2.lost && decide (e.2.used + n ≤ unitBytes))).getLast? with
  | some e => some (x, e.1)
  | none => newUnit s x k w false

def hourNs : Nat := 3600 * nsPerS

/-- Demote a promoted unit: it is rewritten whole into a coarse unit. -/
def demote (s : State) (x : StoreSt) (u : Nat) : StoreSt :=
  match x.units.get? u with
  | none => x
  | some c => match openFor x c.cls with
    | none => x
    | some (x1, i) =>
      let v := slotOf x1 i
      hotAdjust { setSlot x1 i { v with fill := v.fill + 1 } with
        units := x1.units.set u { c with slot := some i, rewrites := [], writtenMc := s.time.mc } }

/-- Promote a unit; where as many as the limit are promoted, the one written least recently is demoted first (R323). -/
def promote (s : State) (x : StoreSt) (u : Nat) : StoreSt :=
  let l := x.units.filter (fun e => e.2.slot.isNone)
  let x1 := if prmN s .stFineMax ≤ l.length then
      match l.foldl (fun (a : Option (Nat × CUnit)) e => match a with
        | none => some e
        | some b => if e.2.lastMc < b.2.lastMc then some e else some b) none with
      | some e => demote s x e.1
      | none => x
    else x
  hotAdjust { x1 with units := x1.units.modify u (fun c => { c with slot := none, rewrites := [], lastMc := s.time.mc }), promotions := wrapAdd 32 x1.promotions 1 }

/-- The index of a window is rewritten: its first write maps a unit, every later one is a partial rewrite. -/
def touchIndex (s : State) (x : StoreSt) (k w : Nat) : StoreSt :=
  match x.units.find? (fun e => e.2.cls = k && e.2.win = w && e.2.index) with
  | none => match newUnit s x k w true with
    | some (x1, _) => x1
    | none => x
  | some (u, c) =>
    let rw := s.time.mc :: c.rewrites.filter (fun t => decide (s.time.mc < t + hourNs))
    let x1 := { x with units := x.units.set u { c with rewrites := rw.take 8, lastMc := s.time.mc } }
    if c.slot.isSome && 8 ≤ rw.length then promote s x1 u else x1

/-- Bytes of the holding area. -/
def holdMax : Nat := 67108864

def holdUsed (x : StoreSt) : Nat := (x.holding.map (fun r => sSize r.body)).sum

/-- A record goes to the holding area, or bypasses storage. -/
def holdRec (s : State) (r : SRec) : State :=
  let x := s.store
  if holdUsed x + sSize r.body ≤ holdMax then
    storeIrq (setStore s { x with holding := x.holding ++ [r], stHolding := true }) 12
  else
    let s1 := storeIrq (setStore s { x with bypassing := true, bypassed := satInc 32 x.bypassed, stBypass := true }) 13
    if x.bypassing then s1 else emit1 s1 (storeEvent s1 .storeBypass storeLoc)

/-- Fold one record into its class's superblock; none where the series pool takes no record. -/
def foldRec (s : State) (r : SRec) : Option State :=
  let k := sClass r.body
  match unitFor s s.store k (dayOf r.atNs) (sSize r.body) with
  | none => none
  | some (x, u) =>
    let y := { x with
      units := x.units.modify u (fun c => { c with used := c.used + sSize r.body, lastMc := s.time.mc })
      series := x.series ++ [{ r with unit := some u }] }
    if storedMib y ≤ capacityMib y then some (setStore s y) else none

/-- Fold one record where the state takes it, making room where none is left. -/
def foldOne (s : State) (r : SRec) : State :=
  match s.store.state with
  | .full | .readonly => holdRec s r
  | _ => match foldRec s r with
    | some s1 => s1
    | none =>
      let s1 := reclaimTo (2 * prmN s .stReclaimFree * 1024) 8192 s
      match foldRec s1 r with
      | some s2 => s2
      | none => holdRec (storeRefresh s1) r

/-- The records of this fold: of the holding area first, once the state that filled it has ended. -/
def foldMany : Nat → State → State
  | 0, s => s
  | n + 1, s =>
    let x := s.store
    let series := x.state ≠ .full && x.state ≠ .readonly
    match (if series then x.holding else []) with
    | r :: t => foldMany n (foldOne (setStore s { x with holding := t, bypassing := false }) r)
    | [] => match x.unfolded with
      | r :: t => foldMany n (foldOne (setStore s { x with unfolded := t, bypassing := x.bypassing && !series }) r)
      | [] => s

/-- FOLD: so many records, then the indexes of the windows they went to. -/
def foldEff (count : Nat) (s : State) : State :=
  let n0 := s.store.series.length
  let s1 := storeRefresh (foldMany count s)
  let ws := (s1.store.series.drop n0).foldl (fun (l : List (Nat × Nat)) r =>
    let w := (sClass r.body, dayOf r.atNs); if l.contains w then l else l ++ [w]) []
  let x := ws.foldl (fun x w => touchIndex s1 x w.1 w.2) s1.store
  setStore s1 (hotAdjust (freeSegs x))

def storeUp (s : State) : Bool := running s && s.store.formatted && s.store.state ≠ .bringup

def execFold (count : Nat) (s : State) : Host.Outcome State Fault Refusal :=
  finish s (if storeUp s && !s.boot.pfw then foldEff count s else s)

/-- UNIT_DEMOTION (R323): a promoted unit without a write for 24 hours. -/
def execUnitDemotion (unit : Nat) (s : State) : Host.Outcome State Fault Refusal :=
  finish s (if storeUp s then
    match s.store.units.get? unit with
    | some c => if c.slot.isNone && c.lastMc + 24 * hourNs ≤ s.time.mc then setStore s (demote s s.store unit) else s
    | none => s
  else s)

/-! ### Garbage collection (R334, R336 to R339) -/

def closedSeries (x : StoreSt) : List (Nat × Slot) :=
  x.slots.filter (fun e => e.2.pool = .series && e.2.closed && !x.gcErase.any (fun g => g.1 = e.1))

/-- A slot holds data due for refresh. -/
def refreshDue (s : State) (i : Nat) : Bool :=
  s.store.units.any (fun e => e.2.slot = some i && decide (e.2.writtenMc + prmN s .stRefreshDays * dayNs < s.time.mc))

def wearSpread (x : StoreSt) : Nat :=
  let l := (x.slots.filter (fun e => e.2.pool ≠ .retired)).map (fun e => wearOf e.2)
  let lo := if firstUnlisted x.slots 0 < nandSlots then 0 else l.foldl min (l.foldl max 0)
  l.foldl max 0 - lo

/-- The first of a list under an order; the earlier closed on a tie. -/
def leastBy (f : Nat × Slot → Nat) : List (Nat × Slot) → Option (Nat × Slot)
  | [] => none
  | e :: t => match leastBy f t with
    | none => some e
    | some b => if f b < f e || (f b = f e && b.2.closeSeq < e.2.closeSeq) then some b else some e

/-- The next victim, and whether the move is static (R337). -/
def gcVictim (s : State) : Option (Nat × Bool) :=
  let x := s.store
  let l := closedSeries x
  match l.find? (fun e => e.2.evacuate) with
  | some e => some (e.1, false)
  | none => match leastBy (fun _ => 0) (l.filter (fun e => refreshDue s e.1)) with
    | some e => some (e.1, false)
    | none =>
      if prm s .stWearStatic = 1 && prmN s .stSpreadLimit * 10 < wearSpread x then
        match leastBy (fun e => wearOf e.2) l with
        | some e => some (e.1, true)
        | none => none
      else match leastBy (fun e => (slotUnitKeys x e.1).length) l with
        | some e => some (e.1, false)
        | none => none

/-- A victim without valid units left waits for the durable Tick, then is erased. -/
def gcDone (s : State) (x : StoreSt) (victim : Nat) : StoreSt := { x with gcErase := x.gcErase ++ [(victim, s.vault.tick)] }

/-- GC_START: a pass begins. -/
def gcStartEff (s : State) : State :=
  let x := { s.store with gcOn := decide (freeSbs s.store < prmN s .stGcStart) }
  let due := x.gcOn || (closedSeries x).any (fun e => e.2.evacuate || refreshDue s e.1) ||
    (prm s .stWearStatic = 1 && prmN s .stSpreadLimit * 10 < wearSpread x)
  if x.gc.isSome || !due then setStore s x
  else match gcVictim s with
    | none => setStore s x
    | some (v, static) =>
      if (slotUnitKeys x v).isEmpty then setStore s (gcDone s { x with gcPasses := wrapAdd 32 x.gcPasses 1 } v)
      else match bestFree x static with
        | none => setStore s { x with gcPasses := wrapAdd 32 x.gcPasses 1, gcAborted := wrapAdd 32 x.gcAborted 1 }
        | some t =>
          let y := setSlot x t { slotOf x t with pool := .series, cls := (slotOf x v).cls, closed := false, fill := 0 }
          setStore s { y with gc := some ⟨v, t⟩, gcPasses := wrapAdd 32 x.gcPasses 1 }

def execGcStart (s : State) : Host.Outcome State Fault Refusal :=
  finish s (if storeUp s && !s.boot.pfw then gcStartEff s else s)

/-- GC_UNIT_COMMIT: the next unit of the victim is mapped to the target. -/
def gcUnitCommitEff (s : State) : State :=
  let x := s.store
  match x.gc with
  | none => s
  | some g =>
    let finish := fun (x : StoreSt) =>
      let t := slotOf x g.target
      gcDone s { setSlot x g.target { t with closed := true, closeSeq := x.closeCtr } with closeCtr := x.closeCtr + 1, gc := none } g.victim
    match slotUnitKeys x g.victim with
    | [] => setStore s (finish x)
    | u :: rest =>
      let t := slotOf x g.target
      let y := { setSlot x g.target { t with fill := t.fill + 1 } with
        units := x.units.modify u (fun c => { c with slot := some g.target, writtenMc := s.time.mc }) }
      setStore s (if rest.isEmpty then finish y else y)

def execGcUnitCommit (s : State) : Host.Outcome State Fault Refusal :=
  finish s (if storeUp s && !s.boot.pfw then gcUnitCommitEff s else s)

/-- GC_PROGRAM_FAIL on a die of the target (R339). -/
def gcProgramFailEff (die : Fin 4) (s : State) : State :=
  let x := s.store
  match x.gc with
  | none => s
  | some g =>
    let t := slotOf x g.target
    let x1 := { setSlot x g.target { t with closed := true, closeSeq := x.closeCtr, evacuate := true, failed := some die.val } with
      closeCtr := x.closeCtr + 1, stGcTargetFail := true, gc := none }
    let before := capacityMib x
    let x2 := if (slotUnitKeys x1 g.target).isEmpty then eraseSlot x1 g.target 10 else x1
    let x3 := match bestFree x2 false with
      | some n => { setSlot x2 n { slotOf x2 n with pool := .series, cls := t.cls, closed := false, fill := 0 } with gc := some ⟨g.victim, n⟩ }
      | none => { x2 with gcAborted := wrapAdd 32 x2.gcAborted 1 }
    storeIrq (afterShrink (setStore s x3) before) 8

def execGcProgramFail (die : Fin 4) (s : State) : Host.Outcome State Fault Refusal :=
  finish s (if storeUp s then gcProgramFailEff die s else s)

/-! ### Checkpoints (R329) -/

def ckptChunks : Nat := 23328

/-- CHECKPOINT_SWEEP_END: the sweep in progress completes and the next starts. -/
def execCheckpointSweepEnd (s : State) : Host.Outcome State Fault Refusal :=
  finish s (if storeUp s then
    let x := s.store
    setStore s (hotAdjust (freeSegs { x with
      sweep := x.sweep + 1, sweepTick := s.vault.tick, sweepBytes := 0, sweepChunks := 0, lastSweepTick := s.vault.tick }))
  else s)

/-! ### Expiry and reclaim (R321, R340) -/

/-- RETENTION_DELETE: at the first Tick boundary of a day window. -/
def retentionDeleteEff (s : State) : State :=
  let today := dayOf s.time.tickStartEt
  if s.store.day = today then s
  else
    let x := classes.foldl (fun x k =>
      ((windowsOf x k).filter (fun w => decide (w + 1 + prmN s .stRetDays k < today))).foldl (fun x w => deleteWindow x k w) x) s.store
    storeRefresh (setStore s { x with day := today })

def execRetentionDelete (s : State) : Host.Outcome State Fault Refusal :=
  finish s (if storeUp s then retentionDeleteEff s else s)

/-- RECLAIM. -/
def execReclaim (s : State) : Host.Outcome State Fault Refusal :=
  finish s (if storeUp s && decide (freeMib s.store < prmN s .stReclaimFree * 1024) then
    storeRefresh (reclaimTo (2 * prmN s .stReclaimFree * 1024) 8192 s)
  else s)

/-! ### Errors (R332, R333) -/

/-- The location code of a NAND page (R2): package, ring-store level, die, slot and page. -/
def pageLoc (die slot page : Nat) : Nat := 1 * 2 ^ 40 + (4 + die) * 2 ^ 36 + slot % 65536 * 2 ^ 16 + page % 65536

/-- The unit that a data page of a TLC superblock carries, by its place in the superblock; none for the parity page. -/
def pageUnit (s : State) (slot die page : Nat) : Option Nat :=
  let par := (page + slot) % 4
  if die = par then none
  else
    let j := if die < par then die else die - 1
    (slotUnitKeys s.store slot)[(48 * page + 16 * j) / 1024]?

/-- The units on a page are lost: their records answer MEDIA_ERROR. -/
def loseUnit (x : StoreSt) (u : Nat) : StoreSt :=
  { x with
    units := x.units.modify u (fun c => { c with lost := true })
    series := x.series.map (fun r => if r.unit = some u then { r with lost := true } else r) }

/-- PAGE_UNCORRECTABLE: the page is rebuilt from its stripe, or lost. -/
def pageUncorrectableEff (slot : Nat) (die : Fin 4) (page : Nat) (second : Bool) (s : State) : State :=
  let x := s.store
  let v := slotOf x slot
  if second || x.lostDie.isSome then
    let x1 := match pageUnit s slot die.val page with | some u => loseUnit x u | none => x
    let s1 := storeIrq (setStore s { x1 with lostPages := satInc 32 x1.lostPages, stMediaError := true }) 11
    emitAll s1 [.trouble ⟨9, 0, pageLoc die.val slot page, accByte 0xF 3 false, .mediaError, []⟩,
      storeEvent s1 .mediaError (pageLoc die.val slot page)]
  else
    let day := v.rebuilt.filter (fun e => decide (s.time.mc < e.1 + 24 * hourNs))
    let again := day.any (fun e => e.2 = die.val)
    let x1 := setSlot { x with rebuilt := satInc 32 x.rebuilt, stParityRebuild := true } slot
      { v with rebuilt := (s.time.mc, die.val) :: day, closed := v.closed || v.pool = .series, evacuate := v.pool = .series
               failed := if again then some die.val else v.failed }
    let x2 := { x1 with openSb := x1.openSb.filter (fun e => e.2 ≠ slot) }
    let s1 := emit1 (storeIrq (setStore s x2) 10) (.trouble ⟨9, 0, pageLoc die.val slot page, accByte 0xF 3 false, .mediaError, []⟩)
    if again && v.pool ≠ .series then
      let before := capacityMib s1.store
      storeIrq (afterShrink (setStore s1 (retireBlock s1.store slot die.val)) before) 9
    else s1

def execPageUncorrectable (slot : Fin 5320) (die : Fin 4) (page : Fin 1536) (second : Bool) (s : State) : Host.Outcome State Fault Refusal :=
  finish s (if storeUp s then pageUncorrectableEff slot.val die page.val second s else s)

/-- DIE_LOST: 3-die mode. -/
def dieLostEff (die : Fin 4) (s : State) : State :=
  if s.store.lostDie.isSome then s
  else
    let before := capacityMib s.store
    let x := { s.store with
      lostDie := some die.val
      migrating := (s.store.slots.filter (fun e => e.2.pool = .series && !(slotUnitKeys s.store e.1).isEmpty)).length }
    let s1 := setStore s (hotAdjust x)
    afterShrink (emit1 s1 (storeEvent s1 .storeDegraded (pageLoc die.val 0xFFFF 0xFFFF))) before

def execDieLost (die : Fin 4) (s : State) : Host.Outcome State Fault Refusal :=
  finish s (if storeUp s then dieLostEff die s else s)

/-- MIGRATION_END. -/
def execMigrationEnd (s : State) : Host.Outcome State Fault Refusal :=
  finish s (if storeUp s then setStore s { s.store with migrating := 0 } else s)

/-! ### STORE_APPEND and EXPORT_STREAM (R201, R344, R491) -/

/-- The record an item carries to the sinks, if it carries one. -/
def itemRec (i : Item) : Option SBody :=
  match i.work with
  | .ival r => some (.interval r)
  | .snap m b => some (.billing m b)
  | _ => none

def storeItem (s : State) (i : Item) : NodeOut :=
  match itemRec i with
  | some b => ⟨appendRec s b, []⟩
  | none => ⟨s, []⟩

/-- Records made outside the graph are handed over in order. -/
def storeAside (s : State) : State := { (s.store.toStore.foldl appendRec s) with store := { (s.store.toStore.foldl appendRec s).store with toStore := [] } }

/-- STORE_APPEND: an item of a dispatch, or what was made outside the graph. -/
def execStoreAppend (core : Option (Fin 64)) (s : State) : Host.Outcome State Fault Refusal :=
  finish s (if running s then
    match core with
    | some c => nodeWork tStore c.val noLine storeItem s
    | none => storeAside s
  else s)

/-- KIND of a Dyllisan record. -/
def dylKind (b : SBody) : Nat := sClass b + 1

/-- An export takes a record live. -/
def takesLive (e : ExportSt) (b : SBody) : Bool :=
  !e.stalled && (e.mode = 0 || (e.mode = 2 && e.bulkDone)) && e.classes.getLsbD (sClass b) && inMcx e.mcxLo e.mcxHi b

/-- Emit one record to one export. -/
def emitDyl (s : State) (k : Nat) (b : SBody) (bulk unc hold : Bool) (st : Status) : State :=
  match s.mb.exports.get? k with
  | none => s
  | some e =>
    let d : Dyl := { expId := k, kind := dylKind b, bulk := bulk, uncommitted := unc, holding := hold, status := st, seq := e.seq
                     body := if st = .mediaError then [] else sBody b }
    { s with mb := { s.mb with
        exports := s.mb.exports.set k { e with seq := e.seq + 1, sent := e.sent + 1, bypassed := e.bypassed + b2n (st = .storeBypass) }
        emitted := d :: s.mb.emitted } }

/-- A record on its way to the exports. While storage is bypassed it carries STORE_BYPASS, and is lost where no export takes it. -/
def exportRec (s : State) (b : SBody) : State :=
  let takers := (s.mb.exports.filter (fun e => takesLive e.2 b)).map Prod.fst
  let st : Status := if s.store.bypassing then .storeBypass else .ok
  let s1 := takers.foldl (fun s k => emitDyl s k b false false false st) s
  if s.store.bypassing && takers.isEmpty then
    let x := s1.store
    let s2 := setStore s1 { x with lost := x.lost + 1, lostTick := true }
    if x.lostTick then s2 else emit1 s2 (.trouble ⟨9, 0, storeLoc, accByte 0xF 3 true, .storeBypass, []⟩)
  else s1

def exportItem (s : State) (i : Item) : NodeOut :=
  match itemRec i with
  | some b => ⟨exportRec s b, []⟩
  | none => ⟨s, []⟩

/-- Stored records that a reader of a class, MCX range and range of windows sees: of the series, then of the journal, then of
the holding area; the flag HOLDING stands for the last. -/
def readRange (x : StoreSt) (cls : Nat → Bool) (lo hi w0 w1 : Nat) : List (SRec × Bool) :=
  let ok := fun (r : SRec) => cls (sClass r.body) && inMcx lo hi r.body && decide (w0 ≤ dayOf r.atNs) && decide (dayOf r.atNs ≤ w1)
  (x.series.filter ok).map (fun r => (r, false)) ++ (x.unfolded.filter ok).map (fun r => (r, false)) ++
  (x.holding.filter ok).map (fun r => (r, true))

def readStatus (r : SRec) : Status := if r.lost then .mediaError else .ok

/-- A bulk export emits the next window; its range ended, a MARK. -/
def bulkStep (s : State) (k : Nat) : State :=
  match s.mb.exports.get? k with
  | none => s
  | some e =>
    if e.mode = 0 || e.bulkDone || e.stalled then s
    else
      let w := e.bulkWindow
      let s1 := (readRange s.store (fun c => e.classes.getLsbD c) e.mcxLo e.mcxHi w w).foldl
        (fun s r => emitDyl s k r.1.body true r.1.uncommitted r.2 (readStatus r.1)) s
      match s1.mb.exports.get? k with
      | none => s1
      | some e1 =>
        if w < e.winTo && w < dayOf (etNs s) then { s1 with mb := { s1.mb with exports := s1.mb.exports.set k { e1 with bulkWindow := w + 1 } } }
        else
          let d : Dyl := { expId := k, kind := 6, bulk := true, uncommitted := false, holding := false, status := .ok, seq := e1.seq }
          { s1 with mb := { s1.mb with
              exports := s1.mb.exports.set k { e1 with seq := e1.seq + 1, sent := e1.sent + 1, bulkDone := true }
              emitted := d :: s1.mb.emitted } }

/-- Records made outside the graph, and one window of every bulk export. -/
def exportAside (s : State) : State :=
  let s1 := s.store.toExport.foldl exportRec s
  let s2 := { s1 with store := { s1.store with toExport := [] } }
  (s2.mb.exports.map Prod.fst).foldl bulkStep s2

/-- EXPORT_STREAM. -/
def execExportStream (core : Option (Fin 64)) (s : State) : Host.Outcome State Fault Refusal :=
  finish s (if running s then
    match core with
    | some c => nodeWork tExport c.val noLine exportItem s
    | none => exportAside s
  else s)

/-! ### Commands (R345, R483) -/

def sat32 (n : Nat) : Nat := min n 4294967295

def storeRegs (s : State) : Body :=
  let x := s.store
  let wears := (x.slots.filter (fun e => e.2.pool ≠ .retired)).map (fun e => wearOf e.2)
  let u := inService x
  let lo := if x.formatted && firstUnlisted x.slots 0 = nandSlots then wears.foldl min (wears.foldl max 0) else 0
  let sum4 := fun (l : List Nat) => nth l 0 + nth l 1 * 2 ^ 16 + nth l 2 * 2 ^ 32 + nth l 3 * 2 ^ 48
  [(storeStatusReg s, 8), (capacityMib x + storedMib x * 2 ^ 32, 8),
   (freeSbs x + poolCount x .series * 2 ^ 16 + poolCount x .hot * 2 ^ 32 + u * 2 ^ 48, 8), (sum4 x.spares, 8),
   (lo + wears.foldl max 0 * 2 ^ 16 + (if u = 0 then 0 else openDiv .wear wears.sum u) * 2 ^ 32, 8),
   (x.durable % 2 ^ 32 + ((x.segs.map Seg.bytes).sum / 1048576) * 2 ^ 32, 8),
   (x.sweepChunks + sat32 (s.vault.tick - x.lastSweepTick) * 2 ^ 32, 8), (x.holding.length + x.bypassed * 2 ^ 32, 8), (x.lost, 8),
   (x.gcPasses + x.gcAborted * 2 ^ 32, 8), (x.rebuilt + x.lostPages * 2 ^ 32, 8), (sum4 x.retiredBlocks, 8),
   ((x.units.filter (fun e => e.2.slot.isNone)).length + x.promotions * 2 ^ 16, 8), (x.migrating, 8)]

def classBody (s : State) (k : Nat) : Body :=
  let ws := windowsOf s.store k
  [(prmN s .stRetDays k, 2), (prmN s .stRetFloor k, 2), ((ws.head?).getD 0, 4), ((ws.getLast?).getD 0, 4),
   ((s.store.units.filter (fun e => e.2.cls = k)).length, 4)]

def ciStoreStatus : CmdInfo := { code := 0x0901, plain := 0x43, roles := 0x04, states := 0x0E }

def execStoreStatus (r : Req) (s : State) : Host.Outcome State Fault Refusal :=
  finish s (gmi ciStoreStatus r (fun s => ⟨s, .ok, storeRegs s ++ (classes.map (classBody s)).flatten, []⟩) s)

def ciStoreConfigure : CmdInfo := { code := 0x0902, plain := 0x01, states := 0x0E, w := true }

/-- Parameters of the store without retention. -/
def storeKey : ParamKey → Bool
  | .stReclaimFree | .stMinCapacity | .stWearStatic | .stSpreadLimit | .stGcStart | .stGcUrgent | .stCkptTrigger | .stFineMax
  | .stRefreshDays => true
  | _ => false

/-- Named parameters, all of them known and accepted by a test. -/
def namedParams (ok : ParamKey → Bool) (l : List ParamArg) : Option (List (ParamId × PVal)) :=
  if l.all (fun a => match a.name with | some i => ok i.key | none => false) then
    some (l.filterMap (fun a => a.name.map (fun i => (i, a.value))))
  else none

/-- BUDGET_TOTAL of the graph in force (R207). -/
def graphBudget (s : State) : Nat := match s.p.graph with | some g => g.budgetTotal | none => 0

def storeConfigure (l : List ParamArg) (s : State) : Reply :=
  match namedParams storeKey l with
  | none => deny s .badParam
  | some ps => match acceptParams s (graphBudget s) ps with
    | some s1 => ⟨s1, .ok, [], []⟩
    | none => deny s .badParam

def execStoreConfigure (r : Req) (params : List ParamArg) (s : State) : Host.Outcome State Fault Refusal :=
  finish s (gmi ciStoreConfigure r (storeConfigure params) s)

def ciStoreReadSeries : CmdInfo := { code := 0x0903, plain := 0x23, roles := 0x07, states := 0x06 }

/-- A record as STORE_READ_SERIES and an export frame carry it (R491). -/
def dylBody (r : SRec) (hold : Bool) : Body :=
  let b := if r.lost then [] else sBody r.body
  [(dylKind r.body, 1), (2 * b2n r.uncommitted + 4 * b2n hold, 1), (stCode (readStatus r), 2), (bodyLen b, 2), (0, 2), (0, 8)] ++ b

/-- Records of a listing that fit sixteen messages, from a position on. -/
def takeFit : Nat → List (SRec × Bool) → List (SRec × Bool)
  | _, [] => []
  | n, r :: t => let k := bodyLen (dylBody r.1 r.2); if k ≤ n then r :: takeFit (n - k) t else []

def storeReadSeries (cls lo hi w0 w1 cursor : Nat) (s : State) : Reply :=
  if 4 < cls || hi < lo || mcxLast < hi || w1 < w0 then deny s .badParam
  else match (if cursor = 0 then some 0 else cursorPos s cursor) with
    | none => deny s .badParam
    | some pos =>
      let l := (readRange s.store (fun c => c = cls) lo hi w0 w1).drop pos
      let out := takeFit 65520 l
      let next := if out.length < l.length then mkCursor s (pos + out.length) else 0
      ⟨s, .ok, [(next, 8), (out.length, 4), (0, 4)] ++ (out.map (fun r => dylBody r.1 r.2)).flatten, []⟩

def execStoreReadSeries (r : Req) (cls : BitVec 8) (mcxLo mcxHi winFrom winTo : Word32) (cursor : Word64) (s : State) :
    Host.Outcome State Fault Refusal :=
  finish s (gmi ciStoreReadSeries r (storeReadSeries cls.toNat mcxLo.toNat mcxHi.toNat winFrom.toNat winTo.toNat cursor.toNat) s)

def ciStoreRetentionSet : CmdInfo := { code := 0x0904, plain := 0x01, states := 0x0E, w := true }

/-- STORE_RETENTION_SET: days and floor of a class together. -/
def storeRetentionSet (cls days floor : Nat) (s : State) : Reply :=
  if 4 < cls || days = 0 || 3650 < days || days < floor then deny s .badParam
  else
    let put := fun (l : List PendParam) (k : ParamKey) (v : Nat) => addPend l ⟨⟨k, cls⟩, ⟨.integer, v⟩, .tick⟩
    ⟨{ s with pendParams := put (put s.pendParams .stRetDays days) .stRetFloor floor }, .ok, [], []⟩

def execStoreRetentionSet (r : Req) (cls : BitVec 8) (days floor : Word16) (s : State) : Host.Outcome State Fault Refusal :=
  finish s (gmi ciStoreRetentionSet r (storeRetentionSet cls.toNat days.toNat floor.toNat) s)

/-! ### Restart (R261, R327, R330) -/

/-- Re-post one stored record through DEMAND and BILL_POST; a snapshot already stored is dropped by its identity. -/
def repost (s : State) (r : SRec) : State :=
  match r.body with
  | .interval x =>
    let a := billRec (demandRec s x) x
    let new := a.2.filter (fun b => !(s.store.series ++ s.store.unfolded ++ s.store.stream).any (fun q => match q.body with
      | .billing m y => m = x.mcx && y.seq = b.seq
      | _ => false))
    outSnaps a.1 x.mcx new
  | _ => s

/-- STORE_RESTART: the state of the last durable commit entry, the uncommitted records kept and flagged, billing replayed from
every record with a TICK after it. `badPage`: the location of a journal page that neither ECC nor parity could read. -/
def storeRestartEff (badPage : Option Nat) (s : State) : State :=
  let x := s.store
  let kept := (match x.staging with | t :: _ => progRecs t.programmed t.recs | [] => []).map (fun (r : SRec) => { r with uncommitted := true })
  let s1 := { s with
    p := x.durableP
    store := { x with staging := [], stream := [], unfolded := x.unfolded ++ kept, state := .replay } }
  let s2 := match badPage with
    | some loc => emitAll s1 [.trouble ⟨9, 0, loc, accByte 0xF 3 false, .mediaError, []⟩, .event .mediaError 0 mb0
        [(0, 1), (0, 3), (storeStatusReg s1, 8), (capacityMib s1.store, 4), (loc, 6), (0, 2)]]
    | none => s1
  let after := (s2.store.series ++ s2.store.holding ++ s2.store.unfolded).filter (fun r => decide (x.durable < r.tick))
  after.foldl repost s2

end Sys2Proof.Machine
end

