-- ==== Sys2Proof/Machine/Metro.lean ====
section
/-! DEFINITION. Metrology taps, channels, fades, gaps and energy accumulators (R269 to R289). The samples themselves are not in
the state: what a cycle or a Tick sums up is given with the command that ends it, and the samples of a cycle item are free values. -/

namespace Sys2Proof.Machine
open Sys2Proof

def chOf (s : State) (c : Nat) : MetroCh := s.metro.chs.getD c {}

def chSet (s : State) (c : Nat) (x : MetroCh) : State := { s with metro := { s.metro with chs := s.metro.chs.set c x } }

def tapOf (s : State) (t : Nat) : Tap := s.metro.taps.getD t {}

def tapSet (s : State) (t : Nat) (x : Tap) : State := { s with metro := { s.metro with taps := s.metro.taps.set t x } }

/-- Sample periods in MC ns: 16 of them take 15,625 ns (R270). -/
def sampleCnt (s : State) : Nat := (s.time.mc - s.metro.anchorMc) * 16 / 15625

/-! ### Responses and fades (R277 to R279) -/

/-- A request for a response with a fade of `m` outputs: the channel, and the disposition (1 STARTED, 2 PENDING, 3 REPLACED,
4 IGNORED). A channel that is off, in a gap or settling takes it at once. -/
def chRequest (mc : Nat) (x : MetroCh) (b m : Nat) : MetroCh × Nat :=
  if x.state ≠ .running then ({ x with resp := b, fade := none, pend := none }, if b = x.resp then 4 else 1)
  else match x.fade with
    | none => if b = x.resp then (x, 4) else ({ x with resp := b, fade := some ⟨x.resp, m, mc⟩ }, 1)
    | some _ =>
      if b = x.resp then (x, 4)
      else match x.pend with
        | none => ({ x with pend := some (b, m) }, 2)
        | some p =>
          if p.1 = b then (x, 4)
          else ({ x with pend := some (b, m), stPendingReplaced := true, replaced := wrapAdd 32 x.replaced 1 }, 3)

/-- The chain state is reset: a fade ends at once, its target or the pending response in force. -/
def chReset (x : MetroCh) : MetroCh :=
  { x with resp := (match x.pend with | some p => p.1 | none => x.resp), fade := none, pend := none }

/-- FADE_END: the pending request starts from the response reached, or is discarded where it names it. -/
def fadeEnd (mc : Nat) (x : MetroCh) : MetroCh :=
  match x.fade with
  | none => x
  | some _ =>
    let y := { x with fade := none, fades := wrapAdd 32 x.fades 1, stSwapDone := true, pend := none }
    match x.pend with
    | some p => if p.1 = x.resp then y else { y with resp := p.1, fade := some ⟨x.resp, p.2, mc⟩ }
    | none => y

def execFadeEnd (c : Fin 96) (s : State) : Host.Outcome State Fault Refusal :=
  finish s (if running s && (chOf s c.val).fade.isSome then chSet s c.val (fadeEnd s.time.mc (chOf s c.val)) else s)

/-! ### Gaps (R280 to R282, R286) -/

/-- Channels of a tap in gap. -/
def gapMask (s : State) (t : Nat) : Nat :=
  ([0, 1, 2, 3, 4, 5].map (fun i => if (chOf s (6 * t + i)).state = .gap then 2 ^ i else 0)).sum

/-- A channel enters CHAIN_GAP, its first missing sample at an MC instant. -/
def enterGap (s : State) (c firstMc : Nat) : State :=
  let x := chOf s c
  let t := c / 6
  if x.state ≠ .running && x.state ≠ .settling then s
  else
    let s1 := chSet s c { x with state := .gap, stGapSeen := true, gapLastMc := firstMc }
    let tap := tapOf s1 t
    let s2 := if tap.intEnable.getLsbD (c % 6) then { s1 with irq := irqRaise s1.irq 12 } else s1
    if tap.gapPosted then s2
    else emit1 (tapSet s2 t { tap with gapPosted := true })
      (.event .chainGap 0 mb01 [(t, 1), (gapMask s2 t, 1), (0, 2), (firstMc, 8)])

def execChainGap (c : Fin 96) (firstMc : Nat) (s : State) : Host.Outcome State Fault Refusal :=
  finish s (if running s then enterGap s c.val firstMc else s)

/-- CHAIN_GAP_END: `durNs` from the first missing to the first returning sample. -/
def execChainGapEnd (c : Fin 96) (durNs : Nat) (s : State) : Host.Outcome State Fault Refusal :=
  finish s (if running s && decide ((chOf s c.val).state = .gap) then
    let x := chReset (chOf s c.val)
    chSet s c.val { x with
      state := .settling, gapLastNs := durNs, gaps := wrapAdd 32 x.gaps 1, longestGapUs := max x.longestGapUs (durNs / 1000) }
  else s)

/-- SETTLING_END. -/
def execSettlingEnd (c : Fin 96) (s : State) : Host.Outcome State Fault Refusal :=
  finish s (if running s && decide ((chOf s c.val).state = .settling) then chSet s c.val { chOf s c.val with state := .running } else s)

/-! ### Tracking (R275, R276) -/

/-- A rising crossing of VA, judged as R50 judges a detector's, at whole periods. -/
def selfReport (d0 : Detector) (x mc : Nat) : Detector :=
  let d := { d0 with reportMc := mc }
  let step := 2 * d.halfPeriod
  let pred := if step = 0 || x + zcWindow < d.predicted then d.predicted else d.predicted + (x + zcWindow - d.predicted) / step * step
  let good := decide (absDiff x pred ≤ zcWindow)
  let take := fun (d : Detector) =>
    let h := openDiv .halfPeriod (x - d.lastEt) 2
    let hs := if halfMin ≤ h && h ≤ halfMax then (h :: d.halves).take 16 else d.halves
    let hp := meanHalf hs
    { d with halves := hs, halfPeriod := hp, lastEt := x, predicted := x + 2 * hp, accepted := d.accepted + 1, rejects := 0 }
  match d.state with
  | .lost => match d.seed with
    | none => { d with seed := some x }
    | some y =>
      let h := openDiv .halfPeriod (x - y) 2
      if halfMin ≤ h && h ≤ halfMax then
        { d with state := .acquiring, seed := none, halves := [h], halfPeriod := h, predicted := x + 2 * h, accepted := 0, rejects := 0, lastEt := x }
      else { d with seed := some x }
  | .acquiring =>
    if good then
      let d1 := take d
      if 16 ≤ d1.accepted then { d1 with state := .locked } else d1
    else { d with accepted := 0, halves := [d.halfPeriod], lastEt := x, predicted := x + 2 * d.halfPeriod }
  | .locked =>
    if good then take d
    else if 8 ≤ d.rejects + 1 then { d with state := .lost, seed := none, rejects := 0, halves := [], accepted := 0 }
    else { d with rejects := d.rejects + 1 }

/-- The detector that a tap tracks. -/
def tapSource (s : State) (t : Nat) : Detector :=
  let k := prmN s .tapTrackSrc t
  if k < 4 then detOf s.plc k else (tapOf s t).det

def sourceLocked (s : State) (t : Nat) : Bool := (tapSource s t).state = .locked

/-- TRACK as TAP_STATUS shows it: a tap whose source is not LOCKED is in HOLD. -/
def trackNow (s : State) (t : Nat) : Track :=
  match (tapOf s t).track with
  | .never => .never
  | k => if sourceLocked s t then k else .hold

/-- R of channel index 0 of a tap, in Q8.24 (R274). -/
def ratioOf (s : State) (t periodNs : Nat) : Nat :=
  let d := max 1 (prmN s .chMaDec (6 * t))
  let k := max 1 (prmN s .chK (6 * t))
  1024000 * periodNs * 2 ^ 24 / (d * k * nsPerS)

/-! ### Cycles (R283, R284, R287) -/

def wrap64 (n : Nat) : Nat := n % 2 ^ 64

/-- A cycle's sums reach the accumulators of a phase. -/
def cycleInto (a : Accs) (c : CyclePhase) : Accs :=
  let p := c.pc.natAbs
  let q := c.qc.natAbs
  let a1 := if 0 ≤ c.pc then { a with aImp := wrap64 (a.aImp + p) } else { a with aExp := wrap64 (a.aExp + p) }
  if 0 ≤ c.pc then
    (if 0 ≤ c.qc then { a1 with q1 := wrap64 (a1.q1 + q) } else { a1 with q4 := wrap64 (a1.q4 + q) })
  else if 0 ≤ c.qc then { a1 with q2 := wrap64 (a1.q2 + q) } else { a1 with q3 := wrap64 (a1.q3 + q) }

def cycleAdd (l : List MetroPhase) (cs : List CyclePhase) : List MetroPhase :=
  (l.zip (List.range 3)).map (fun x => match cs[x.2]? with
    | some y => { x.1 with acc := cycleInto x.1.acc y }
    | none => x.1)

/-- The samples of a cycle of a channel: free values, zero with GAP in a gap; bit 25 SETTLING, bit 27 FADING. -/
def sampleWord (x : MetroCh) (ctr i : Nat) : Nat :=
  (if x.state = .gap then 2 ^ 24 else Config.freeValue (ctr + i) % 2 ^ 24) + (if x.state = .settling then 2 ^ 25 else 0) +
  (if x.fade.isSome then 2 ^ 27 else 0)

def kCode (k : Nat) : Nat := if k = 64 then 0 else if k = 128 then 1 else 2

/-- The words of a cycle item (R287). -/
def cycleWords (s : State) (c : Nat) (t : Tap) (periodNs ctr : Nat) : List Nat :=
  let x := chOf s c
  let k := prmN s .chK c
  let flags := b2n t.cycleHold + 2 * b2n x.fade.isSome
  [24 + 4 * k, 0, c + kCode k * 2 ^ 8 + x.resp * 2 ^ 16 + flags * 2 ^ 24 + t.cycleSeq % 2 ^ 32 * 2 ^ 32, et64 t.cycleEt, periodNs % 2 ^ 32] ++
  (List.range (k / 2)).map (fun j => sampleWord x ctr (2 * j) + sampleWord x ctr (2 * j + 1) * 2 ^ 32)

/-- A channel's last output exists: its item goes to its queue, or is counted as dropped. -/
def cycleOut (t : Tap) (periodNs : Nat) (s : State) (c : Nat) : State :=
  let x := chOf s c
  let k := prmN s .chK c
  if x.state = .off then s
  else
    let ctr := s.freeCtr
    let s1 := chSet { s with freeCtr := s.freeCtr + k } c { x with lastOut := sampleWord x ctr (k - 1) }
    let q := prm s .chOutQueue c
    if q < 0 then s1
    else match qItem s1 q.toNat (cycleWords s c t periodNs ctr) with
      | some s2 => s2
      | none => chSet s1 c { chOf s1 c with outDrops := (chOf s1 c).outDrops + 1 }

def channelsOf (t : Nat) : List Nat := [0, 1, 2, 3, 4, 5].map (fun i => 6 * t + i)

/-- The open cycle of a tap ends: energy sums, then the cycle items. -/
def cycleClose (s : State) (t : Nat) (phases : List CyclePhase) : State :=
  let x := tapOf s t
  if !x.open_ then s
  else
    let s1 := (channelsOf t).foldl (cycleOut x x.periodNs) s
    tapSet s1 t { x with phases := cycleAdd x.phases phases, open_ := false, tickHold := x.tickHold || x.cycleHold }

/-- A cycle starts. -/
def cycleStart (s : State) (t et periodNs : Nat) (hold : Bool) : State :=
  let x := tapOf s t
  tapSet s t { x with
    periodNs := periodNs, ratio := ratioOf s t periodNs, cycleSeq := wrapAdd 32 x.cycleSeq 1, cycleEt := et, cycleHold := hold, open_ := true
    tickHold := x.tickHold || hold
    track := if hold then (if x.track = .never then .never else .hold) else .locked }

/-- TAP_CROSSING: a rising crossing at `et`; `phases` are the sums of the cycle it ends. -/
def tapCrossingEff (tap : Fin 16) (et : Nat) (phases : List CyclePhase) (s : State) : State :=
  let t := tap.val
  let x := tapOf s t
  if !x.enabled || !domainOn s pdMetro then s
  else
    let self := decide (prmN s .tapTrackSrc t = 4)
    let s1 := if self then tapSet s t { x with det := selfReport x.det et s.time.mc } else s
    let d := tapSource s1 t
    let accepted := d.state = .locked && (!self || d.lastEt = et)
    if accepted then cycleStart (cycleClose s1 t phases) t et (2 * d.halfPeriod) false else s1

def execTapCrossing (tap : Fin 16) (et : Nat) (phases : List CyclePhase) (s : State) : Host.Outcome State Fault Refusal :=
  finish s (if running s then tapCrossingEff tap et phases s else s)

/-- T of a tap without a lock: its last, or that of its nominal frequency. -/
def holdPeriod (s : State) (t : Nat) : Nat :=
  let p := (tapOf s t).periodNs
  if p = 0 || (tapOf s t).track = .never then nsPerS / max 1 (prmN s .tapNominalHz t) else p

/-- PREDICTED_CYCLE_START: of a tap whose source is not LOCKED. A SELF source without a crossing for 50 ms is LOST. -/
def predictedEff (tap : Fin 16) (phases : List CyclePhase) (s0 : State) : State :=
  let t := tap.val
  let x := tapOf s0 t
  let s := if x.det.state ≠ .lost && zcSilenceNs ≤ s0.time.mc - x.det.reportMc then tapSet s0 t { x with det := zcLose x.det } else s0
  if !x.enabled || !domainOn s pdMetro || sourceLocked s t then s
  else
    let p := holdPeriod s t
    let et := if x.open_ then x.cycleEt + p else etNs s
    cycleStart (cycleClose s t phases) t et p true

def execPredictedCycleStart (tap : Fin 16) (phases : List CyclePhase) (s : State) : Host.Outcome State Fault Refusal :=
  finish s (if running s then predictedEff tap phases s else s)

/-! ### Tick latches (R285) -/

/-- Latch one phase: its accumulators with the Tick's V²t and I²t, and what the Tick was like. -/
def latchPhase (tick : Nat) (stepped hold inGap : Bool) (p : MetroPhase) (k : TickPhase) : MetroPhase :=
  let a := { p.acc with v2t := wrap64 (p.acc.v2t + k.v2t), i2t := wrap64 (p.acc.i2t + k.i2t) }
  { acc := a
    latch := { acc := a, tick := tick, samples := k.samples, gapNs := k.gapNs, gap := decide (0 < k.gapNs) || inGap, qSettling := k.qSettling
               clip := k.vClip || k.iClip, stepped := stepped, trackHold := hold } }

/-- What two latches of a phase differ by, for the balance unit. -/
def latchDiff (old new : Latch) : TapSum :=
  let sub := fun (a b : Nat) => (a + 2 ^ 64 - b) % 2 ^ 64
  { net := ((sub new.acc.aImp old.acc.aImp : Nat) : Int) - (sub new.acc.aExp old.acc.aExp : Nat)
    i2t := sub new.acc.i2t old.acc.i2t, v2t := sub new.acc.v2t old.acc.v2t, samples := new.samples, gapNs := new.gapNs
    clip := new.clip, stepped := new.stepped }

/-- Peaks and sticky bits of one channel. -/
def chTick (s : State) (c peak : Nat) (clip sat : Bool) : State :=
  let x := chOf s c
  chSet s c { x with peak := peak % 16384, stClip := x.stClip || clip, stSat := x.stSat || sat }

def noTick : TickPhase := { v2t := 0, i2t := 0, samples := 0, gapNs := 0 }

/-- Latch an enabled tap for the Tick just ended. -/
def latchTap (tick : Nat) (stepped : Bool) (l : List TickPhase) (s : State) (t : Nat) : State :=
  let x := tapOf s t
  if !x.enabled then s
  else
    let at_ := fun (p : Nat) => (l[p]?).getD noTick
    let inGap := fun (p : Nat) => decide ((chOf s (6 * t + p)).state = .gap) || decide ((chOf s (6 * t + 3 + p)).state = .gap)
    let ph := (x.phases.zip (List.range 3)).map (fun y => latchPhase tick stepped (x.tickHold || x.cycleHold) (inGap y.2) y.1 (at_ y.2))
    let s1 := tapSet s t { x with phases := ph, tickHold := x.open_ && x.cycleHold, gapPosted := false }
    [0, 1, 2].foldl (fun s p =>
      let k := at_ p
      chTick (chTick s (6 * t + p) k.vPeak k.vClip k.vSat) (6 * t + 3 + p) k.iPeak k.iClip k.iSat) s1

/-- Latch every tap; the sums that each phase adds, by 3 × tap + phase. -/
def latchAll (tick : Nat) (stepped : Bool) (l : List (Nat × List TickPhase)) (s : State) : State × List (Nat × TapSum) :=
  let ts := (s.metro.taps.filter (fun e => e.2.enabled)).map Prod.fst
  let s1 := ts.foldl (fun s t => latchTap tick stepped (match l.find? (fun e => e.1 = t) with | some e => e.2 | none => []) s t) s
  let d := (ts.map (fun t => [0, 1, 2].map (fun p =>
    (3 * t + p, latchDiff (((tapOf s t).phases[p]?).getD {}).latch (((tapOf s1 t).phases[p]?).getD {}).latch)))).flatten
  (s1, d)

/-! ### Configuration (R274, R288) -/

/-- The tap of a metrology parameter. -/
def metroTap (i : ParamId) : Option Nat :=
  match i.key with
  | .tapEnable | .tapVLsb | .tapILsb | .tapTrackSrc | .tapNominalHz => some i.idx
  | .chMaLen | .chMaDec | .chResponse | .chK | .chFadeLen | .chOutQueue => some (i.idx / 6)
  | _ => none

/-- R at 45 Hz and at 65 Hz lies from 0.125 to 64. -/
def ratioOk (d k : Int) : Bool := decide (65 * d * k ≤ 8 * 1024000) && decide (1024000 ≤ 64 * 45 * d * k)

/-- The settings of a channel as they will stand are possible: its ratio, and an output queue that PF0 or PF1 owns. -/
def chSettingOk (s : State) (l : List (ParamId × PVal)) (i : ParamId) (v : Int) : Bool :=
  match i.key with
  | .chMaDec | .chK => ratioOk (prmIn l .chMaDec i.idx) (prmIn l .chK i.idx)
  | .chOutQueue => decide (v < 0) || (!qEngine s v.toNat && (qOf s v.toNat).owner ≠ .free)
  | _ => true

/-- A list of metrology settings, accepted whole or not at all. -/
def acceptMetro (s : State) (l : List (ParamId × PVal)) : Option State :=
  let will := l.foldl (fun a e => putParam a e.1 e.2) (nextParams s)
  if l.all (fun e => chSettingOk s will e.1 e.2.val) then acceptParams s (graphBudget s) l else none

/-- A disposition field. -/
def dispBody (l : List (Nat × Nat)) : Body := [((l.map (fun e => e.2 * 2 ^ (4 * e.1))).sum, 48)]

def ciTapConfigure : CmdInfo := { code := 0x0801, plain := 0x01, states := 0x0E, w := true, c := true }

/-- TAP_CONFIGURE. -/
def tapConfigure (tap : Nat) (l : List ParamArg) (s : State) : Reply :=
  let mine := l.all (fun a => match a.name with | some i => metroTap i = some tap | none => false)
  if 15 < tap || !mine then deny s .badParam
  else
    let ps := l.filterMap (fun a => a.name.map (fun i => (i, a.value)))
    match acceptMetro s ps with
    | none => deny s .badParam
    | some s1 =>
      let d := (ps.filter (fun e => e.1.key = .chResponse)).map (fun e =>
        (e.1.idx, (chRequest s.time.mc (chOf s e.1.idx) e.2.val.toNat (prmN s .chFadeLen e.1.idx)).2))
      ⟨s1, .ok, dispBody d, []⟩

def execTapConfigure (r : Req) (tap : BitVec 8) (params : List ParamArg) (s : State) : Host.Outcome State Fault Refusal :=
  finish s (gmi ciTapConfigure r (tapConfigure tap.toNat params) s)

def ciChainSelect : CmdInfo := { code := 0x0802, plain := 0x03, states := 0x0E, w := true }

/-- One channel of a CHAIN_SELECT_RESPONSE. -/
def selectOne (resp len : Nat) (a : State × List (Nat × Nat)) (c : Nat) : State × List (Nat × Nat) :=
  let m := if len = 0 then prmN a.1 .chFadeLen c else len
  let o := chRequest a.1.time.mc (chOf a.1 c) resp m
  (chSet a.1 c o.1, a.2 ++ [(c, o.2)])

/-- CHAIN_SELECT_RESPONSE. -/
def chainSelect (channels : BitVec 96) (resp len : Nat) (s : State) : Reply :=
  if 31 < resp || (len ≠ 0 && (len < 64 || 4096 < len)) then deny s .badParam
  else
    let o := ((List.range 96).filter (fun c => channels.getLsbD c)).foldl (selectOne resp len) (s, [])
    ⟨o.1, .ok, dispBody o.2, []⟩

def execChainSelectResponse (r : Req) (channels : BitVec 96) (response : BitVec 8) (fadeLen : Word16) (s : State) :
    Host.Outcome State Fault Refusal :=
  finish s (gmi ciChainSelect r (chainSelect channels response.toNat fadeLen.toNat) s)

/-- A channel runs anew: its chain state is reset and it settles. -/
def chRestart (s : State) (c : Nat) : State :=
  let x := chReset (chOf s c)
  chSet s c { x with state := if x.state = .gap then .gap else .settling }

def chOff (s : State) (c : Nat) : State := chSet s c { chReset (chOf s c) with state := .off }

/-- A tap whose settings have come into force; `due` are the changes. -/
def metroTapApply (due : List PendParam) (s : State) (t : Nat) : State :=
  let x := tapOf s t
  let en := prm s .tapEnable t = 1
  if en && !x.enabled then
    let s1 := tapSet s t { x with enabled := true, cycleSeq := 0, open_ := false, track := .never, det := {}, periodNs := 0, tickHold := false }
    (channelsOf t).foldl (fun s c => chRestart (chSet s c { chOf s c with resp := prmN s .chResponse c }) c) s1
  else if !en && x.enabled then (channelsOf t).foldl chOff (tapSet s t { x with enabled := false, open_ := false })
  else if en then
    let cs := (due.filter (fun q => (q.id.key = .chMaLen || q.id.key = .chMaDec || q.id.key = .chK) && q.id.idx / 6 = t)).map (fun q => q.id.idx)
    (channelsOf t).foldl (fun s c => if cs.contains c then chRestart s c else s) s
  else s

/-- Metrology settings that come into force at a Tick boundary (R288). -/
def metroApply (due : List PendParam) (s : State) : State :=
  let ts := due.filterMap (fun q => metroTap q.id)
  let s1 := ([0, 1, 2, 3, 4, 5, 6, 7, 8, 9, 10, 11, 12, 13, 14, 15].filter (fun t => ts.contains t)).foldl (metroTapApply due) s
  (due.filter (fun q => q.id.key = .chResponse)).foldl (fun s q =>
    let c := q.id.idx
    chSet s c (chRequest s.time.mc (chOf s c) q.val.val.toNat (prmN s .chFadeLen c)).1) s1

end Sys2Proof.Machine
end

