-- ==== Sys2Proof/Machine/Balance.lean ====
section
/-! DEFINITION. Energy balance, phase identification and the theft rules (R290 to R314). -/

namespace Sys2Proof.Machine
open Sys2Proof

/-! ### Balance intervals (R293, R295, R538) -/

def lbOf (code : Nat) : Nat := lenOfCode code

/-- The first interval end of a length after an instant. -/
def endAfter (s : State) (lenS x : Nat) : Nat := endAt s lenS (endIdx s lenS x + 1)

/-- The balance interval that contains an instant, with its topology: the current one for ends after its activation, else the
previous one while it is kept (R293). -/
def ivalOf (s : State) (x : Nat) : Option (Topo × Nat) :=
  match (balOf s).topo with
  | none => none
  | some t =>
    let e := endAfter s t.lenS x
    if t.at_ < e then some (t, e)
    else match (balOf s).prev with
      | none => none
      | some p =>
        let e1 := endAfter s p.lenS x
        if e1 ≤ t.at_ then some (p, e1) else none

/-- The balance interval in which a report ends. -/
def ivalEnding (s : State) (x : Nat) : Option (Topo × Nat) := ivalOf s (x - 1)

def insIv (v : BalIval) : List BalIval → List BalIval
  | [] => [v]
  | w :: l => if v.endNs < w.endNs then v :: w :: l else w :: insIv v l

/-- Change an interval's data, listing the interval first where it is new. -/
def ivalMod (s : State) (e lenS : Nat) (f : BalIval → BalIval) : State :=
  let b := balOf s
  if b.ivals.any (fun v => v.endNs == e) then
    setBal s { b with ivals := b.ivals.map (fun v => if v.endNs = e then f v else v) }
  else setBal s { b with ivals := insIv (f { endNs := e, lenS := lenS }) b.ivals }

def ivalGet (s : State) (e : Nat) : Option BalIval := (balOf s).ivals.find? (fun v => v.endNs == e)

/-- The interval has been computed and is still among the last that revisions reach (R303). -/
def revisable (s : State) (e : Nat) : Bool :=
  (match ivalGet s e with | some v => v.computed | none => false) &&
  decide (((balOf s).ivals.filter (fun v => v.computed && decide (e < v.endNs))).length < prmN s .balRevise)

def addTo (t : Tbl Int) (d : Int) (l : List Nat) : Tbl Int := l.foldl (fun t n => t.set n (t.getD n 0 + d)) t

def addNat (t : Tbl Nat) (d : Nat) (l : List Nat) : Tbl Nat := l.foldl (fun t n => t.set n (t.getD n 0 + d)) t

def addNodes (l new : List Nat) : List Nat := l ++ new.filter (fun n => !l.contains n)

def balCount (s : State) (f : BalSt → BalSt) : State := { s with bal := f s.bal }

/-- A late change beyond what revisions reach is only counted. -/
def balLate (s : State) : State := balCount s (fun b => { b with lateBeyond := b.lateBeyond + 1 })

/-! ### BALANCE_ACCUM (R294, R299, R303) -/

/-- An interval record's DELTA and coverage. -/
def accumRec (s : State) (r : IRec) : State :=
  let l := lenOfCode r.icode
  match ivalOf s (r.endNs - l * nsPerS) with
  | none => match (balOf s).topo with
    | none => balCount s (fun b => { b with unattributed := b.unattributed + 1 })
    | some _ => balCount s (fun b => { b with topoStale := b.topoStale + 1 })
  | some (t, e) =>
    if l = 0 || t.lenS % l ≠ 0 then balCount s (fun b => { b with mismatch := b.mismatch + 1 })
    else match attrNode t (mctOf s r.mcx) with
      | none => balCount s (fun b => { b with unattributed := b.unattributed + 1 })
      | some n =>
        let path := pathOf t n
        let w := if r.quality.getLsbD 0 then l else 0
        let late := decide (e ≤ (balOf s).done)
        if late && !revisable s e then
          if e ≤ (match (balOf s).topo with | some c => c.at_ | none => 0) then balCount s (fun b => { b with topoStale := b.topoStale + 1 })
          else balLate s
        else ivalMod s e t.lenS (fun v => { v with
          meters := addTo v.meters (r.delta.ap - r.delta.an) path, weight := addNat v.weight w path
          touched := if late then addNodes v.touched path else v.touched })

/-- Nodes of a topology that a cell supplies. -/
def cellNodes (t : Topo) (c : Nat) : List Nat := (t.nodes.filter (fun x => x.source == 2 && x.srcId == c)).map TopoNode.node

/-- A SUPPLY record. -/
def supplyRec (s : State) (node source srcId : Nat) (m : MeasBody) : State :=
  let x := SBody.supply node source srcId m
  { s with store := { s.store with toStore := s.store.toStore ++ [x], toExport := s.store.toExport ++ [x] } }

/-- A CELL_MEASURE report. -/
def accumMeas (s : State) (c : Nat) (m : MeasBody) : State :=
  match ivalEnding s m.endNs with
  | none => supplyRec s 0xFFFF 2 c m
  | some (t, e) =>
    let nodes := cellNodes t c
    let s1 := if nodes.isEmpty then supplyRec s 0xFFFF 2 c m else nodes.foldl (fun s n => supplyRec s n 2 c m) s
    if m.intervalS = 0 || t.lenS % m.intervalS ≠ 0 then balCount s1 (fun b => { b with ignored := b.ignored + 1 })
    else if (match ivalGet s e with | some v => v.reports.any (fun q => q.cell == c && q.body.endNs == m.endNs) | none => false) then s1
    else
      let late := decide (e ≤ (balOf s1).done)
      if late && !revisable s1 e then balLate s1
      else ivalMod s1 e t.lenS (fun v => { v with
        reports := v.reports ++ [⟨c, m⟩]
        touched := if late then addNodes v.touched ((nodes.map (pathOf t)).flatten) else v.touched })

def balanceItem (s : State) (i : Item) : NodeOut :=
  match i.work with
  | .ival r => ⟨accumRec s r, [i]⟩
  | .measure c m => ⟨accumMeas s c m, []⟩
  | _ => ⟨s, [i]⟩

/-- BALANCE_ACCUM. -/
def execBalanceAccum (core : Fin 64) (s : State) : Host.Outcome State Fault Refusal :=
  finish s (if running s then nodeWork tBalance core.val noLine balanceItem s else s)

/-- What the latches of a Tick add, at its boundary: `start` is the ET instant at which the Tick started (R295, R298). -/
def balTaps (s : State) (start : Nat) (stepped : Bool) (l : List (Nat × TapSum)) : State :=
  match ivalOf s start with
  | none => s
  | some (t, e) =>
    let minute := (start - (e - t.lenS * nsPerS)) / (60 * nsPerS)
    let plus := fun (a b : TapSum) =>
      ({ net := a.net + b.net, i2t := a.i2t + b.i2t, v2t := a.v2t + b.v2t, samples := a.samples + b.samples, gapNs := a.gapNs + b.gapNs
         clip := a.clip || b.clip, stepped := a.stepped || b.stepped } : TapSum)
    ivalMod s e t.lenS (fun v => l.foldl (fun v q =>
      let m := v.volts.getD q.1 []
      let old := m.getD minute (0, 0)
      { v with taps := v.taps.set q.1 (plus (v.taps.getD q.1 {}) q.2)
               volts := v.volts.set q.1 (m.set minute (old.1 + q.2.v2t, old.2 + q.2.samples)) })
      { v with stepped := v.stepped || stepped })

/-! ### Measured supply (R295 to R297) -/

/-- A node's measurement: net Wh, I²t in 10^-9 A²s. -/
structure Meas where
  wh : Int := 0
  i2t : Nat := 0
  est : Bool := false
  clip : Bool := false
  reason : BalReason := .none
  deriving DecidableEq, Repr

/-- The phases that SRC_PHASE names. -/
def srcPhases (x : TopoNode) : List Nat := if x.srcPhase = 0 then [1, 2, 3] else [x.srcPhase]

/-- A phase's counts scaled over its gaps. -/
def tapScale (a : Int) (k : TapSum) : Int := if k.samples = 0 then a else openDivI .energy (a * (15625 * k.samples + 16 * k.gapNs : Nat)) (15625 * k.samples : Nat)

def tapMeas (s : State) (v : BalIval) (x : TopoNode) : Meas :=
  let l := (srcPhases x).map (fun p => v.taps.getD (3 * x.srcId + (p - 1)) {})
  let vl := prmN s .tapVLsb x.srcId
  let il := prmN s .tapILsb x.srcId
  let net := (l.map (fun k => tapScale k.net k)).sum
  let sq := (l.map (fun k => (tapScale k.i2t k).toNat)).sum
  { wh := openDivI .energy (net * (vl * il * 15625 : Nat)) (16 * 3600 * 10 ^ 21)
    i2t := openDiv .energy (sq * il * il * 15625) (16 * 10 ^ 12)
    est := l.any (fun k => decide (0 < k.gapNs)), clip := l.any (fun k => k.clip)
    reason := if l.any (fun k => decide (prmN s .balGapEstMax * v.lenS * nsPerS < k.gapNs * 100)) then .gapTooLong else .none }

/-- The report carries every phase named. -/
def repHas (x : TopoNode) (b : MeasBody) : Bool := (srcPhases x).all (fun p => (phaseRep b p).isSome)

def cellMeas (v : BalIval) (x : TopoNode) : Meas :=
  let l := ((v.reports.filter (fun r => r.cell == x.srcId)).map CellRep.body)
  let ph := (l.map (fun b => (srcPhases x).filterMap (phaseRep b))).flatten
  { wh := (ph.map (fun p => ((p.aImp : Nat) : Int) - (p.aExp : Nat))).sum
    i2t := (ph.map (fun p => p.i2t * 1000000000)).sum
    reason :=
      if (l.map (fun b => b.intervalS)).sum < v.lenS || !l.all (repHas x) then .noMeasure
      else if l.any (fun b => b.isPartial) then .measurePartial
      else if l.any (fun b => b.timeInvalid) || v.invalidCells.contains x.srcId then .measureTimeInvalid
      else .none }

/-- What has been computed so far of an interval: measurements and records by node. -/
structure BalAcc where
  meas : Tbl Meas := []
  recs : Tbl BRec := []
  deriving DecidableEq, Repr

def kids (t : Topo) (n : Nat) : List TopoNode := t.nodes.filter (fun y => y.parent == some n)

/-- A child's result is inconclusive: its record's, or of a node without BALANCE its measurement's. -/
def childBad (a : BalAcc) (y : TopoNode) : Bool :=
  match a.recs.get? y.node with
  | some r => r.reason ≠ .none
  | none => (a.meas.getD y.node {}).reason ≠ .none

def measOf (s : State) (t : Topo) (v : BalIval) (a : BalAcc) (x : TopoNode) : Meas :=
  if x.source = 1 then tapMeas s v x
  else if x.source = 2 then cellMeas v x
  else if x.source = 3 then
    let l := (kids t x.node).map (fun y => a.meas.getD y.node {})
    { wh := (l.map Meas.wh).sum, i2t := (l.map Meas.i2t).sum, est := l.any Meas.est, clip := l.any Meas.clip
      reason := if (kids t x.node).any (childBad a) then .childInconclusive else .none }
  else {}

/-! ### The result (R300, R304) -/

/-- The record of a node, its flag and hits still to be filled in. -/
def balResult (s : State) (v : BalIval) (x : TopoNode) (m : Meas) (expected : Nat) (old : Option BRec) : BRec :=
  let meters := v.meters.getD x.node 0
  let loss := roundDiv (x.kI2r * m.i2t + x.kFixed * v.lenS * 10 ^ 12) (3600 * 10 ^ 15)
  let resid := m.wh - meters - (loss : Int)
  let thr := max x.absThresh (roundDiv (x.relThresh * m.wh.natAbs) 10000)
  let cov := if expected = 0 then 10000 else 10000 * v.weight.getD x.node 0 / (v.lenS * expected)
  let reason := if m.reason ≠ .none then m.reason else if cov < x.minCoverage then .coverage else .none
  { node := x.node, adjustment := old.isSome, flagged := false, hits := 0, reason := reason, endNs := v.endNs
    sense := if reason ≠ .none then .none else if (thr : Int) < resid then .loss else if resid < -(thr : Int) then .excess else .none
    measEstimated := m.est, measClipped := m.clip, stepped := v.stepped
    measured := m.wh, meters := meters, lossModel := loss, residual := resid, threshold := thr, coverage := cov
    revision := match old with | some o => o.revision + 1 | none => 0
    expected := expected, tick := s.vault.tick }

def flagOf (s : State) (n : Nat) : NodeFlag := (balOf s).flags.getD n {}

def senseHits (w : List (Nat × Sense)) (x : Sense) : Nat := if x = .none then 0 else (w.filter (fun e => e.2 = x)).length

/-- The flag after a computation: the present sense stands while it has its M exceedances. -/
def flagNow (w : List (Nat × Sense)) (m : Nat) (cur : Sense) : Sense :=
  if cur ≠ .none && m ≤ senseHits w cur then cur
  else if m ≤ senseHits w .loss then .loss
  else if m ≤ senseHits w .excess then .excess
  else .none

def senseCode : Sense → Nat | .none => 0 | .loss => 1 | .excess => 2

/-- Window and flag of a node after the computation that gave a record (R302). -/
def flagAfter (s : State) (x : TopoNode) (r : BRec) : NodeFlag × BRec × List Emit :=
  let f := flagOf s x.node
  let k := if x.k = 0 then 4 else x.k
  let m := if x.k = 0 then 3 else x.m
  let w := if r.reason = .none then ((r.endNs, r.sense) :: f.window).take k else f.window.take k
  let now := flagNow w m f.flagged
  let day := dayOf (etNs s)
  let days := if (f.flagged = .loss || now = .loss) && !f.lossDays.contains day then (day :: f.lossDays).take 16 else f.lossDays
  let hits := senseHits w (if now = .none then r.sense else now)
  let data := fun (z : Sense) => [(x.node, 2), (senseCode z, 1), (et64 r.endNs, 8), (senseHits w z, 4)]
  let es := if now = f.flagged then []
    else if now = .none then [alarmNow s Config.keyNone 0x810B (data f.flagged)]
    else [alarmNow s Config.keyNone 0x810A (data now)]
  ({ window := w, flagged := now, lossDays := days }, { r with flagged := decide (now ≠ .none), hits := hits }, es)

/-- An adjustment changes the window's entry and leaves the flag (R302). -/
def flagAdjust (s : State) (r : BRec) : NodeFlag × BRec :=
  let f := flagOf s r.node
  let w := if r.reason = .none then f.window.map (fun e => if e.1 = r.endNs then (e.1, r.sense) else e)
    else f.window.filter (fun e => e.1 ≠ r.endNs)
  ({ f with window := w },
   { r with flagged := decide (f.flagged ≠ .none), hits := senseHits w (if f.flagged = .none then r.sense else f.flagged) })

def balOut (s : State) (r : BRec) : State :=
  { s with
    store := { s.store with toStore := s.store.toStore ++ [.balance r], toExport := s.store.toExport ++ [.balance r] }
    bal := { s.bal with written := s.bal.written ++ [r] } }

/-- ACTIVE meters that each node counts (R294, R300). -/
def expectedOf (s : State) (t : Topo) : Tbl Nat :=
  s.p.mct.foldl (fun a e =>
    let l := lenOf (classOf s e.2.cls)
    if e.2.state = .active && t.lenS % l = 0 then
      match attrNode t e.2 with
      | some n => addNat a 1 (pathOf t n)
      | none => a
    else a) []

/-- Nodes with children before their parents. -/
def childrenFirst (t : Topo) : List TopoNode :=
  ((List.range (t.nodes.length + 1)).reverse.map (fun d => t.nodes.filter (fun x => (pathOf t x.node).length == d))).flatten

/-- Compute one node of an interval at its cutoff. -/
def computeNode (t : Topo) (v : BalIval) (exp : Tbl Nat) (a : State × BalAcc) (x : TopoNode) : State × BalAcc :=
  let m := measOf a.1 t v a.2 x
  let acc := { a.2 with meas := a.2.meas.set x.node m }
  if !x.balance then (a.1, acc)
  else
    let q := flagAfter a.1 x (balResult a.1 v x m (exp.getD x.node 0) none)
    let b := balOf a.1
    let s1 := setBal a.1 { b with flags := b.flags.set x.node q.1 }
    (emitAll (balOut s1 q.2.1) q.2.2, { acc with recs := acc.recs.set x.node q.2.1 })

/-- The next interval end to be computed, with its topology. -/
def nextDue (s : State) : Option (Topo × Nat) :=
  let b := balOf s
  match b.topo with
  | none => none
  | some t =>
    let cur := (t, endAfter s t.lenS (max b.done t.at_))
    match b.prev with
    | none => some cur
    | some p =>
      let e := endAfter s p.lenS (max b.done p.at_)
      if e ≤ t.at_ then some (p, e) else some cur

/-- A tap's totals of an interval as the fields of a CELL_MEASURE: active import and export by the sign of the net. -/
def tapPhase (s : State) (t p : Nat) (v : BalIval) : MeasPhase :=
  let k := v.taps.getD (3 * t + p) {}
  let vl := prmN s .tapVLsb t
  let il := prmN s .tapILsb t
  let wh := openDivI .energy (k.net * (vl * il * 15625 : Nat)) (16 * 3600 * 10 ^ 21)
  { aImp := wh.toNat, aExp := (-wh).toNat, rImp := Config.freeValue s.freeCtr, rExp := Config.freeValue (s.freeCtr + 1)
    i2t := openDiv .energy (k.i2t * il * il * 15625) (16 * 10 ^ 21)
    vMean := if k.samples = 0 then 0 else openRoot .volt (k.v2t * vl * vl) k.samples 1000
    iMean := if k.samples = 0 then 0 else openRoot .volt (k.i2t * il * il) k.samples 1000 }

/-- SUPPLY records of the per-interval tap totals (R320). -/
def tapSupply (t : Topo) (v : BalIval) (s : State) : State :=
  (t.nodes.filter (fun x => x.source == 1)).foldl (fun s x =>
    let has := fun (p : Nat) => (srcPhases x).contains p && (v.taps.get? (3 * x.srcId + (p - 1))).isSome
    let ph := fun (p : Nat) => if has p then some (tapPhase s x.srcId (p - 1) v) else none
    { supplyRec s x.node 1 x.srcId
        { endNs := v.endNs, intervalS := v.lenS, phA := ph 1, phB := ph 2, phC := ph 3, isPartial := false, timeInvalid := false } with
      freeCtr := s.freeCtr + 2 }) s

/-- Intervals and topologies no revision reaches leave. -/
def balPrune (s : State) : State :=
  let b := balOf s
  let keep := max (prmN s .balRevise) 8
  let n := (b.ivals.filter (fun v => v.computed)).length
  let ivals := b.ivals.drop (n - keep)
  let after := (b.ivals.filter (fun v => v.computed && (match b.topo with | some t => decide (t.at_ < v.endNs) | none => false))).length
  setBal s { b with ivals := ivals, prev := if prmN s .balRevise ≤ after then none else b.prev }

/-- BALANCE_CUTOFF: the oldest interval whose cutoff is reached is computed (R301). -/
def balanceCutoffEff (s : State) : State :=
  match nextDue s with
  | none => s
  | some (t, e) =>
    if s.time.tickStartEt < e + prmN s .balGrace * t.lenS * nsPerS then s
    else
      let bad := (s.cell.cells.filter (fun c => c.2.timeInvalid)).map Prod.fst
      let s1 := ivalMod s e t.lenS (fun v => { v with invalidCells := bad })
      match ivalGet s1 e with
      | none => s1
      | some v =>
        let exp := expectedOf s1 t
        let a := (childrenFirst t).foldl (computeNode t v exp) (s1, {})
        let s2 := ivalMod (tapSupply t v a.1) e t.lenS (fun v => { v with computed := true, last := a.2.recs })
        let b := balOf s2
        balPrune (setBal s2 { b with done := e })

/-- A STANDBY computes the same records for its digest, and what it stores and reports is what the ACTIVE's delta brings (R400). -/
def shadowed (f : State → State) (s : State) : State :=
  let s1 := f s
  { s1 with alarms := s.alarms, store := { s1.store with toStore := s.store.toStore, toExport := s.store.toExport } }

def standby (s : State) : Bool := s.pair.modePair && decide (s.pair.role = .standby)

def execBalanceCutoff (s : State) : Host.Outcome State Fault Refusal :=
  finish s (if running s && serving s then balanceCutoffEff s else if running s && standby s then shadowed balanceCutoffEff s else s)

/-! ### Adjustment (R303) -/

def adjustNode (t : Topo) (v : BalIval) (a : State × BalAcc) (x : TopoNode) : State × BalAcc :=
  let m := measOf a.1 t v a.2 x
  let acc := { a.2 with meas := a.2.meas.set x.node m }
  match v.touched.contains x.node, v.last.get? x.node with
  | true, some o =>
    let q := flagAdjust a.1 (balResult a.1 v x m o.expected (some o))
    let b := balOf a.1
    let s1 := setBal a.1 { b with flags := b.flags.set x.node q.1 }
    (balOut s1 q.2, { acc with recs := acc.recs.set x.node q.2 })
  | _, _ => (a.1, acc)

/-- One ADJUSTMENT for every node that changes of the Tick touched. -/
def adjustIval (s : State) (v : BalIval) : State :=
  match ivalOf s (v.endNs - 1) with
  | none => s
  | some (t, _) =>
    let a := (childrenFirst t).foldl (adjustNode t v) (s, { recs := v.last })
    ivalMod a.1 v.endNs v.lenS (fun v => { v with touched := [], last := a.2.recs })

/-- The adjustments of a Tick, made by its closing work. -/
def balAdjust (s : State) : State := ((balOf s).ivals.filter (fun v => v.computed && !v.touched.isEmpty)).foldl adjustIval s

/-! ### The topology (R290 to R293) -/

/-- The PARENT chain of a node ends at a root. -/
def rooted (t : Topo) (n : Nat) : Bool :=
  match (pathOf t n).getLast? with
  | some r => match nodeIn t r with | some x => x.parent.isNone | none => false
  | none => false

def nodeOk (t : Topo) (x : TopoNode) : Bool :=
  let childless := (kids t x.node).isEmpty
  decide (x.node < 4096) && ((t.nodes.filter (fun y => y.node == x.node)).length == 1) && rooted t x.node &&
  decide (x.kind ≤ 3) && (if x.kind = 3 then decide (1 ≤ x.phase) && decide (x.phase ≤ 3) else x.phase == 0) &&
  decide (x.source ≤ 3) &&
  (if x.source = 1 || x.source = 2 then decide (x.srcPhase ≤ 3) && decide (x.srcId < (if x.source = 1 then 16 else 1024))
   else x.srcPhase == 0 && x.srcId == 0) &&
  (if x.kind = 3 then
     childless && (match x.parent with
       | some p => (match nodeIn t p with | some y => y.kind == 1 || y.kind == 2 | none => false)
       | none => false) &&
     (!(x.source == 1 || x.source == 2) || x.srcPhase == x.phase)
   else true) &&
  !(x.source == 3 && childless) && !(x.balance && x.source == 0) &&
  decide (x.m ≤ x.k) && decide (x.k ≤ 8) && (decide (x.m = 0) == decide (x.k = 0)) && decide (x.minCoverage ≤ 10000)

def topoOk (p : TopoPkg) (t : Topo) : Bool :=
  p.headerOk && p.reservedOk && decide (p.topologyId ≠ 0) && decide (3 ≤ p.interval) && decide (p.interval ≤ 5) &&
  decide (1 ≤ t.nodes.length) && decide (t.nodes.length ≤ 4096) && ((t.nodes.filter (fun x => x.parent.isNone)).length == 1) &&
  t.nodes.all (nodeOk t)

/-- The first interval end at or after an instant. -/
def endFrom (s : State) (lenS x : Nat) : Nat := if isEnd s lenS x then x else endAfter s lenS x

def ciTopologyLoad : CmdInfo := { code := 0x0803, plain := 0x01, states := 0x06, w := true, pflag := true }

/-- TOPOLOGY_LOAD: the package passes and waits for its activation, or fails and changes nothing. -/
def topologyLoad (r : Req) (f : Fetch TopoPkg) (s : State) : Reply :=
  match f with
  | .fault st => deny s st
  | .got p =>
    let lenS := lbOf p.interval
    let act := endFrom s lenS s.time.tickEndEt
    let t : Topo := ⟨p.topologyId, lenS, p.nodes, act⟩
    let no := fun (s : State) (st : Status) =>
      (⟨s, .pending, [], [.final 0x0803 st [], configRec s 3 st p.topologyId.toNat]⟩ : Reply)
    match trailerFail s r p.trailer 14 with
    | (s1, some st) => no s1 st
    | (s1, none) =>
      if !topoOk p t then no s1 .badParam
      else
        let b := balOf s1
        ⟨setBal s1 { b with next := some t }, .pending, [], [.final 0x0803 .ok [(p.topologyId.toNat, 8), (et64 act, 8)]]⟩

def execTopologyLoad (r : Req) (pkg : Fetch TopoPkg) (s : State) : Host.Outcome State Fault Refusal :=
  finish s (gmi ciTopologyLoad r (topologyLoad r pkg) s)

/-- TOPOLOGY_ACTIVATION: the topology waiting comes into force at its instant (R293). -/
def topologyActivationEff (s : State) : State :=
  let b := balOf s
  match b.next with
  | none => s
  | some t =>
    if etNs s < t.at_ then s
    else emit1 (setBal s { b with topo := some t, prev := b.topo, next := none }) (configRec s 3 .ok t.id.toNat)

def execTopologyActivation (s : State) : Host.Outcome State Fault Refusal :=
  finish s (if running s && (serving s || standby s) then topologyActivationEff s else s)

/-! ### PHASE_CORR (R305 to R308) -/

/-- The three phase voltages of a meter's reference node for an interval, in mV. -/
def refVolts (s : State) (e : Mct) (endNs lenS : Nat) : Option (List Nat) :=
  match (balOf s).topo with
  | none => none
  | some t => match nodeIn t e.topoNode with
    | none => none
    | some x =>
      if !x.phaseRef then none
      else match phaseVolt s t x.node 1 endNs lenS, phaseVolt s t x.node 2 endNs lenS, phaseVolt s t x.node 3 endNs lenS with
        | some a, some b, some c => some [a, b, c]
        | _, _, _ => none

/-- r of a phase in units of 2^-32. -/
def corrR (c : CorrField) (p : Nat) : Int :=
  if c.sxx = 0 || nth c.syy p = 0 then 0 else Config.corrOf (nthInt c.sxy p).toNat c.sxx (nth c.syy p)

/-- The best phase (1 to 3) and its r, and the second r. -/
def corrBest (c : CorrField) : Nat × Int × Int :=
  let a := corrR c 0
  let b := corrR c 1
  let d := corrR c 2
  if b ≤ a && d ≤ a then (1, a, max b d) else if d ≤ b then (2, b, max a d) else (3, d, max a b)

/-- A decimal parameter compared with a correlation. -/
def corrAtLeast (r millionths : Int) : Bool := decide (millionths * 4294967296 ≤ r * 1000000)

/-- The sums after an update with consecutive intervals. -/
def corrUpdate (s : State) (c : CorrField) (lenS vm : Nat) (vp : List Nat) : CorrField :=
  let h := prmN s .balHalfLife
  let dx : Int := (vm : Int) - c.lastVm
  let dy := fun (p : Nat) => ((nth vp p : Nat) : Int) - nth c.lastVp p
  { c with
    sxx := Config.corrStep c.sxx lenS h dx dx
    syy := [0, 1, 2].map (fun p => Config.corrStep (nth c.syy p) lenS h (dy p) (dy p))
    sxy := [0, 1, 2].map (fun p => (Config.corrStep (nthInt c.sxy p).toNat lenS h dx (dy p) : Int))
    w := Config.corrStep c.w lenS h 1 1 }

/-- RUN, CAND and PROPOSED after an update, and the event (R308). -/
def corrJudge (s : State) (m : Nat) (e : Mct) (c : CorrField) : CorrField × List Emit :=
  let b := corrBest c
  let q := decide (prmN s .balMinWeight * 4294967296 ≤ Config.corrWeight c.w) && corrAtLeast b.2.1 (prm s .balRMin) &&
    corrAtLeast (b.2.1 - b.2.2) (prm s .balMargin)
  if !q then ({ c with run := 0, cand := 0, proposed := false }, [])
  else
    let c1 := if b.1 = c.cand then { c with run := satInc 16 c.run } else { c with cand := b.1, run := 1 }
    if c1.run = prmN s .balRunLen && c1.cand ≠ e.topoPhase && !c1.proposed then
      let r := fun (p : Nat) => (encS 2 (corrR c1 p / 262144), 2)
      ({ c1 with proposed := true }, [alarmNow s (keyMcx m) 0x810C [(e.topoPhase, 1), (c1.cand, 1), r 0, r 1, r 2]])
    else (c1, [])

def phaseCorrRec (s : State) (r : IRec) : State :=
  let e := mctOf s r.mcx
  let lenS := lenOfCode r.icode
  if !r.quality.getLsbD 0 || !r.vOwn then s
  else match refVolts s e r.endNs lenS with
    | none => s
    | some vp =>
      let vm := r.vMean * 100
      let prev := endAt s lenS (endIdx s lenS r.endNs - 1) / nsPerS % 4294967296
      let o := if e.corr.lastEnd ≠ 0 && e.corr.lastEnd = prev then corrJudge s r.mcx e (corrUpdate s e.corr lenS vm vp) else (e.corr, [])
      emitAll (updM s r.mcx (fun e => { e with corr := { o.1 with lastEnd := r.endNs / nsPerS % 4294967296, lastVm := vm, lastVp := vp } })) o.2

def phaseCorrItem (s : State) (i : Item) : NodeOut :=
  match i.work with
  | .ival r => ⟨phaseCorrRec s r, [i]⟩
  | _ => ⟨s, [i]⟩

/-- PHASE_CORR. -/
def execPhaseCorr (core : Fin 64) (s : State) : Host.Outcome State Fault Refusal :=
  finish s (if running s then nodeWork tPhaseCorr core.val itemLine phaseCorrItem s else s)

/-! ### Scoring (R312) -/

/-- A sweep for a day visits an entry. -/
def scoreVisit (day : Nat) (s : State) (m : Nat) : State :=
  let x := suspOf s m
  if day < x.dayNum then s
  else if suspNever x then suspSet s m { x with dayNum := day }
  else
    let a := suspTo s m day x
    let b := scoreDay s m a.1
    emitAll (suspSet s m b.1) (a.2 ++ b.2)

/-- The latest day whose sweep is due. -/
def lastDueDay (s : State) : Option Nat :=
  let d := (s.time.tickStartEt - prmN s .balScoreDelay * 60 * nsPerS) / dayNs
  if d = 0 then none else some (d - 1)

/-- SCORING_SWEEP: the sweep in progress, or the next one due, visits as many contexts as the Tick still allows. -/
def scoringSweepEff (s : State) : State :=
  let b := balOf s
  let cur := match b.sweep with
    | some w => some w
    | none => match lastDueDay s, b.sweptDay with
      | some d, some k => if k < d then some (k + 1, 0) else none
      | some d, none => some (d, 0)
      | none, _ => none
  match cur with
  | none => s
  | some (day, nextM) =>
    let todo := (s.p.mct.filter (fun e => decide (nextM ≤ e.1) && (decide (e.2.state = .active) || decide (e.2.state = .suspended)))).map Prod.fst
    let room := prmN s .balScorePerTick - s.bal.scored
    let s1 := (todo.take room).foldl (scoreVisit day) s
    let left := todo.drop room
    let b1 := balOf s1
    balCount (setBal s1 { b1 with sweep := (match left with | m :: _ => some (day, m) | [] => none), sweptDay := some day })
      (fun x => { x with scored := x.scored + (todo.take room).length })

def execScoringSweep (s : State) : Host.Outcome State Fault Refusal :=
  finish s (if running s && serving s then scoringSweepEff s else s)

/-! ### Reports (R304, R309, R313, R482) -/

/-- A page of a listing: as many entries of `size` bytes as sixteen messages hold, from the cursor's position on. -/
def listPage {α : Type} (s : State) (cursor size : Nat) (l : List α) (f : α → Body) : Option Body :=
  (cursorPos s cursor).map (fun pos =>
    let out := (l.drop pos).take (65520 / size)
    let next := if pos + out.length < l.length then mkCursor s (pos + out.length) else 0
    [(next, 8), (out.length, 4), (0, 4)] ++ (out.map f).flatten)

def paged (s : State) : Option Body → Reply
  | some b => ⟨s, .ok, b, []⟩
  | none => deny s .badParam

/-- Before, in the order END, NODE, REVISION. -/
def recBefore (a b : BRec) : Bool :=
  if a.endNs ≠ b.endNs then decide (a.endNs < b.endNs) else if a.node ≠ b.node then decide (a.node < b.node) else decide (a.revision < b.revision)

def insRec (r : BRec) : List BRec → List BRec
  | [] => [r]
  | x :: l => if recBefore r x then r :: x :: l else x :: insRec r l

def ciBalanceReport : CmdInfo := { code := 0x0804, plain := 0x03, roles := 0x07, states := 0x06 }

def balanceReport (node : Nat) (flags : BitVec 8) (frm upTo cursor : Nat) (s : State) : Reply :=
  if (4096 ≤ node && node ≠ 0xFFFF) || 1 < flags.toNat || upTo < frm then deny s .badParam
  else
    let pick := fun (q : SRec × Bool) => match q.1.body with
      | .balance r => if (node = 0xFFFF || r.node = node) && (flags = 1 || !r.adjustment) && frm ≤ et64 r.endNs && et64 r.endNs ≤ upTo && !q.1.lost
          then some r else none
      | _ => none
    let l := ((readRange s.store (fun c => c = 2) 0 mcxLast 0 (2 ^ 64)).filterMap pick).foldl (fun l r => insRec r l) []
    paged s (listPage s cursor 64 l balBody)

def execBalanceReport (r : Req) (node : Word16) (flags : BitVec 8) (fromEnd toEnd cursor : Word64) (s : State) :
    Host.Outcome State Fault Refusal :=
  finish s (gmi ciBalanceReport r (balanceReport node.toNat flags fromEnd.toNat toEnd.toNat cursor.toNat) s)

/-- Meters attributed to a node, in ascending MCX. -/
def metersAt (s : State) (n : Nat) : List Nat :=
  match (balOf s).topo with
  | none => []
  | some t => (s.p.mct.filter (fun e => attrNode t e.2 == some n)).map Prod.fst

/-- Meters attributed to a node or to a descendant of it. -/
def metersUnder (s : State) (n : Nat) : List Nat :=
  match (balOf s).topo with
  | none => []
  | some t => (s.p.mct.filter (fun e => match attrNode t e.2 with | some k => (pathOf t k).contains n | none => false)).map Prod.fst

def phaseEntry (s : State) (m : Nat) : Body :=
  let e := mctOf s m
  let r := fun (p : Nat) => (encS 2 (corrR e.corr p / 262144), 2)
  [(m, 4), (e.topoPhase, 1), (e.corr.cand, 1), (e.corr.run, 2), r 0, r 1, r 2, (min 0xFFFF (Config.corrWeight e.corr.w / 4294967296), 2)]

def ciPhaseReport : CmdInfo := { code := 0x0805, plain := 0x03, roles := 0x05, states := 0x06 }

def phaseReport (node : Nat) (flags : BitVec 8) (cursor : Nat) (s : State) : Reply :=
  if 4096 ≤ node || 1 < flags.toNat then deny s .badParam
  else paged s (listPage s cursor 16 ((metersAt s node).filter (fun m => flags ≠ 1 || (mctOf s m).corr.proposed)) (phaseEntry s))

def execPhaseReport (r : Req) (node : Word16) (flags : BitVec 8) (cursor : Word64) (s : State) : Host.Outcome State Fault Refusal :=
  finish s (gmi ciPhaseReport r (phaseReport node.toNat flags cursor.toNat) s)

/-- An entry of the suspicion table (R310). -/
def suspBody (x : Susp) : Body :=
  [(x.score, 1), (x.rulesDay.toNat, 1), (x.rulesLast.toNat, 1), (x.dropRun, 1), (x.dayAp % 4294967296, 4), (x.meanDay % 4294967296, 4),
   (x.dayN % 65536, 2), (x.dayNum % 65536, 2), (x.nextAp % 4294967296, 4), (x.nextN % 65536, 2), (x.nextRules.toNat, 1), (x.meanDays, 1), (0, 8)]

def ciSuspicionReport : CmdInfo := { code := 0x0806, plain := 0x03, roles := 0x05, states := 0x06 }

def suspicionReport (kind minScore node cursor : Nat) (mcxs : List Word32) (s : State) : Reply :=
  if 1 < kind || (kind = 1 && (4096 ≤ node || !mcxs.isEmpty)) || mcxs.any (fun m => decide (mcxCount ≤ m.toNat)) then deny s .badParam
  else
    let l := if kind = 0 then mcxs.map BitVec.toNat else (metersUnder s node).filter (fun m => decide (minScore ≤ (suspOf s m).score))
    paged s (listPage s cursor 36 l (fun m => (m, 4) :: suspBody (suspOf s m)))

def execSuspicionReport (r : Req) (kind minScore : BitVec 8) (node : Word16) (cursor : Word64) (mcxs : List Word32) (s : State) :
    Host.Outcome State Fault Refusal :=
  finish s (gmi ciSuspicionReport r (suspicionReport kind.toNat minScore.toNat node.toNat cursor.toNat mcxs) s)

end Sys2Proof.Machine
end

