-- ==== Sys2Proof/Machine/Operands.lean ====
section
/-! DEFINITION. The operand form of a register access (R436, R438, R496): which block and offset of BAR0 it names, and which bits of
the 64-bit register it reaches. -/

namespace Sys2Proof.Machine
open Sys2Proof

/-- The blocks of the address map, each with the index of its unit. -/
inductive Block where
  | gctl
  | mbox (m : Nat)
  | int
  | time
  | err
  | dma (n : Nat)
  | queue (q : Nat)
  | pool
  | qport (q : Nat)
  | sched
  | eth (x : Nat)
  | plc (n : Nat)
  | det (d : Nat)
  | rf (n : Nat)
  | mch (c : Nat)
  | mtap (t : Nat)
  | mglob
  | store
  | recd
  | pair
  | power
  | keys
  deriving DecidableEq, Repr

/-- Bytes of BAR0. -/
def barSize : Nat := 0x4000000

/-- A window of the address map: its block from the unit's index, its base, bytes of a unit, units. -/
structure BarWindow where
  block : Nat → Block
  base : Nat
  stride : Nat
  units : Nat

/-- The address map (R496). -/
def barWindows : List BarWindow :=
  [⟨fun _ => .gctl, 0, 0x1000, 1⟩, ⟨.mbox, 0x10000, 0x1000, 8⟩, ⟨fun _ => .int, 0x20000, 0x10000, 1⟩,
   ⟨fun _ => .time, 0x30000, 0x1000, 1⟩, ⟨fun _ => .err, 0x40000, 0x480, 1⟩, ⟨.dma, 0x100000, 0x100, 32⟩,
   ⟨.queue, 0x200000, 0x20, 2048⟩, ⟨fun _ => .pool, 0x210000, 0x10, 1⟩, ⟨.qport, 0x240000, 0x20, 2048⟩,
   ⟨fun _ => .sched, 0x300000, 0x18000, 1⟩, ⟨.eth, 0x400000, 0x10000, 4⟩, ⟨.plc, 0x500000, 0x4000, 16⟩,
   ⟨.det, 0x540000, 0x100, 4⟩, ⟨.rf, 0x600000, 0x4000, 4⟩, ⟨.mch, 0x700000, 0x100, 96⟩, ⟨.mtap, 0x708000, 0x40, 16⟩,
   ⟨fun _ => .mglob, 0x709000, 0x10, 1⟩, ⟨fun _ => .store, 0x800000, 0x80, 1⟩, ⟨fun _ => .recd, 0x900000, 0x2000, 1⟩,
   ⟨fun _ => .pair, 0xA00000, 0x80, 1⟩, ⟨fun _ => .power, 0xB00000, 0x40, 1⟩, ⟨fun _ => .keys, 0xC00000, 0x1B0, 1⟩]

/-- A place in BAR0: a block and the offset of a 64-bit register in its unit. -/
structure BarPlace where
  block : Block
  off : Nat
  deriving DecidableEq, Repr

def BarWindow.holds (w : BarWindow) (a : Nat) : Bool := decide (w.base ≤ a) && decide (a < w.base + w.stride * w.units)

/-- The place that a byte offset falls in. -/
def barPlace (a : Nat) : Option BarPlace :=
  match barWindows.find? (fun w => w.holds a) with
  | some w => some ⟨w.block ((a - w.base) / w.stride), (a - w.base) % w.stride / 8 * 8⟩
  | none => none

/-- Blocks that take aligned 64-bit accesses only: queue data ports and the recorder window (R438, R357). -/
def only64 (p : BarPlace) : Bool :=
  match p.block with
  | .qport _ => true
  | .recd => decide (0x1000 ≤ p.off)
  | _ => false

/-- The access breaks R438. -/
def misaligned (p : BarPlace) (a size : Nat) : Bool := (size ≠ 4 && size ≠ 8) || decide (a % size ≠ 0) || (only64 p && size ≠ 8)

/-- Bits of the 64-bit register that an access reaches: all, its low half, its high half. -/
def maskOfAcc (a size : Nat) : Word64 :=
  if size = 8 then 0xFFFFFFFFFFFFFFFF else if a % 8 = 4 then 0xFFFFFFFF00000000 else 0xFFFFFFFF

/-- The written value in its place in the register. -/
def laneOfAcc (a size : Nat) (v : Word64) : Word64 := (if size = 4 && a % 8 = 4 then v <<< 32 else v) &&& maskOfAcc a size

/-- A register after a write that reaches some of its bits. -/
def mergeReg (old mask v : Word64) : Word64 := (old &&& ~~~mask) ||| (v &&& mask)

/-- Bits `lo` and up, `n` of them. -/
def bitsAt (v : Word64) (lo n : Nat) : Nat := v.toNat / 2 ^ lo % 2 ^ n

end Sys2Proof.Machine
end

