-- ==== Sys2Proof/Machine/Cells.lean ====
section
/-! DEFINITION. Remote cells and the Kiveura Cell Link (R103 to R126). -/

namespace Sys2Proof.Machine
open Sys2Proof

/-- KCL runs: its address is set and the engine holds the role that the address moves with (R104). -/
def kclOn (s : State) : Bool := decide (0 ≤ prm s .kclEngineAddr) && egressOk s

/-- The use of a cell's key that verifying (1) or protecting (0) a message is. -/
def kclUse (usage : Nat) : KeyReq := ⟨0, false, usage, [2], 0⟩

/-- The lane the model takes for a cell's messages. -/
def kclLane (c : Nat) : Nat := c % 16

/-! ### Receiving: header, window, tag (R107) -/

/-- Distance of a SEQ below the highest accepted. -/
def seqBelow (x : CellPort) (q : Word32) : Nat := (x.upSeq - q).toNat

/-- Header and window accept the message, before any decryption. -/
def kclWindowOk (x : CellPort) (h : KclHdr) (hello : Bool) : Bool :=
  if !h.fieldsOk || !h.srcOk then false
  else if !x.upSeen || decide (x.upEpoch < h.epoch) then hello
  else if decide (h.epoch < x.upEpoch) then false
  else if decide (x.upSeq < h.seq) then true
  else decide (seqBelow x h.seq < 256) && !x.upWindow.getLsbD (seqBelow x h.seq)

/-- Record an accepted EPOCH and SEQ. -/
def kclRecord (x : CellPort) (h : KclHdr) (mc : Nat) : CellPort :=
  let y := { x with upSeen := true, upEpoch := h.epoch, lastMsgMc := mc, rxFrames := x.rxFrames + 1 }
  if !x.upSeen || decide (x.upEpoch < h.epoch) then { y with upSeq := h.seq, upWindow := 1 }
  else if decide (x.upSeq < h.seq) then
    { y with upSeq := h.seq, upWindow := (x.upWindow <<< (h.seq - x.upSeq).toNat) ||| 1 }
  else { y with upWindow := x.upWindow ||| BitVec.ofNat 256 (2 ^ seqBelow x h.seq) }

def kclDiscard (s : State) (c : Nat) : State := cellSet s c { cellOf s c with discards := (cellOf s c).discards + 1 }

/-- A KCL message arrives: judged, then handled. `f` is given whether the EPOCH is new. -/
def kclRx (c : Nat) (h : KclHdr) (hello : Bool) (f : Bool → State → State) (s : State) : State :=
  if !kclOn s then s
  else match s.p.cells.get? c with
    | none => { s with cell := { s.cell with strangers := s.cell.strangers + 1 } }
    | some a =>
      let x := cellOf s c
      if !kclWindowOk x h hello then kclDiscard s c
      else match keyJudge s a.key (kclUse 1) with
        | some k => kclDiscard (keyFail s a.key (kclUse 1) k) c
        | none =>
          let v := keyView s a.key
          let s1 := match v with
            | some w => loadKey s false (kclLane c) a.key w.attr.generation w.mat
            | none => s
          if !h.tagOk then kclDiscard s1 c
          else f (!x.upSeen || decide (x.upEpoch < h.epoch)) (cellSet s1 c (kclRecord x h s1.time.mc))

/-- Uplink other than CELL_HELLO is taken while the cell is UP or SILENT (R109). -/
def kclUp (s : State) (c : Nat) : Bool := (cellOf s c).state = .up || (cellOf s c).state = .silent

/-! ### Sending (R106, R112) -/

/-- One message to a cell: the next SEQ, or the next EPOCH when SEQ would wrap. -/
def kclSend (s : State) (c : Nat) : State :=
  let x := cellOf s c
  if x.downSeq + 1 < 2 ^ 32 then cellSet s c { x with downSeq := x.downSeq + 1 }
  else
    let s1 := cellSet s c { x with downSeq := 1, helloSent := x.helloSent + 1 }
    { s1 with p := { s1.p with
        cells := s1.p.cells.modify c (fun a => { a with downEpoch := a.downEpoch + 1 })
        cellEpochs := s1.p.cellEpochs.set c ((s1.p.cells.getD c ⟨0, 0, 0, 0, false, 0⟩).downEpoch + 1) } }

/-- DNUM `d` is below `limit` (DNUMs count modulo 2^32). -/
def dnumBelow (d limit : Word32) : Bool := decide (d ≠ limit) && decide ((limit - d).toNat < 2 ^ 31)

/-- Send what waits while the cell has given credit. -/
def kclPump (s : State) (c : Nat) : Nat → State
  | 0 => s
  | n + 1 =>
    let x := cellOf s c
    match x.waiting with
    | k :: rest =>
      if x.state = .up && dnumBelow x.downNext x.downLimit then
        let m : DownMsg := { dnum := x.downNext, kind := k }
        kclPump (kclSend (cellSet s c { x with waiting := rest, down := x.down ++ [m], downNext := x.downNext + 1 }) c) c n
      else s
    | [] => s

def kclFlush (s : State) (c : Nat) : State := kclPump s c (cellOf s c).waiting.length

/-- Frames of the engine's that wait on the ports of a cell become DOWN_FRAMEs. -/
def collectDown (s : State) (c : Nat) : State :=
  [0, 1, 2, 3].foldl (fun s p =>
    let lp := cellLp c p
    let x := plcPortOf s lp
    if x.down.isEmpty then s
    else
      let ks := x.down.map (fun d => match d.kind with
        | .data m => if d.dst = bcastAddr then DownKind.bcast p else DownKind.frame p m
        | .toneMap h => DownKind.control p h)
      let s1 := plcSet s lp { x with down := [] }
      cellSet s1 c { cellOf s1 c with waiting := (cellOf s1 c).waiting ++ ks }) s

/-! ### Credit for the cell (R112, R113) -/

/-- One past the highest uplink DNUM received. -/
def upTop (x : CellPort) : Word32 :=
  x.upRecv.foldl (fun t d => if dnumBelow d.1 t then t else d.1 + 1) x.upAck

/-- Messages that the input queue of the cell's CELL_RX instance still takes. -/
def cellRoom (s : State) (c : Nat) : Nat :=
  if !serving s || globalPressure s then 0
  else match sourceOf s c with
    | some x => if (nodeSt s x.node).pressure then 0 else match inEdges x with
      | e :: _ => freeCells s e / cellsFor 1184
      | [] => 0
    | none => 0

/-- DNUM_LIMIT as credit allows: it never falls. -/
def raisedLimit (s : State) (c : Nat) : Word32 :=
  let x := cellOf s c
  let top := upTop x
  let byQueue := top + BitVec.ofNat 32 (cellRoom s c)
  let byWindow := x.upAck + BitVec.ofNat 32 (prmN s .kclWindow)
  let lim := if dnumBelow byQueue byWindow then byQueue else byWindow
  if dnumBelow x.upLimit lim then lim else x.upLimit

/-- A Tick's uplink may be acknowledged: durable, and covered by the peer where it is STANDBY and IN_SYNC. -/
def ackable (s : State) (tick : Nat) : Bool :=
  decide (tick ≤ s.store.durable) &&
  (!(s.pair.modePair && s.pair.peerRole = some .standby && s.pair.peerInSync) ||
    decide ((tick : Int) + s.pair.delta ≤ s.pair.peerAck))

/-- Advance DNUM_ACK over what may be acknowledged. -/
def advanceAck (s : State) (x : CellPort) : Nat → CellPort
  | 0 => x
  | n + 1 => match x.upRecv.find? (fun d => d.1 = x.upAck) with
    | some d => if ackable s d.2 then advanceAck s { x with upAck := x.upAck + 1, upRecv := x.upRecv.filter (fun q => q ≠ d) } n else x
    | none => x

/-- BACKLOG_ACK as it may be reported: chunks of Ticks not yet durable hold it back. -/
def backlogAck (s : State) (b : Backlog) : Nat :=
  (b.accepted.filter (fun a => !ackable s a.2)).foldl (fun m a => min m a.1) b.ack

/-- CREDIT goes to the cell, with what may be acknowledged and the limit as it now stands. -/
def sendCredit (s : State) (c : Nat) : State :=
  let x := cellOf s c
  let y := advanceAck s x x.upRecv.length
  let z := { y with
    creditSent := y.creditSent + 1
    backlog := match y.backlog with
      | some b => some { b with accepted := b.accepted.filter (fun a => !ackable s a.2) }
      | none => none }
  let s1 := cellSet s c z
  kclSend (cellSet s1 c { z with upLimit := raisedLimit s1 c }) c

/-- The limit rose. -/
def limitRises (s : State) (c : Nat) : Bool := raisedLimit s c ≠ (cellOf s c).upLimit

/-- A DNUM is held that may be acknowledged. -/
def ackWaits (s : State) (c : Nat) : Bool :=
  let x := cellOf s c
  match x.upRecv.find? (fun d => d.1 = x.upAck) with
  | some d => ackable s d.2
  | none => false

/-- CREDIT_SEND (R112). -/
def creditSendEff (c : Fin 1024) (s : State) : State :=
  let s1 := collectDown s c.val
  kclFlush (sendCredit s1 c.val) c.val

def execCreditSend (c : Fin 1024) (s : State) : Host.Outcome State Fault Refusal :=
  finish s (if running s && kclOn s && decide ((cellOf s c.val).state = .up) && (ackWaits s c.val || limitRises s c.val)
    then creditSendEff c s else s)

/-! ### CELL_HELLO, CELL_STATUS (R109 to R111) -/

/-- PORTS and BANDS agree with CELL_ADMIT. -/
def helloAgrees (a : Admission) (b : HelloBody) : Bool := decide (a.ports.toNat = b.ports) && decide (a.bands.setWidth 4 = b.bands)

/-- The engine resends what the cell has not acknowledged. -/
def resendAll (s : State) (c : Nat) : State :=
  let x := cellOf s c
  let s1 := cellSet s c { x with down := x.down.map (fun m => if m.acked then m else { m with sends := m.sends + 1 }) }
  (x.down.filter (fun m => !m.acked)).foldl (fun s _ => kclSend s c) s1

/-- CELL_HELLO_RX. A new EPOCH is a cell that has started anew: its backlog sessions are its own anew. -/
def helloEff (c : Nat) (b : HelloBody) (fresh : Bool) (s : State) : State :=
  let x := cellOf s c
  match s.p.cells.get? c with
  | none => s
  | some a =>
    if !helloAgrees a b then kclSend (cellSet s c { x with helloSent := x.helloSent + 1 }) c
    else
      let y : CellPort := { x with
        state := .up, fw := b.fw, measureFitted := b.measureFitted, backlogPending := b.backlogPending
        ptpState := b2n b.ptpLocked, downBuf := b.downBuf, helloSent := x.helloSent + 1 }
      let z : CellPort := if fresh then
          { y with
            upAck := b.nextUpDnum, upRecv := [], upLimit := b.nextUpDnum, backlog := none, remembered := []
            downLimit := (match y.down with | m :: _ => m.dnum | [] => y.downNext) + BitVec.ofNat 32 b.downBuf }
        else y
      let s1 := cellSet s c z
      let s2 := cellSet s1 c { z with upLimit := raisedLimit s1 c }
      kclFlush (resendAll (kclSend s2 c) c) c

def execCellHelloRx (c : Fin 1024) (h : KclHdr) (b : HelloBody) (s : State) : Host.Outcome State Fault Refusal :=
  finish s (if running s then kclRx c.val h true (fun fresh s => helloEff c.val b fresh s) s else s)

/-- An unsolicited CELL_HELLO with RESYNC: what the cell had not launched is sent under new DNUMs (R111). -/
def kclResync (s : State) (c : Nat) : State :=
  let x := cellOf s c
  let back := (x.down.filter (fun m => !m.reported)).map (fun m => m.kind)
  let s1 := cellSet s c { x with helloSent := x.helloSent + 1, down := [], waiting := back ++ x.waiting }
  kclFlush (kclSend s1 c) c

/-- CELL_STATUS_RX. -/
def execCellStatusRx (c : Fin 1024) (h : KclHdr) (b : CellStatusBody) (s : State) : Host.Outcome State Fault Refusal :=
  finish s (if running s then kclRx c.val h false (fun _ s =>
    if kclUp s c.val then cellSet s c.val { cellOf s c.val with status := some b, ptpState := b.ptpState } else s) s else s)

/-! ### Uplink (R112 to R114) -/

/-- A credit-controlled uplink message: beyond the limit, a duplicate, or passed once. -/
def uplink (c : Nat) (dnum : Word32) (f : State → State) (s : State) : State :=
  let x := cellOf s c
  if !kclUp s c then s
  else if !dnumBelow dnum x.upLimit && !dnumBelow dnum x.upAck then countDrop s c
  else if dnumBelow dnum x.upAck || x.upRecv.any (fun d => d.1 = dnum) then
    cellSet s c { x with duplicates := x.duplicates + 1 }
  else f (cellSet s c { x with upRecv := x.upRecv ++ [(dnum, s.vault.tick)] })

/-- What an UP_FRAME tells of its hop: SNR, faulted zones, the attempt, the member heard (R56, R70, R76). -/
def upHop (s : State) (c : Nat) (b : UpBody) : State :=
  let lp := cellLp c b.port.val
  let x := plcPortOf s lp
  let k := hopKey b.src.toNat 0
  let x1 := { x with rxFrames := wrapAdd 64 x.rxFrames 1, hops := x.hops.set k (noteSnr (hopOf x k) b.snr) }
  let x2 := if b.compat then x1 else noteAttempt x1 k (decide (b.faulted = 0))
  let z := faultZones x2 k (decide (b.faulted ≠ 0)) b.faulted 0xFF
  let s1 := plcSet s lp z.1
  let s2 := if 0 < z.2 then chEvent s1 lp 1 else s1
  if b.compat then s2 else hearMember s2 lp b.src.toNat

def upInFrame (s : State) (c : Nat) (b : UpBody) : InFrame :=
  { f := b.frame, link := c, cport := b.port.val, rx := b.rxEt, unsynced := s.time.unsynced, timeInvalid := (cellOf s c).timeInvalid }

/-- Put an item into the input queue of the cell's CELL_RX instance. -/
def admitCell (s : State) (c : Nat) (w : Work) : State :=
  match sourceOf s c with
  | some x => admitAt s x (mkItem c w)
  | none => s

/-- UP_FRAME_RX. -/
def execUpFrameRx (c : Fin 1024) (h : KclHdr) (dnum : Word32) (b : UpBody) (s : State) : Host.Outcome State Fault Refusal :=
  finish s (if running s then kclRx c.val h false (fun _ s =>
    uplink c.val dnum (fun s =>
      let s1 := upHop s c.val b
      admitCell s1 c.val (.frame (upInFrame s1 c.val b))) s) s else s)

/-- CELL_MEASURE_RX (R295). -/
def execCellMeasureRx (c : Fin 1024) (h : KclHdr) (dnum : Word32) (b : MeasBody) (s : State) : Host.Outcome State Fault Refusal :=
  finish s (if running s then kclRx c.val h false (fun _ s =>
    uplink c.val dnum (fun s => admitCell s c.val (.measure c.val b)) s) s else s)

/-! ### Backlog (R123 to R125) -/

/-- The session is closed and remembered. -/
def closeBacklog (s : State) (c : Nat) : State :=
  let x := cellOf s c
  match x.backlog with
  | some b => cellSet s c { x with
      backlog := none, remembered := x.remembered.filter (fun r => r.1 ≠ b.id) ++ [(b.id, b.ack, s.time.mc)] }
  | none => s

/-- BACKLOG_BEGIN opens a session, or reopens a remembered one at its BACKLOG_ACK. -/
def backlogBegin (c : Nat) (id first : Word32) (s : State) : State :=
  let open_ := fun (s : State) (ack : Nat) =>
    let x := cellOf s c
    let b : Backlog := { id := id, ack := ack, lastMc := s.time.mc }
    cellSet s c { x with backlog := some b, remembered := x.remembered.filter (fun r => r.1 ≠ id), backlogPending := true }
  let fresh := fun (s : State) =>
    match (cellOf s c).remembered.find? (fun r => r.1 = id) with
    | some r => open_ s r.2.1
    | none => open_ s first.toNat
  match (cellOf s c).backlog with
  | some b => if b.id = id then open_ s b.ack else fresh (closeBacklog s c)
  | none => fresh s

def execBacklogBeginRx (c : Fin 1024) (h : KclHdr) (dnum id first : Word32) (s : State) : Host.Outcome State Fault Refusal :=
  finish s (if running s then kclRx c.val h false (fun _ s => uplink c.val dnum (backlogBegin c.val id first) s) s else s)

/-- Pass one chunk to CELL_RX. -/
def passChunk (s : State) (c : Nat) (l : List UpBody) : State :=
  let s1 := l.foldl (fun s b => upHop s c b) s
  admitCell s1 c (.chunk (l.map (upInFrame s1 c)))

/-- Pass the expected chunk and those that waited behind it. -/
def passHeld (c : Nat) : Nat → State → State
  | 0, s => s
  | n + 1, s => match (cellOf s c).backlog with
    | some b => match b.held.get? b.ack with
      | some l =>
        let b1 : Backlog := { b with ack := b.ack + 1, held := b.held.erase b.ack, accepted := b.accepted ++ [(b.ack, s.vault.tick)] }
        passHeld c n (passChunk (cellSet s c { cellOf s c with backlog := some b1 }) c l)
      | none => s
    | none => s

/-- The session ends once every chunk that BACKLOG_END counts has passed. -/
def backlogTail (c : Nat) (s : State) : State :=
  match (cellOf s c).backlog with
  | some b => match b.tail with
    | some n => if n ≤ b.ack then
        let s1 := closeBacklog s c
        cellSet s1 c { cellOf s1 c with backlogPending := false }
      else s
    | none => s
  | none => s

/-- BACKLOG_CHUNK: below BACKLOG_ACK discarded unread, at it passed, above it held. -/
def backlogChunk (c : Nat) (id : Word32) (chunk : Nat) (l : List UpBody) (s : State) : State :=
  match (cellOf s c).backlog with
  | some b =>
    if b.id ≠ id then s
    else
      let b0 : Backlog := { b with lastMc := s.time.mc }
      let b1 : Backlog := if chunk < b.ack then b0 else { b0 with held := b0.held.set chunk l }
      let s1 := cellSet s c { cellOf s c with backlog := some b1 }
      backlogTail c (passHeld c (b1.held.length + 1) s1)
  | none => s

def execBacklogChunkRx (c : Fin 1024) (h : KclHdr) (dnum id chunk : Word32) (recs : List UpBody) (s : State) :
    Host.Outcome State Fault Refusal :=
  finish s (if running s then kclRx c.val h false (fun _ s =>
    uplink c.val dnum (backlogChunk c.val id chunk.toNat recs) s) s else s)

/-- BACKLOG_END. -/
def backlogEnd (c : Nat) (id : Word32) (chunks : Nat) (s : State) : State :=
  match (cellOf s c).backlog with
  | some b =>
    if b.id ≠ id then s
    else
      let b1 : Backlog := { b with tail := some chunks, lastMc := s.time.mc }
      backlogTail c (cellSet s c { cellOf s c with backlog := some b1 })
  | none => s

def execBacklogEndRx (c : Fin 1024) (h : KclHdr) (dnum id chunks : Word32) (s : State) : Host.Outcome State Fault Refusal :=
  finish s (if running s then kclRx c.val h false (fun _ s => uplink c.val dnum (backlogEnd c.val id chunks.toNat) s) s else s)

/-- BACKLOG_TIMEOUT. -/
def backlogTimeoutEff (c : Fin 1024) (s : State) : State :=
  match (cellOf s c.val).backlog with
  | some b => if prmN s .kclBacklogTimeout * nsPerS ≤ s.time.mc - b.lastMc then closeBacklog s c.val else s
  | none => s

def execBacklogTimeout (c : Fin 1024) (s : State) : Host.Outcome State Fault Refusal :=
  finish s (if running s then backlogTimeoutEff c s else s)

/-- BACKLOG_KEEP_EXPIRY. -/
def execBacklogKeepExpiry (c : Fin 1024) (id : Word32) (s : State) : Host.Outcome State Fault Refusal :=
  finish s (if running s then
    let x := cellOf s c.val
    cellSet s c.val { x with remembered := x.remembered.filter (fun r =>
      !(decide (r.1 = id) && decide (prmN s .kclBacklogKeep * nsPerS ≤ s.time.mc - r.2.2))) }
  else s)

/-! ### Time alignment (R121, R122) -/

/-- TIME_ALIGN_RX. -/
def timeAlignRx (c : Nat) (ptpState : Nat) (offsetNs : Int) (s : State) : State :=
  let x := cellOf s c
  let bad := decide ((prmN s .kclAlignLimit : Int) < offsetNs.natAbs) || ptpState ≠ 1
  let s1 := cellSet s c { x with alignOut := false, ptpState := ptpState, timeInvalid := bad }
  if bad then emit1 s1 (alarmNow s1 (keyLink c) (stCode .timeUnsynced) []) else s1

def execTimeAlignRx (c : Fin 1024) (h : KclHdr) (ptpState : Fin 3) (offsetNs : Int) (s : State) : Host.Outcome State Fault Refusal :=
  finish s (if running s then kclRx c.val h false (fun _ s =>
    if kclUp s c.val then timeAlignRx c.val ptpState.val offsetNs s else s) s else s)

/-- A TIME_ALIGN goes to a cell. -/
def sendAlign (s : State) (c : Nat) : State :=
  let x := cellOf s c
  kclSend (cellSet s c { x with alignOut := true, alignSent := x.alignSent + 1 }) c

/-- TIME_ALIGN_SEND: the periodic one. -/
def execTimeAlignSend (c : Fin 1024) (s : State) : Host.Outcome State Fault Refusal :=
  finish s (if running s && kclOn s && decide ((cellOf s c.val).state = .up) then sendAlign s c.val else s)

/-- At a step of ET every cell that is UP gets a STEP TIME_ALIGN (R122). -/
def alignStep (s : State) : State :=
  if kclOn s then ((s.cell.cells.filter (fun e => e.2.state = .up)).map Prod.fst).foldl sendAlign s else s

/-! ### Downlink: credit, reports, descriptors (R112, R115 to R118) -/

/-- One REPORT: a beacon's verification as R71 takes it, or the end of a frame. -/
def applyReport (c : Nat) (s : State) (r : Report) : State :=
  let x := cellOf s c
  let m := x.down.find? (fun d => d.dnum = r.dnum)
  let s1 := cellSet s c { x with down := x.down.map (fun d => if d.dnum = r.dnum then { d with reported := true } else d) }
  let lp := cellLp c r.port.val
  let beacon := fun (s : State) (robo : Bool) =>
    if r.status = .ok then beaconVerified s lp robo true true
    else if r.status = .beaconImpaired then beaconVerified s lp robo false false
    else s
  match m with
  | some d => match d.kind with
    | .beacon _ _ robo => beacon s1 robo
    | .frame _ mcx => if r.status = .ok then s1 else completeDown s1 mcx r.status
    | .bcast _ => s1
    | .control p k =>
      let q := plcPortOf s1 (cellLp c p)
      if r.status = .ok then plcSet s1 (cellLp c p) { q with hops := q.hops.modify k (fun h => { h with nextAcked := true }) }
      else plcSet s1 (cellLp c p) { q with hops := q.hops.modify k (fun h => { h with nextSet := none, reest := true }) }
  | none => beacon s1 false

/-- CREDIT_RX. -/
def creditRx (c : Nat) (b : CreditBody) (s : State) : State :=
  let x := cellOf s c
  let acked := fun (d : Word32) => dnumBelow d b.ack ||
    (decide ((d - b.ack - 1).toNat < 32) && b.sack.getLsbD (d - b.ack - 1).toNat)
  let s1 := cellSet s c { x with
    down := x.down.map (fun m => if acked m.dnum then { m with acked := true } else m)
    downLimit := if dnumBelow x.downLimit b.limit then b.limit else x.downLimit }
  let s2 := (b.reports.take 32).foldl (applyReport c) s1
  let y := cellOf s2 c
  kclFlush (cellSet s2 c { y with down := y.down.filter (fun m => !(m.acked && m.reported)) }) c

def creditRxEff (c : Fin 1024) (h : KclHdr) (b : CreditBody) (s : State) : State :=
  kclRx c.val h false (fun _ s => if kclUp s c.val then creditRx c.val b s else s) s

/-- CELL_SILENCE. -/
def cellSilenceEff (c : Fin 1024) (s : State) : State :=
  let x := cellOf s c.val
  if x.state = .up && decide (prmN s .kclSilence * 1000000 ≤ s.time.mc - x.lastMsgMc) then
    emit1 (cellSet s c.val { x with state := .silent }) (alarmNow s (keyLink c.val) (stCode .linkDown) [])
  else s

/-- KCL_RTO: the message is sent again under its DNUM. -/
def kclRtoEff (c : Fin 1024) (dnum : Word32) (s : State) : State :=
  let x := cellOf s c.val
  if x.state = .up && x.down.any (fun m => m.dnum = dnum && !m.acked) then
    kclSend (cellSet s c.val { x with down := x.down.map (fun m => if m.dnum = dnum then { m with sends := m.sends + 1 } else m) }) c.val
  else s

def execKclRto (c : Fin 1024) (dnum : Word32) (s : State) : Host.Outcome State Fault Refusal :=
  finish s (if running s && kclOn s then kclRtoEff c dnum s else s)

/-- ET of the next superframe boundary of a port, from the Tick in progress. -/
def nextSuperframeEt (s : State) (lp : Nat) : Nat :=
  let n := max 1 (prmN s .plcSfTicks lp)
  s.time.tickEndEt + (n - pairTickOf s % n - 1) * 10000000

/-- DESCRIPTOR_SEND: the beacon of the next superframe and its fallback beacons go to the cell, and with them the frames that
wait on its ports. -/
def descriptorSendEff (c : Fin 1024) (port : Fin 4) (s : State) : State :=
  let lp := cellLp c.val port.val
  let s1 := buildBeacon s lp (nextSuperframeEt s lp)
  let x := plcPortOf s1 lp
  let sf := (pairTickOf s1 / max 1 (prmN s1 .plcSfTicks lp)) + 1
  let robo := match x.beacon with | some b => b.2.1 | none => false
  let s2 := plcSet s1 lp { x with beacon := none, beaconsSent := x.beaconsSent + 1 }
  let y := cellOf s2 c.val
  kclFlush (collectDown (cellSet s2 c.val { y with waiting := y.waiting ++ [.beacon port.val sf robo] }) c.val) c.val

def execDescriptorSend (c : Fin 1024) (port : Fin 4) (s : State) : Host.Outcome State Fault Refusal :=
  finish s (if running s && kclOn s && decide ((cellOf s c.val).state = .up) && coord s (cellLp c.val port.val)
    then descriptorSendEff c port s else s)

end Sys2Proof.Machine
end

