-- ==== Sys2Proof/Machine/Graph.lean ====
section
/-! DEFINITION. The graph and its scheduler: loading, activation and drain, dispatches, pressure, statistics (R192 to R210, R248). -/

namespace Sys2Proof.Machine
open Sys2Proof

/-! ### Dispatches (R196 to R198, R202) -/

/-- CORE_WORK_REQUEST: the core gets a lane, or blocks. -/
def coreWorkRequestEff (core : Nat) (s0 : State) : State :=
  if (s0.flow.cores.get? core).isSome then s0
  else
    let s := refreshReady s0
    match pickLane s core with
    | some l => dispatch s core l
    | none => if s.flow.blocked.contains core then s
      else { s with flow := { s.flow with blocked := s.flow.blocked ++ [core] } }

def execCoreWorkRequest (core : Fin 64) (s : State) : Host.Outcome State Fault Refusal :=
  finish s (if running s then coreWorkRequestEff core.val s else s)

/-- Charge a dispatch's core time to its instance in the Tick in which it started; an instance of an old graph is charged nothing. -/
def chargeRun (s : State) (core : Nat) (r : Run) : State :=
  let ns := s.time.mc - r.startMc
  let st := nodeSt s r.lane.node
  let cur := r.startTick = s.vault.tick
  let f := s.flow
  let f1 := if cur then { f with busyNs := f.busyNs + ns, coreBusy := f.coreBusy.set core (f.coreBusy.getD core 0 + ns) }
    else { f with prevBusyNs := f.prevBusyNs + ns, corePrev := f.corePrev.set core (f.corePrev.getD core 0 + ns) }
  let s1 := { s with flow := f1 }
  if 1024 ≤ r.lane.node then s1
  else setNode s1 r.lane.node { st with
    usedNs := if cur then st.usedNs + ns else st.usedNs
    prevUsedNs := if cur then st.prevUsedNs else st.prevUsedNs + ns
    waitNs := st.waitNs + r.waitNs }

/-- Discard what is left on the edges of the old graph; it goes once none of its dispatches runs (R195). -/
def endDrain (s : State) : State :=
  match s.flow.old with
  | none => s
  | some o =>
    let es := o.edges.map GEdge.edge
    let items := (es.map (fun e => (edgeSt s e).items)).flatten
    let s1 := items.foldl (fun s i => match i.work with | .down d => completeDown s d.mcx .flushed | _ => s) s
    let f := { s1.flow with edges := s1.flow.edges.filter (fun e => !es.contains e.1), flushed := s1.flow.flushed + items.length, drainTicks := 0 }
    let busy := f.cores.any (fun r => 1024 ≤ r.2.lane.node)
    { s1 with flow := if busy then f else { f with old := none, nodes := f.nodes.filter (fun e => e.1 < 1024) } }

/-- Every edge of the old graph is empty, and none of its dispatches runs. -/
def drained (s : State) : Bool :=
  match s.flow.old with
  | none => false
  | some o => o.edges.all (fun e => (edgeSt s e.edge).items.isEmpty) && !s.flow.cores.any (fun r => 1024 ≤ r.2.lane.node)

/-- DISPATCH_END: a dispatch whose batch is worked off ends; what it reserved and did not use is released. -/
def dispatchEndEff (core : Nat) (s : State) : State :=
  match s.flow.cores.get? core with
  | none => s
  | some r =>
    if !r.batch.isEmpty then s
    else
      let s1 := r.resv.foldl (fun s q => reserveOn s q.1 (-(q.2 : Int))) (chargeRun s core r)
      let s2 := { s1 with flow := { s1.flow with cores := s1.flow.cores.erase core, lockWait := s1.flow.lockWait.filter (fun w => w.1 ≠ core) } }
      reschedule (if s2.flow.old.isSome && (drained s2 || s2.flow.drainTicks = 0) then endDrain s2 else s2)

def execDispatchEnd (core : Fin 64) (s : State) : Host.Outcome State Fault Refusal :=
  finish s (if running s then dispatchEndEff core.val s else s)

/-- DISPATCH_BOUND_EXCEEDED: an entry of class SCHED; the dispatch runs on. -/
def dispatchBoundEff (core : Nat) (s : State) : State :=
  match s.flow.cores.get? core with
  | none => s
  | some r => match nodeRec s r.lane.node with
    | none => s
    | some x =>
      if r.boundHit || s.time.mc - r.startMc ≤ x.batchMax * 200000 then s
      else emit1 { s with flow := { s.flow with cores := s.flow.cores.set core { r with boundHit := true } } }
        (.trouble ⟨8, 0, locOpen, accByte 1 0 false, .timeout, [x.node % 256, x.node / 256]⟩)

def execDispatchBoundExceeded (core : Fin 64) (s : State) : Host.Outcome State Fault Refusal :=
  finish s (if running s then dispatchBoundEff core.val s else s)

/-- JOURNAL_LIMIT_REACHED: every source comes under pressure until the boundary (R203). -/
def execJournalLimitReached (s : State) : Host.Outcome State Fault Refusal :=
  finish s (if running s && !s.flow.journalLimit && decide (prmN s .schedJournalLimit * 1024 ≤ s.flow.journalBytes) then
    { s with flow := { s.flow with journalLimit := true, limitTicks := s.flow.limitTicks + 1 } }
  else s)

/-- EXPORT_STALL: an export's send window stays full, or drains again (R201). -/
def exportStallEff (k : Nat) (on : Bool) (s : State) : State :=
  match s.mb.exports.get? k with
  | none => s
  | some e =>
    if e.stalled = on then s
    else
      let ms := if on then prmN s .schedExportStall else (s.time.mc - s.flow.exportStall.getD k s.time.mc) / 1000000
      { s with
        mb := { s.mb with exports := s.mb.exports.set k { e with stalled := on, stalledMs := e.stalledMs + ms } }
        flow := { s.flow with exportStall := if on then s.flow.exportStall.set k s.time.mc else s.flow.exportStall.erase k } }

def execExportStall (exp : Nat) (on : Bool) (s : State) : Host.Outcome State Fault Refusal :=
  finish s (if running s then exportStallEff exp on s else s)

/-! ### Checks of a graph (R190, R194, R210, R248) -/

def uniqueNat (l : List Nat) : Bool := l.eraseDups.length == l.length

def gNodeOk (x : GNode) : Bool :=
  decide (x.node < 1024) && decide (1 ≤ x.type) && decide (x.type ≤ 0x16) && decide (1 ≤ x.priority) && decide (x.priority ≤ 15) &&
  decide (x.groveMask ≠ 0) && decide (1 ≤ x.batchMax) && decide (x.batchMax ≤ 64) && decide (1 ≤ x.maxPar) && decide (x.maxPar ≤ 64)

/-- A node of the graph by number. -/
def gFind (g : GraphImage) (n : Nat) : Option GNode := g.nodes.find? (fun x => x.node == n)

def gType (g : GraphImage) (n : Nat) : Nat := match gFind g n with | some x => x.type | none => 0

def gEdgeOk (g : GraphImage) (e : GEdge) : Bool :=
  let srcIn := isSource (gType g e.consumer)
  decide (e.edge < 2048) && decide (2 ≤ e.capCells) && decide (e.capCells ≤ 32768) && decide (1 ≤ e.reserve) && decide (e.reserve ≤ 64) &&
  (if srcIn then decide (e.xon < e.xoff) || (e.xon == 0 && e.xoff == 0) else e.xoff == 0 && e.xon == 0) &&
  (gFind g e.consumer).isSome && (match e.producer with | some p => (gFind g p).isSome | none => srcIn)

/-- The nodes' edge lists and the edge records name the same edges. -/
def gWired (g : GraphImage) : Bool :=
  let ins := (g.nodes.map inEdges).flatten
  let outs := (g.nodes.map outEdges).flatten
  uniqueNat (g.edges.map GEdge.edge) && uniqueNat ins && uniqueNat outs && uniqueNat (g.nodes.map GNode.node) &&
  g.edges.all (fun e =>
    (match gFind g e.consumer with | some x => (inEdges x).contains e.edge | none => false) &&
    (match e.producer with | some p => (match gFind g p with | some x => (outEdges x).contains e.edge | none => false) | none => true)) &&
  ins.all (fun k => g.edges.any (fun e => e.edge == k)) && outs.all (fun k => g.edges.any (fun e => e.edge == k && e.producer.isSome))

/-- Local links not OFF, by the settings that will stand. -/
def localLinks (s : State) : List Nat :=
  let l := nextParams s
  ((List.range 16).filter (fun n => prmIn l .plcMode (plcLp n) ≠ 0)).map (fun n => 1024 + n) ++
  ((List.range 4).filter (fun n => prmIn l .rfMode n ≠ 0)).map (fun n => 1040 + n)

def bindsOf (g : GraphImage) (t : Nat) : List Nat := (g.nodes.filter (fun x => x.type == t)).map GNode.bind

/-- Instance counts and bindings. -/
def gCounts (s : State) (g : GraphImage) : Bool :=
  let links := localLinks s
  let count := fun (t : Nat) => (bindsOf g t).length
  let same := fun (a b : List Nat) => uniqueNat a && a.all (fun x => b.contains x) && b.all (fun x => a.contains x)
  let tx := bindsOf g tLinkTx
  let cellTx := tx.filter (fun b => b < 1024)
  let cellRx := bindsOf g tCellRx
  same (bindsOf g tLinkRx) links && same (tx.filter (fun b => 1024 ≤ b)) links &&
  uniqueNat cellTx && decide (1 ≤ cellTx.length) && decide (cellTx.length ≤ 16) &&
  uniqueNat cellRx && decide (1 ≤ cellRx.length) && decide (cellRx.length ≤ 16) && cellRx.all (fun b => b < 1024) &&
  same (bindsOf g tPortRx) [0, 1] &&
  decide (1 ≤ count tStore) && decide (1 ≤ count tExport) && decide (1 ≤ count tAlarm) && count tTickClose == 1 &&
  g.nodes.all (fun x => isSource x.type || x.type == tLinkTx || x.bind == noEdge)

def gQuarantine (g : GraphImage) : Bool :=
  match g.edges.filter (fun e => e.quarantine) with
  | [e] => e.producer == some e.consumer && gType g e.consumer == tDecrypt
  | _ => false

/-- Nodes left after those without a predecessor are removed, as often as there are nodes. -/
def gPeel (g : GraphImage) : Nat → List Nat → List Nat
  | 0, l => l
  | n + 1, l =>
    gPeel g n (l.filter (fun x => g.edges.any (fun e => !e.quarantine && e.consumer == x && (match e.producer with | some p => l.contains p | none => false))))

def gAcyclic (g : GraphImage) : Bool := (gPeel g g.nodes.length (g.nodes.map GNode.node)).isEmpty

def gPreds (g : GraphImage) (n : Nat) : List Nat := (g.edges.filter (fun e => e.consumer == n && !e.quarantine)).filterMap (fun e => e.producer)

def gSuccs (g : GraphImage) (n : Nat) : List Nat := (g.edges.filter (fun e => e.producer == some n && !e.quarantine)).map GEdge.consumer

/-- Upstream of a node every path meets a DEMAND before any other context writer. -/
def gFromDemand (g : GraphImage) : Nat → Nat → Bool
  | 0, _ => false
  | k + 1, n =>
    let l := gPreds g n
    !l.isEmpty && l.all (fun p => gType g p == tDemand || (!ctxWriter (gType g p) && gFromDemand g k p))

/-- Downstream of a node some path meets an instance of a type before any other context writer. -/
def gReaches (g : GraphImage) (t : Nat) : Nat → Nat → Bool
  | 0, _ => false
  | k + 1, n => (gSuccs g n).any (fun p => gType g p == t || (!ctxWriter (gType g p) && gReaches g t k p))

def gBilling (g : GraphImage) : Bool :=
  let k := g.nodes.length + 1
  let any := fun (t : Nat) => g.nodes.any (fun x => x.type == t)
  !any tBillPost ||
  (g.nodes.all (fun x =>
    (x.type ≠ tBillPost || gFromDemand g k x.node) &&
    (!(x.type == tValidate || x.type == tEstimate) || gReaches g tDemand k x.node) &&
    (x.type ≠ tDemand || gReaches g tBillPost k x.node)))

def rulesOf (s : State) (cls : Nat) (id : Word64) : Option LoadedRules := s.p.rulesLib.find? (fun r => r.cls == cls && r.id == id)

/-- Rule references name loaded tables, at most one VALIDATION table per class; VALIDATE and ESTIMATE carry none. -/
def gRules (s : State) (g : GraphImage) : Bool :=
  g.rules.all (fun r => r.1 == 1 && decide (r.2.1 ≤ 63) && (rulesOf s r.2.1 r.2.2).isSome) &&
  uniqueNat ((g.rules.filter (fun r => r.1 == 1)).map (fun r => r.2.1)) &&
  g.nodes.all (fun x => x.ruleRef == 0xFFFF || (decide (x.ruleRef < g.rules.length) && x.type ≠ tValidate && x.type ≠ tEstimate))

def graphFormOk (g : GraphImage) : Bool :=
  g.formatOk && decide (g.graphId ≠ 0) && decide (1 ≤ g.nodes.length) && decide (g.nodes.length ≤ 1024) && decide (1 ≤ g.edges.length) &&
  decide (g.edges.length ≤ 2048) && decide (g.rules.length ≤ 256)

/-- The checks of R194 after the header, the signature and the security version. -/
def graphBodyOk (s : State) (g : GraphImage) : Bool :=
  let sum := (g.nodes.map GNode.budgetUs).sum
  g.nodes.all gNodeOk && sum == g.budgetTotal && decide (sum + (prmIn (nextParams s) .schedCloseReserve 0).toNat ≤ 640000) &&
  decide ((g.edges.map GEdge.capCells).sum ≤ 61440) && g.edges.all (gEdgeOk g) && gWired g && gCounts s g && gQuarantine g && gAcyclic g &&
  gRules s g && gBilling g

/-- An update whose manifest names a part is STAGED or ACTIVATING. -/
def stagedPart (s : State) (code : Nat) : Bool :=
  (decide (s.upd.phase = .staged) || decide (s.upd.phase = .activating)) &&
  (match s.upd.man with | some m => m.parts.any (fun p => p.type == code) | none => false)

def gSecCounter : Nat := 7
def rSecCounter : Nat := 8

/-- The first check that a graph fails. -/
def graphFail (s : State) (r : Req) (g : GraphImage) : State × Option Status :=
  match trailerFail s r g.trailer 14 with
  | (s1, some st) => (s1, some st)
  | (s1, none) =>
    if g.secVersion < s1.vault.counters.getD gSecCounter 0 then (s1, some .rollbackRefused)
    else if stagedPart s1 0x07 then (s1, some .updateLocked)
    else if !graphFormOk g || !graphBodyOk s1 g then (s1, some .badParam)
    else (s1, none)

def ciGraphLoad : CmdInfo := { code := 0x0601, plain := 0x01, states := 0x06, w := true, pflag := true }

/-- GRAPH_LOAD: a graph that passes waits for the Tick boundary; one that waited before it is discarded. -/
def graphLoad (r : Req) (f : Fetch GraphImage) (s : State) : Reply :=
  match f with
  | .fault st => deny s st
  | .got g =>
    if !g.formatOk then deny s .badParam
    else match graphFail s r g with
      | (s1, some st) =>
        ⟨{ s1 with flow := { s1.flow with lastStatus := st } }, .pending, [], [.final 0x0601 st [], configRec s1 0 st g.graphId.toNat]⟩
      | (s1, none) =>
        let old : List Emit := if s1.flow.next.isSome then [.final 0x0601 .flushed []] else []
        ⟨{ s1 with flow := { s1.flow with next := some ⟨g, s1.vault.tick⟩ } }, .pending, [], old⟩

def execGraphLoad (r : Req) (img : Fetch GraphImage) (s : State) : Host.Outcome State Fault Refusal :=
  finish s (gmi ciGraphLoad r (graphLoad r img) s)

/-! ### Activation and drain (R195, R417) -/

/-- An edge passes from the old graph to the new one. -/
def edgeKept (old new : GraphImage) (e : GEdge) : Bool :=
  new.edges.any (fun n => n.edge == e.edge && decide (gType new n.consumer = gType old e.consumer) &&
    decide (n.producer.map (gType new) = e.producer.map (gType old)))

/-- The old graph as it drains: renumbered, without the edges that pass to the new one. -/
def shiftOld (old new : GraphImage) : OldGraph :=
  let kept := fun (k : Nat) => old.edges.any (fun e => e.edge == k && edgeKept old new e)
  let mv := fun (k : Nat) => if k = noEdge || kept k then k else k + 2048
  { nodes := old.nodes.map (fun x => { x with
      node := x.node + 1024, inEdges := (inEdges x).filterMap (fun k => if kept k then none else some (k + 2048)), outEdges := x.outEdges.map mv })
    edges := (old.edges.filter (fun e => !edgeKept old new e)).map (fun e => { e with
      edge := e.edge + 2048, producer := e.producer.map (fun p => p + 1024), consumer := e.consumer + 1024 }) }

/-- A queue named as an edge becomes ENGINE: a queue of the host's is flushed. -/
def takeQueue (s : State) (q : Nat) : State :=
  if (qOf s q).owner = .free then s
  else
    let s1 := qFlushEff s q
    { s1 with q := { s1.q with qs := s1.q.qs.set q { (default : Queue) with taken := true } } }
where
  default : Queue := {}

/-- The tables that a graph's rule references name come into force. -/
def graphRules (s : State) (g : GraphImage) : State :=
  g.rules.foldl (fun s r => match rulesOf s r.2.1 r.2.2 with
    | some t => if (match s.p.rules.get? t.cls with | some x => x.1 == t.id | none => false) then s
        else { s with p := { s.p with rules := s.p.rules.set t.cls (t.id, t.table), rulesAt := s.p.rulesAt.set t.cls (etNs s) } }
    | none => s) s

/-- A graph comes into force. -/
def activateGraph (s : State) (g : GraphImage) : State :=
  let old := s.p.graph
  let o : Option OldGraph := old.map (fun x => shiftOld x g)
  let moved := match o with | some y => y.edges.map (fun (e : GEdge) => e.edge - 2048) | none => []
  let edges := s.flow.edges.foldl (fun (t : Tbl EdgeSt) e =>
    if 2048 ≤ e.1 then t else if moved.contains e.1 then t.set (e.1 + 2048) e.2 else t.set e.1 e.2) []
  let cores := s.flow.cores.map (fun r => (r.1, { r.2 with
    lane := { r.2.lane with node := r.2.lane.node % 1024 + 1024 }
    resv := r.2.resv.map (fun q => if moved.contains q.1 then (q.1 + 2048, q.2) else q) }))
  let taken := (g.edges.map GEdge.edge).foldl takeQueue s
  let s1 := { taken with
    p := { taken.p with graph := some g }
    vault := { taken.vault with counters := taken.vault.counters.set gSecCounter (max g.secVersion (taken.vault.counters.getD gSecCounter 0)) }
    flow := { taken.flow with
      edges := edges, cores := cores, nodes := [], ready := [], next := none, old := o, drainTicks := prmN s .graphDrainTicks, lastStatus := .ok } }
  let s2 := emitAll (graphRules s1 g) [.final 0x0601 .ok [(g.graphId.toNat, 8)], configRec s1 0 .ok g.graphId.toNat]
  reschedule (if s2.flow.old.isSome && drained s2 then endDrain s2 else s2)

/-- GRAPH_ACTIVATION: at the first Tick boundary after the checks. A drain still in progress ends first. -/
def graphActivationEff (s : State) : State :=
  match s.flow.next with
  | none => s
  | some p => if s.vault.tick ≤ p.tick then s else activateGraph (endDrain s) p.img

def execGraphActivation (s : State) : Host.Outcome State Fault Refusal :=
  finish s (if running s && s.boot.stage = 6 then graphActivationEff s else s)

/-- GRAPH_DRAIN_END: the old edges are empty, or their Ticks are used up. -/
def execGraphDrainEnd (s : State) : Host.Outcome State Fault Refusal :=
  finish s (if running s && s.flow.old.isSome && (drained s || s.flow.drainTicks = 0) then reschedule (endDrain s) else s)

/-! ### Class tables (R208 to R210) -/

def classTableOk (t : ClassTable) : Bool :=
  let inR := fun (lo hi v : Nat) => decide (lo ≤ v) && decide (v ≤ hi)
  inR 0 5 t.interval && (t.regDigits == 0 || inR 6 12 t.regDigits) && inR 0 4 t.gapWait && inR 0 1000 t.sumTolPpt && inR 8 255 t.spikeKx4 &&
  inR 8 255 t.spikeMinN && inR 1 1440 t.zeroRun && inR 100 3600000 t.skewLimitMs && inR 0 600000 t.transitMs && inR 1 24 t.interpMax

def rulesFail (s : State) (r : Req) (p : RulesPkg) : State × Option Status :=
  if !p.headerOk || p.rulesId = 0 then (s, some .badParam)
  else match trailerFail s r p.trailer 14 with
    | (s1, some st) => (s1, some st)
    | (s1, none) =>
      if p.secVersion < s1.vault.counters.getD rSecCounter 0 then (s1, some .rollbackRefused)
      else if !p.reservedOk || !classTableOk p.table then (s1, some .badParam)
      else (s1, none)

/-- A class table taken: known to graphs, and in force for its class from the next Tick boundary. -/
def rulesTake (s : State) (p : RulesPkg) : State :=
  let x : LoadedRules := ⟨p.cls.val, p.rulesId, p.secVersion, p.table⟩
  { s with
    p := { s.p with rulesLib := s.p.rulesLib.filter (fun y => !(y.cls == x.cls && y.id == x.id)) ++ [x] }
    val := { s.val with rulesNext := s.val.rulesNext.filter (fun y => y.cls ≠ x.cls) ++ [x] } }

/-- Class tables that come into force at a Tick boundary (R210, R372). -/
def rulesApply (s : State) : State :=
  s.val.rulesNext.foldl (fun s t =>
    emit1 { s with
      p := { s.p with rules := s.p.rules.set t.cls (t.id, t.table), rulesAt := s.p.rulesAt.set t.cls (etNs s) }
      vault := { s.vault with counters := s.vault.counters.set rSecCounter (max t.sec (s.vault.counters.getD rSecCounter 0)) } }
      (configRec s 1 .ok t.id.toNat))
    { s with val := { s.val with rulesNext := [] } }

def ciRulesLoad : CmdInfo := { code := 0x0603, plain := 0x01, states := 0x06, w := true }

def rulesLoad (r : Req) (f : Fetch RulesPkg) (s : State) : Reply :=
  match f with
  | .fault st => deny s st
  | .got p => match rulesFail s r p with
    | (s1, some st) => ⟨s1, st, [], [configRec s1 1 st p.rulesId.toNat]⟩
    | (s1, none) => ⟨rulesTake s1 p, .ok, [(p.rulesId.toNat, 8)], []⟩

def execRulesLoad (r : Req) (pkg : Fetch RulesPkg) (s : State) : Host.Outcome State Fault Refusal :=
  finish s (gmi ciRulesLoad r (rulesLoad r pkg) s)

/-! ### Status (R480 and the scheduler's registers) -/

def graphIdNow (s : State) : Nat := match s.p.graph with | some g => g.graphId.toNat | none => 0

def pressed (s : State) : Nat := ((liveNodes s).filter (fun x => isSource x.type && underPressure s x.node)).length

def schedStatus (s : State) : Nat :=
  b2n s.p.graph.isSome + 2 * b2n s.flow.old.isSome + 4 * b2n s.flow.closing + 8 * b2n s.flow.fence + 16 * b2n s.flow.overrun +
  32 * b2n s.flow.journalLimit + 64 * b2n (0 < pressed s) + 2 ^ 8 * s.flow.cores.length + 2 ^ 16 * (liveEdges s).length + 2 ^ 32 * (liveNodes s).length

/-- Ready lanes at eight priorities from `p` on, 8 bits each. -/
def readyWord (s : State) (p : Nat) : Nat :=
  ((List.range 8).map (fun i => 2 ^ (8 * i) * min 255 ((s.flow.ready.filter (fun l =>
    match nodeRec s l.node with | some x => x.priority == p + i | none => false)).length))).sum

/-- Scheduler registers 0x000 to 0x050. -/
def schedRegs (s : State) : List Nat :=
  let f := s.flow
  [schedStatus s, graphIdNow s, f.prevBusyNs, f.closeFencedNs % 2 ^ 32 + 2 ^ 32 * (f.closeWholeNs % 2 ^ 32),
   f.overrunTotal % 2 ^ 32 + 2 ^ 32 * (f.overrunRun % 2 ^ 32), f.overrunMax, f.dispatches,
   f.prevJournal % 2 ^ 32 + 2 ^ 32 * (f.limitTicks % 2 ^ 32), pressed s % 2 ^ 16 + 2 ^ 16 * (f.pressureTicks % 2 ^ 32),
   readyWord s 0, readyWord s 8]

/-- STATE of an instance. -/
def nodeState (s : State) (x : GNode) : Nat :=
  let items := (inEdges x).any (fun e => !(edgeSt s e).items.isEmpty)
  b2n (s.flow.ready.any (fun l => l.node == x.node)) + 2 * b2n (items && !roomFor s x 1) + 4 * b2n (!inBudget s x) +
  8 * b2n (fenced s x.type) + 16 * b2n (isSource x.type && underPressure s x.node)

def nodeStats (s : State) (n : Nat) : Body :=
  match (liveNodes s).find? (fun x => x.node == n) with
  | none => [(0, 40)]
  | some x =>
    let st := nodeSt s n
    [(st.prevUsedNs / 1000, 4), (x.budgetUs, 4), (st.dispatches, 8), (st.itemsIn, 8), (st.overTicks % 2 ^ 32, 4), (nodeState s x, 4),
     (st.waitNs / 1000 % 2 ^ 32, 4), (0, 4)]

def ciGraphStatus : CmdInfo := { code := 0x0602, plain := 0x03, roles := 0x04, states := 0x06 }

def graphStatus (s : State) : Reply :=
  ⟨s, .ok, [(graphIdNow s, 8), ((match s.flow.next with | some p => p.img.graphId.toNat | none => 0), 8),
    (b2n s.p.graph.isSome + 2 * b2n s.flow.old.isSome, 1), (0, 1), (stCode s.flow.lastStatus, 2), (s.flow.flushed % 2 ^ 32, 4)], []⟩

def execGraphStatus (r : Req) (s : State) : Host.Outcome State Fault Refusal := finish s (gmi ciGraphStatus r graphStatus s)

def ciSchedStats : CmdInfo := { code := 0x0604, plain := 0x03, roles := 0x04, states := 0x06 }

def schedStats (first count : Nat) (s : State) : Reply :=
  if count = 0 || 1024 < count || 1024 < first + count then deny s .badParam
  else ⟨s, .ok, (schedRegs s).map (fun v => (v, 8)) ++ ((List.range count).map (fun i => nodeStats s (first + i))).flatten, []⟩

def execSchedStats (r : Req) (firstNode count : Word16) (s : State) : Host.Outcome State Fault Refusal :=
  finish s (gmi ciSchedStats r (schedStats firstNode.toNat count.toNat) s)

end Sys2Proof.Machine
end

