-- ==== Sys2Proof/Machine/Links.lean ====
section
/-! DEFINITION. The link commands (R77, R88, R102, R108, R109, R476). -/

namespace Sys2Proof.Machine
open Sys2Proof

/-! ### LINK_CONFIGURE, LINK_LOCK_GROUP, RF_SCHEDULE_SET -/

/-- The parameter belongs to the table of link ports (R78, R103) or of RF ports (R102), and to this link and port. -/
def linkParam (link port : Nat) (i : ParamId) : Bool :=
  match i.key with
  | .plcBand | .plcMode | .plcPanId | .plcSfTicks | .plcBeaconTicks | .plcSlotTicks | .plcCfpSlots | .plcBeaconOffset
  | .plcZcDet | .plcZcPhase | .plcRobustGain | .plcMaxRetx | .plcZoneFaultDb | .plcTmMargin | .plcTmRefresh
  | .plcMaxGrantPeriod | .plcWorsen | .plcSwitchMargin | .plcMaxChildren | .plcNbrAge =>
    linkTypeOf link ≠ 2 && i.idx == lpOf link port
  | .rfMode | .rfIqRate | .rfFskRate | .rfFskLevels | .rfFskFec | .rfFskPreamble | .rfOfdmOption | .rfOfdmMcs | .rfPanId
  | .rfTsUs | .rfSfLen | .rfHopLen | .rfMaxPsdu | .rfEbPeriod | .rfDwellBuckets | .rfDwellLimit | .rfAckReserve
  | .rfDutyWindow | .rfDutyLimit => linkTypeOf link == 2 && i.idx == link - 1040
  | _ => false

def ciLinkConfigure : CmdInfo := { code := 0x0301, plain := 0x03, states := 0x0E, w := true, c := true }

/-- LINK_CONFIGURE: every entry takes effect at its boundary, or none. -/
def linkConfigure (link port : Nat) (l : List ParamArg) (s : State) : Reply :=
  if !linkNameOk link port then deny s .badParam
  else if !l.all (fun a => match a.name with | some i => linkParam link port i | none => false) then deny s .badParam
  else match acceptParams s (graphBudget s) (l.filterMap (fun a => a.name.map (fun i => (i, a.value)))) with
    | some s1 => ⟨s1, .ok, [], []⟩
    | none => deny s .badParam

def execLinkConfigure (r : Req) (link : Word16) (port : BitVec 8) (params : List ParamArg) (s : State) : Host.Outcome State Fault Refusal :=
  finish s (gmi ciLinkConfigure r (linkConfigure link.toNat port.toNat params) s)

/-- What the members of a lock group must agree in (R77). -/
def groupKey (s : State) (ch : Nat) : List Int :=
  [prm s .plcBand (plcLp ch), prm s .plcSfTicks (plcLp ch), prm s .plcBeaconTicks (plcLp ch), prm s .plcSlotTicks (plcLp ch),
   prm s .plcCfpSlots (plcLp ch), prm s .plcBeaconOffset (plcLp ch)]

def groupOk (s : State) (g : Nat) (l : List Nat) : Bool :=
  uniqueNat l && l.all (fun c => decide (c < 16) && prm s .plcMode (plcLp c) == 2) &&
  (match l with | c :: t => t.all (fun d => groupKey s d == groupKey s c) | [] => true) &&
  (s.p.groups.filter (fun e => e.1 ≠ g)).all (fun e => e.2.all (fun c => !l.contains c))

def ciLinkLockGroup : CmdInfo := { code := 0x0303, plain := 0x03, states := 0x0E, w := true }

def linkLockGroup (g count : Nat) (ch : List (BitVec 8)) (s : State) : Reply :=
  let l := (ch.take count).map BitVec.toNat
  if 7 < g || ch.length ≠ 4 || !((ch.drop count).all (fun c => c = 0xFF)) || count = 1 || 4 < count then deny s .badParam
  else if count = 0 then ⟨{ s with p := { s.p with groups := s.p.groups.erase g } }, .ok, [], []⟩
  else if !groupOk s g l then deny s .badParam
  else ⟨{ s with p := { s.p with groups := s.p.groups.set g l } }, .ok, [], []⟩

def execLinkLockGroup (r : Req) (group count : BitVec 8) (channels : List (BitVec 8)) (s : State) : Host.Outcome State Fault Refusal :=
  finish s (gmi ciLinkLockGroup r (linkLockGroup group.toNat count.toNat channels) s)

def ciRfScheduleSet : CmdInfo := { code := 0x0305, plain := 0x03, states := 0x0E, w := true }

def rfScheduleSet (n tsUs sfLen : Nat) (hop : List (BitVec 8)) (s : State) : Reply :=
  if 3 < n || hop.isEmpty || 129 < hop.length then deny s .badParam
  else match acceptParams s (graphBudget s) [(⟨.rfTsUs, n⟩, ⟨.integer, tsUs⟩), (⟨.rfSfLen, n⟩, ⟨.integer, sfLen⟩),
      (⟨.rfHopLen, n⟩, ⟨.integer, hop.length⟩)] with
    | none => deny s .badParam
    | some s1 =>
      let h := hop.map BitVec.toNat
      if prm s1 .rfMode n = 0 then ⟨{ s1 with p := { s1.p with rfHop := s1.p.rfHop.set n h } }, .ok, [], []⟩
      else ⟨rfSet s1 n { rfPortOf s1 n with hopNext := some h }, .ok, [], []⟩

def execRfScheduleSet (r : Req) (port : BitVec 8) (tsUs : Word32) (sfLen : Word16) (hop : List (BitVec 8)) (s : State) :
    Host.Outcome State Fault Refusal :=
  finish s (gmi ciRfScheduleSet r (rfScheduleSet port.toNat tsUs.toNat sfLen.toNat hop) s)

/-! ### LINK_STATUS, PLC_TONEMAP_GET -/

/-- Link ports of a PLC or cell link. -/
def lpsOf (link : Nat) : List Nat := if link < 1024 then [0, 1, 2, 3].map (cellLp link) else if link < 1040 then [plcLp (link - 1024)] else []

/-- Contexts that a link serves now. -/
def attachedOn (s : State) (link : Nat) : Nat := (s.p.mct.filter (fun e => e.2.linkType ≠ 0 && e.2.linkId == link)).length

def linkState (s : State) (link : Nat) : Nat :=
  if link < 1024 then match (cellOf s link).state with | .released => 3 | .admitted => 0 | .up => 1 | .silent => 2
  else if link < 1040 then (if prm s .plcMode (plcLp (link - 1024)) = 0 then 0 else 1)
  else if prm s .rfMode (link - 1040) = 0 then 0 else if (rfPortOf s (link - 1040)).stalled then 2 else 1

/-- The zero-cross detector of a channel is not LOCKED. -/
def zcLost (s : State) (link : Nat) : Bool :=
  decide (1024 ≤ link) && decide (link < 1040) && decide ((detOf s.plc (prmN s .plcZcDet (plcLp (link - 1024)))).state ≠ .locked)

def linkFlags (s : State) (link : Nat) : Nat :=
  b2n ((lpsOf link).any (fun lp => (plcPortOf s lp).impaired)) + 2 * b2n (decide (link < 1024) && (cellOf s link).timeInvalid) +
  4 * b2n (decide (1040 ≤ link) && (rfPortOf s (link - 1040)).stDwell) + 8 * b2n (zcLost s link)

def linkRxFrames (s : State) (link : Nat) : Nat :=
  if link < 1024 then (cellOf s link).rxFrames
  else if link < 1040 then (plcPortOf s (plcLp (link - 1024))).rxFrames else (rfPortOf s (link - 1040)).rxFrames

/-- Fields for cells only. What the cell has not yet reported is a free value. -/
def cellStatusFields (s : State) (c : Nat) : Body :=
  let x := cellOf s c
  let free := fun (i n : Nat) => (Config.freeValue (s.freeCtr + i) % 2 ^ (8 * n), n)
  let st := x.status
  [(match st with | some b => (b.state.val, 1) | none => free 0 1), (0, 3), (x.upEpoch.toNat, 4),
   ((match s.p.cells.get? c with | some a => a.downEpoch | none => s.p.cellEpochs.getD c 0), 4), (x.upAck.toNat, 4),
   (match st with | some b => (b.bufUsed, 4) | none => free 1 4), (match st with | some b => (encS 4 b.offsetNs, 4) | none => free 2 4)]

def ciLinkStatus : CmdInfo := { code := 0x0302, plain := 0x23, roles := 0x05, states := 0x0E }

def linkStatus (link : Nat) (s : State) : Reply :=
  if linkTypeOf link = 0 then deny s .badParam
  else
    let b : Body := [(link, 2), (linkTypeOf link, 1), (linkState s link, 1), (linkFlags s link, 4), (attachedOn s link, 4), (linkRxFrames s link, 8),
      (s.ctx.rxDrop.getD link 0, 8), (s.ctx.replay.getD link 0, 8), (s.ctx.authFail.getD link 0, 8),
      ((if link < 1024 then (cellOf s link).duplicates else 0), 8)]
    if link < 1024 then ⟨{ s with freeCtr := s.freeCtr + 3 }, .ok, b ++ cellStatusFields s link, []⟩ else ⟨s, .ok, b, []⟩

def execLinkStatus (r : Req) (link : Word16) (s : State) : Host.Outcome State Fault Refusal :=
  finish s (gmi ciLinkStatus r (linkStatus link.toNat) s)

def mapBody (m : ToneMap) : Body := [(m.mod, 1), (m.gain, 1), (m.tones.toNat, 3), (b2n m.valid + 2 * b2n m.downgraded, 1), (0, 2)]

/-- Map 0 of a port (R55). -/
def map0 (s : State) (lp : Nat) : ToneMap :=
  { mod := 0, gain := prmN s .plcRobustGain lp, tones := maskOf (List.range (toneGroups (prm s .plcBand lp))), valid := true }

def ciPlcTonemapGet : CmdInfo := { code := 0x0304, plain := 0x23, roles := 0x04, states := 0x0E }

def plcTonemapGet (link port frm upTo : Nat) (s : State) : Reply :=
  if !linkNameOk link port || linkTypeOf link = 2 then deny s .badParam
  else
    let lp := lpOf link port
    let h := hopOf (plcPortOf s lp) (hopKey frm upTo)
    ⟨s, .ok, [(h.set.gen.toNat, 1), (0, 1), (h.set.zoneMap.toNat, 2)] ++ (List.range 8).map (fun z => (min 255 (h.faults.getD z 0), 1)) ++
      mapBody (map0 s lp) ++ mapBody h.set.map1 ++ mapBody h.set.map2 ++ mapBody h.set.map3, []⟩

def execPlcTonemapGet (r : Req) (link : Word16) (port : BitVec 8) (frm upTo : Word16) (s : State) : Host.Outcome State Fault Refusal :=
  finish s (gmi ciPlcTonemapGet r (plcTonemapGet link.toNat port.toNat frm.toNat upTo.toNat) s)

/-! ### CELL_ADMIT, CELL_RELEASE -/

/-- The engine's messages for a cell are discarded; work for meters completes with FLUSHED. -/
def dropCell (s : State) (c : Nat) : State :=
  let x := cellOf s c
  ((x.down.map (fun m => m.kind)) ++ x.waiting).foldl (fun s k => match k with | .frame _ m => completeDown s m .flushed | _ => s) s

def ciCellAdmit : CmdInfo := { code := 0x0306, plain := 0x01, states := 0x06, w := true }

def cellAdmit (r : Req) (c ports bands : Nat) (key : Word32) (addr flags : Nat) (s : State) : Reply :=
  if 1023 < c || ports = 0 || 4 < ports || 2 ^ ports ≤ bands || !unicast6 addr || 1 < flags then deny s .badParam
  else match useKey s r key 1 [2] 0 with
    | (s1, some st) => ⟨s1, st, [], []⟩
    | (s1, none) =>
      let ep := s1.p.cellEpochs.getD c 0 + 1
      let a : Admission := ⟨BitVec.ofNat 8 ports, BitVec.ofNat 8 bands, key, addr, flags = 1, ep⟩
      let s2 := dropCell s1 c
      ⟨cellSet { s2 with p := { s2.p with cells := s2.p.cells.set c a, cellEpochs := s2.p.cellEpochs.set c ep } } c { state := .admitted },
       .ok, [], []⟩

def execCellAdmit (r : Req) (cell : Word16) (ports bands : BitVec 8) (key : Word32) (addr : Nat) (flags : BitVec 8) (s : State) :
    Host.Outcome State Fault Refusal :=
  finish s (gmi ciCellAdmit r (cellAdmit r cell.toNat ports.toNat bands.toNat key addr flags.toNat) s)

def ciCellRelease : CmdInfo := { code := 0x0307, plain := 0x01, states := 0x06, w := true }

def cellRelease (c : Nat) (s : State) : Reply :=
  if 1023 < c || (s.p.cells.get? c).isNone then deny s .badParam
  else
    let s1 := dropCell s c
    let s2 := cellSet { s1 with p := { s1.p with cells := s1.p.cells.erase c } } c {}
    ⟨[0, 1, 2, 3].foldl (fun s p =>
      let x := plcPortOf s (cellLp c p)
      if x.grants.isEmpty then s else plcSet s (cellLp c p) { x with grants := [], grantReset := true }) s2, .ok, [], []⟩

def execCellRelease (r : Req) (cell : Word16) (s : State) : Host.Outcome State Fault Refusal :=
  finish s (gmi ciCellRelease r (cellRelease cell.toNat) s)

end Sys2Proof.Machine
end

