-- ==== Sys2Proof/Machine/Rf.lean ====
section
/-! DEFINITION. The radio ports: timeslots, frames, acknowledgements, sleepy nodes, dwell and duty limits, 6P and I/Q gaps
(R79 to R102). -/

namespace Sys2Proof.Machine
open Sys2Proof

def rfLink (n : Nat) : Nat := 1040 + n

/-- The port runs: its mode is on, its domain powered and the Tick boundary of its enabling has passed. -/
def rfUp (s : State) (n : Nat) : Bool := prm s .rfMode n ≠ 0 && domainOn s pdRf && (rfPortOf s n).enabled

def rfSfLen (s : State) (n : Nat) : Nat := max 1 (prmN s .rfSfLen n)

/-- The timeslot in ns. -/
def rfTsNs (s : State) (n : Nat) : Nat := prmN s .rfTsUs n * 1000

/-- Set a sticky event bit of PORT_STATUS (0 RX_SAT, 1 IQ_GAP, 2 AUTH_FAIL, 3 DWELL_HOLD, 4 GUARD_EXCEEDED), raising source
11 where INT_ENABLE has the bit. -/
def rfEvent (s : State) (n bit : Nat) : State :=
  let x := rfPortOf s n
  let y := match bit with
    | 0 => { x with stRxSat := true }
    | 1 => { x with stIqGap := true }
    | 2 => { x with stAuthFail := true }
    | 3 => { x with stDwell := true }
    | _ => { x with stGuard := true }
  let s1 := rfSet s n y
  if x.intEnable.getLsbD bit then { s1 with irq := irqRaise s1.irq 11 } else s1

/-! ### Sleepy nodes: uncertainty and guard (R92 to R94) -/

/-- U of a node at an MC instant, in ns; 0 for a node that is not sleepy. -/
def uncNs (s : State) (m mc : Nat) : Nat :=
  let e := mctOf s m
  if e.sleepy then e.rfUnc + openDiv .uncertainty (2 * e.rfDrift * (mc - e.rfSync)) (65536 * 1000000) else 0

def guardBase : Nat := 1000000

def guardMax : Nat := 8000000

/-- G of a reception from a node, by the engine or by a sleepy repeater, in ns. -/
def guardNs (s : State) (m : Nat) (parent : Option Nat) (mc : Nat) : Nat :=
  guardBase + uncNs s m mc + (match parent with | some r => uncNs s r mc | none => 0)

/-- The drift bound after an exchange with the engine (R93): Q16.16 ppm, offset in ns. -/
def driftUpdate (s : State) (m : Nat) (off : Int) : State :=
  let e := mctOf s m
  if e.sleepy && e.rfSync < s.time.mc then
    let d := openDiv .drift (off.natAbs * 1000000 * 65536) (s.time.mc - e.rfSync)
    updM s m (fun e => { e with rfDrift := max d (max (openDiv .drift (7 * e.rfDrift + d) 8) (prmN s .rfDriftFloor * 65536)) })
  else s

/-- A 6P request to a node waits for its response. -/
def push6p (x : RfPort) (m cmd : Nat) : RfPort := if x.sixtop.contains (m, cmd) then x else { x with sixtop := x.sixtop ++ [(m, cmd)] }

/-- A slot of a slotframe that no cell of the port uses, of Gamokor's choice; slot 0 is the advertising cell's. -/
def freeSlotRf (s : State) (n : Nat) (x : RfPort) : Option Nat :=
  let l := (List.range (rfSfLen s n)).filter (fun k => k ≠ 0 && x.cells.all (fun c => c.slot ≠ k))
  ((l.filter (fun k => !Config.grantSkip s.freeCtr n k)) ++ l).head?

/-- Give a node an uplink wake cell and a resync cell toward its parent, and install them with 6P ADD (R83, *Sleepy meters*). -/
def addCells (s : State) (n m : Nat) (parent : Option Nat) : State :=
  let put := fun (x : RfPort) (up : Bool) => match freeSlotRf s n x with
    | some k => { x with cells := x.cells ++ [{ mcx := m, parent := parent, slot := k, uplink := up }] }
    | none => x
  let x := put (put (rfPortOf s n) true) false
  let x1 := push6p x m 1
  rfSet s n (match parent with | some r => push6p x1 r 1 | none => x1)

/-- A partner has synchronised: a pair cell whose partners have both done so is added again (R96). -/
def readdSynced (s : State) (n m : Nat) : State :=
  let l := s.rf.readd.map (fun e => (e.1, e.2.1, e.2.2.filter (fun k => k ≠ m)))
  let s1 := { s with rf := { s.rf with readd := l.filter (fun e => !e.2.2.isEmpty) } }
  (l.filter (fun e => e.2.2.isEmpty)).foldl (fun s e => addCells s n e.1 (some e.2.1)) s1

/-- A node took a time correction at an MC instant, inheriting an uncertainty (R92). -/
def syncNode (s : State) (n m mc inherited : Nat) : State :=
  readdSynced (updM s m (fun e => { e with rfSync := mc, rfUnc := inherited })) n m

/-- Contact with a node: the 6P DELETEs that wait for it are sent (R96). -/
def contact (s : State) (n m : Nat) : State :=
  let mine := s.rf.removals.filter (fun e => e.1 = m)
  if mine.isEmpty then s
  else
    let rest := s.rf.removals.filter (fun e => e.1 ≠ m)
    let gone := (mine.map Prod.snd).filter (fun c => rest.all (fun e => e.2 ≠ c))
    let x := push6p (rfPortOf s n) m 2
    rfSet { s with rf := { s.rf with removals := rest } } n
      { x with cells := x.cells.filter (fun c => !(c.parent.isSome && gone.contains c.mcx)) }

/-! ### Dwell and duty (R97, R98) -/

def dwellBucket (mc : Nat) : Nat := mc / 100000000

def dwellUsed (x : RfPort) (ch mc w : Nat) : Nat :=
  let b := dwellBucket mc
  ((x.dwell.filter (fun e => e.1 / 2 ^ 32 == ch && decide (b < e.1 % 2 ^ 32 + w))).map Prod.snd).sum

def dutyUsed (x : RfPort) (mc w : Nat) : Nat :=
  ((x.duty.filter (fun e => decide (mc / nsPerS < e.1 + w))).map Prod.snd).sum

/-- A transmission of so many µs on a channel keeps both limits with a reserve unused. -/
def occupancyOk (s : State) (n ch us reserve : Nat) : Bool :=
  let x := rfPortOf s n
  let w := prmN s .rfDutyWindow n
  decide (dwellUsed x ch s.time.mc (prmN s .rfDwellBuckets n) + us + reserve ≤ prmN s .rfDwellLimit n) &&
  (w == 0 || decide (dutyUsed x s.time.mc w + us + reserve ≤ prmN s .rfDutyLimit n * 1000))

/-- Charge a transmission, forgetting buckets that no window reaches. -/
def charge (s : State) (x : RfPort) (ch us : Nat) : RfPort :=
  let b := dwellBucket s.time.mc
  let k := ch * 2 ^ 32 + b
  let sec := s.time.mc / nsPerS
  let dw := x.dwell.filter (fun e => decide (b < e.1 % 2 ^ 32 + 400))
  let du := x.duty.filter (fun e => decide (sec < e.1 + 3600))
  { x with dwell := Tbl.set dw k (Tbl.getD dw k 0 + us), duty := Tbl.set du sec (Tbl.getD du sec 0 + us) }

def rfModeOf (s : State) (n : Nat) : List Int := rfModeList s.p.params n

/-- One secured transmission: its airtime is charged and the port's counter under its active key advances (R87). -/
def rfSend (s : State) (n us : Nat) : State :=
  let x := rfPortOf s n
  let s1 := rfSet s n (charge s x x.chsel us)
  { s1 with p := { s1.p with rfTx := s1.p.rfTx.set (2 * n) (s1.p.rfTx.getD (2 * n) 0 + 1) } }

/-- A frame waits because of a limit. -/
def rfHold (s : State) (n : Nat) : State :=
  let x := rfPortOf s n
  rfEvent (rfSet s n { x with dwellHolds := wrapAdd 64 x.dwellHolds 1 }) n 3

/-! ### Timeslots (R88 to R91, R94, R95) -/

/-- The first occurrence of a cell after an ASN. -/
def nextOcc (sfl : Nat) (c : RfCell) (asn : Nat) : Nat :=
  let base := c.slot + c.offsetSf * sfl
  let cyc := max 1 (c.periodSf * sfl)
  if asn < base then base else base + cyc * ((asn - base) / cyc + 1)

/-- The last occurrence of a cell before an ASN, if it has one. -/
def lastOccBefore (sfl : Nat) (c : RfCell) (asn : Nat) : Option Nat :=
  let base := c.slot + c.offsetSf * sfl
  let cyc := max 1 (c.periodSf * sfl)
  if asn ≤ base then none else some (base + cyc * ((asn - 1 - base) / cyc))

def occursNow (sfl asn : Nat) (c : RfCell) : Bool :=
  asn % sfl == c.slot && (asn / sfl) % (max 1 c.periodSf) == c.offsetSf

/-- The plan at an occurrence of a node's resync cell `c`: some reception involving the node, for which this is the last
resync occurrence at least one slotframe earlier, would not be certified (R95). -/
def needsResync (s : State) (n : Nat) (c : RfCell) (asn : Nat) : Bool :=
  let x := rfPortOf s n
  let sfl := rfSfLen s n
  (mctOf s c.mcx).sleepy &&
  (x.cells.filter (fun u => u.uplink && (u.mcx = c.mcx || u.parent = some c.mcx))).any (fun u =>
    match lastOccBefore sfl u (nextOcc sfl c asn + sfl) with
    | some a => decide (asn + sfl ≤ a) &&
        decide (guardMax < guardNs s u.mcx u.parent (s.time.mc + (a - (rfPortOf s n).asn) * rfTsNs s n))
    | none => false)

/-- Queue a frame of the engine's own toward a node, unless one of its kind waits. -/
def queueRf (s : State) (n m : Nat) (k : RfKind) (bytes : Nat) : State :=
  let x := rfPortOf s n
  if k ≠ .data && k ≠ .bcast && x.down.any (fun d => d.mcx = m && d.kind = k) then s
  else rfSet s n { x with down := x.down ++ [{ mcx := m, seq := x.nextSeq, kind := k, bytes := bytes }], nextSeq := x.nextSeq + 1 }

/-- The plans evaluated at a downlink cell of node `m`: its own resync, and those of its children at their next resync
occurrence, which the engine must instruct the repeater to use. -/
def planAt (s : State) (n : Nat) (c : RfCell) : State :=
  let x := rfPortOf s n
  let sfl := rfSfLen s n
  let s1 := if needsResync s n c x.asn then queueRf s n c.mcx .resync 32 else s
  (x.cells.filter (fun d => !d.uplink && d.parent = some c.mcx)).foldl (fun s d =>
    if needsResync s n d (nextOcc sfl d x.asn) then queueRf s n c.mcx (.instruct d.mcx) 32 else s) s1

/-- Send the first frame that waits for a node, if the limits allow (R98). -/
def serveDown (s : State) (n m : Nat) : State :=
  let x := rfPortOf s n
  match x.down.find? (fun d => d.mcx = m && !d.sent && d.kind ≠ .bcast) with
  | none => s
  | some d =>
    let us := Config.rfAirtime (rfModeOf s n) d.bytes
    if !egressOk s then s
    else if occupancyOk s n x.chsel us (prmN s .rfAckReserve n) then
      let s1 := rfSend s n us
      let y := rfPortOf s1 n
      rfSet s1 n { y with slot := .send m d.seq, down := y.down.map (fun q => if q = d then { q with sent := true } else q) }
    else rfHold s n

/-- The advertising cell: an Enhanced Beacon when one is due (R91), else a slot in which nodes join. -/
def serveShared (s : State) (n : Nat) : State :=
  let x := rfPortOf s n
  let us := Config.rfAirtime (rfModeOf s n) 64
  if x.ebWait && egressOk s then
    if occupancyOk s n x.chsel us (prmN s .rfAckReserve n) then
      let s1 := rfSend s n us
      let y := rfPortOf s1 n
      rfSet s1 n { y with slot := .beacon, ebWait := false, ebSent := y.ebSent + 1 }
    else rfHold s n
  else match x.down.find? (fun d => d.kind = .bcast) with
    | some d =>
      let us := Config.rfAirtime (rfModeOf s n) d.bytes
      if egressOk s && occupancyOk s n x.chsel us (prmN s .rfAckReserve n) then
        let s1 := rfSend s n us
        let y := rfPortOf s1 n
        rfSet s1 n { y with slot := .send d.mcx d.seq, down := y.down.filter (fun q => q ≠ d) }
      else rfSet s n { x with slot := .shared }
    | none => rfSet s n { x with slot := .shared }

/-- Serve the cell of this slot. -/
def serveSlot (s : State) (n : Nat) : State :=
  let x := rfPortOf s n
  let sfl := rfSfLen s n
  if x.asn % sfl = 0 then serveShared s n
  else match x.cells.find? (fun c => c.installed && c.parent.isNone && occursNow sfl x.asn c) with
    | none => s
    | some c =>
      let ch := (x.hop[(x.asn + c.chanOff) % (max 1 x.hop.length)]?).getD 0
      let s1 := rfSet s n { x with chsel := ch }
      if c.uplink then
        let g := guardNs s1 c.mcx none s1.time.mc
        if g ≤ guardMax then rfSet s1 n { rfPortOf s1 n with slot := .listen c.mcx g } else s1
      else serveDown (planAt s1 n c) n c.mcx

/-- Parameters whose change voids the port's installed cells (R102). -/
def rfScheduleKeys : List ParamKey :=
  [.rfMode, .rfTsUs, .rfSfLen, .rfHopLen, .rfFskRate, .rfFskLevels, .rfFskFec, .rfFskPreamble, .rfOfdmOption, .rfOfdmMcs, .rfIqRate]

/-- A slotframe starts: changes that wait for it take effect, and a change of mode or schedule voids the installed cells,
which are installed again through 6P (R102). -/
def slotframeStart (s0 : State) (n : Nat) : State :=
  let change := (s0.pendParams.any (fun q => q.id.idx == n && rfScheduleKeys.contains q.id.key &&
    decide (prm s0 q.id.key n ≠ q.val.val))) || (rfPortOf s0 n).hopNext.isSome
  let s := applyPend s0 (fun b => b == .slotframe n)
  let x := rfPortOf s n
  if change then
    let hop := x.hopNext.getD x.hop
    let y : RfPort := { x with hop := hop, hopNext := none, cells := x.cells.map (fun c => { c with installed := false }) }
    let s1 := rfSet s n (y.cells.foldl (fun y c => push6p y c.mcx 1) y)
    let s2 := { s1 with p := { s1.p with rfHop := s1.p.rfHop.set n hop } }
    if prm s2 .rfMode n = 0 then rfSet s2 n { rfPortOf s2 n with enabled := false, started := false, slot := .idle } else s2
  else s

/-- TIMESLOT_START. -/
def timeslotStartEff (port : Fin 4) (s : State) : State :=
  let n := port.val
  let x0 := rfPortOf s n
  let asn := if x0.started then (x0.asn + 1) % 2 ^ 40 else 0
  let s1 := rfSet s n { x0 with started := true, asn := asn, slotEt := x0.slotNextEt, slot := .idle }
  let start := asn % rfSfLen s n == 0
  let s2 := if start then slotframeStart s1 n else s1
  let x := rfPortOf s2 n
  if !x.enabled then s2
  else
    let y := { x with
      slotNextEt := x.slotEt + rfTsNs s2 n
      ebWait := x.ebWait || (start && (asn / rfSfLen s2 n) % (max 1 (prmN s2 .rfEbPeriod n)) == 0)
      stalled := x.stalled && !(!x.inGap && decide (x.resumeEt ≤ x.slotEt))
      iqState := if x.inGap then x.iqState else if x.iqState = 1 then 2 else x.iqState
      chsel := (x.hop[asn % (max 1 x.hop.length)]?).getD 0 }
    let s3 := rfSet s2 n y
    if y.stalled || y.inGap || y.iqState = 0 then s3 else serveSlot s3 n

def execTimeslotStart (port : Fin 4) (s : State) : Host.Outcome State Fault Refusal :=
  finish s (if running s && rfUp s port.val then timeslotStartEff port s else s)

/-! ### Received frames (R84 to R86, R92, R93) -/

/-- The engine's Enhanced ACK, with or without the NACK bit: sent if the full limits allow (R98). It synchronises the node. -/
def sendAck (s : State) (n m : Nat) (nack : Bool) (off : Int) : State :=
  let s1 := rfSend s n (Config.rfAckAirtime (rfModeOf s n))
  let x := rfPortOf s1 n
  let s2 := rfSet s1 n { x with acksSent := x.acksSent + b2n (!nack), nacksSent := x.nacksSent + b2n nack }
  contact (syncNode (driftUpdate s2 m off) n m s2.time.mc 0) n m

def ackFits (s : State) (n : Nat) : Bool :=
  occupancyOk s n (rfPortOf s n).chsel (Config.rfAckAirtime (rfModeOf s n)) 0

def markUnadmitted (s : State) (m : Nat) (un : Bool) : State :=
  let l := s.rf.unadmitted.filter (fun k => k ≠ m)
  { s with rf := { s.rf with unadmitted := if un then m :: l else l } }

/-- Steps 8 and 9 of R84: admission, then the ACK. -/
def rfAdmit (s : State) (n m : Nat) (f : RfRx) : State :=
  if !egressOk s || !ackFits s n then markUnadmitted (rfHold s n) m true
  else if linkCredit s (rfLink n) f.frame.bytes then
    let x := rfPortOf s n
    let lat := match x.rxLat with | some v => v.toNat | none => (Config.rfLat 0 n).toNat
    let s1 := letIn (rfSet s n { x with rxFrames := wrapAdd 64 x.rxFrames 1 }) (rfLink n) 0 (f.stamp - lat) f.frame false
    sendAck (markUnadmitted s1 m false) n m false f.offsetNs
  else sendAck (markUnadmitted s m true) n m true f.offsetNs

/-- What a frame of sender `m` under a key index and counter is: a new frame, a repeated one, or a replay (R85). -/
inductive CtrVerdict where
  | fresh | again | replay
  deriving DecidableEq, Repr

def ctrVerdict (e : Mct) (keyIndex fc : Nat) (seq : BitVec 8) : CtrVerdict :=
  if e.rfKey < keyIndex then .fresh
  else if keyIndex < e.rfKey then .replay
  else if e.rfFc < fc then .fresh
  else if fc = e.rfFc && seq = e.rfSeq then .again
  else .replay

/-- A forwarded frame tells of an exchange between its sender and the sleepy repeater (R92), and the engine gives the pair
its cells. -/
def learnPair (s : State) (n r : Nat) (f : RfRx) : State :=
  match f.fwdMc, findSender s (rfLink n) 0 f.frame.sender with
  | some t, some c =>
    if c = r || !(mctOf s c).sleepy then s
    else
      let s1 := syncNode s n c t (uncNs s r t)
      if (rfPortOf s1 n).cells.any (fun k => k.mcx = c && k.parent = some r) then s1
      else addCells s1 n c (some r)
  | _, _ => s

/-- A node joins through the advertising cell (R91, R537). -/
def rfJoin (s : State) (n : Nat) (f : RfRx) : State :=
  match findSender s (rfLink n) 0 f.src with
  | none => unknownSender s (rfLink n) f.src
  | some m =>
    if !f.micOk then
      let x := rfPortOf s n
      rfEvent (rfSet s n { x with rxAuthFail := wrapAdd 64 x.rxAuthFail 1 }) n 2
    else match linkJoin s m (rfLink n) 0 with
      | none => unknownSender s (rfLink n) f.src
      | some s1 =>
        let s2 := updM s1 m (fun e => { e with
          rfFc := f.fc.toNat, rfKey := f.keyIndex, rfSeq := f.seq
          rfDrift := if e.rfDrift = 0 then prmN s1 .rfDriftInit * 65536 else e.rfDrift })
        let x := rfPortOf s2 n
        let s3 := rfSet s2 n { x with joined := if x.joined.contains m then x.joined else x.joined ++ [m] }
        let s4 := if egressOk s3 && ackFits s3 n then sendAck s3 n m false 0 else s3
        let src := sourceOf s4 (rfLink n)
        let pressed := match src with | some q => underPressure s4 q.node | none => globalPressure s4
        if pressed || (rfPortOf s4 n).cells.any (fun c => c.mcx = m) then s4 else addCells s4 n m none

/-- RF_FRAME_RX. -/
def rfFrameRxEff (port : Fin 4) (f : RfRx) (s0 : State) : State :=
  let n := port.val
  let s := if f.saturated then rfEvent s0 n 0 else s0
  if !f.fcsOk || !f.filterOk then s
  else match findAddrOr s n f.src with
    | none => if f.join then rfJoin s n f else unknownSender s (rfLink n) f.src
    | some m =>
      let e := mctOf s m
      if f.join then rfJoin s n f
      else if guardMax < guardNs s m none s.time.mc then s
      else if 2 ≤ f.keyIndex then countDrop s (rfLink n)
      else match ctrVerdict e f.keyIndex f.fc.toNat f.seq with
        | .replay =>
          let x := rfPortOf s n
          rfSet s n { x with rxReplay := wrapAdd 64 x.rxReplay 1 }
        | .again =>
          if s.rf.unadmitted.contains m && f.micOk then rfAdmit s n m f
          else if egressOk s && ackFits s n then sendAck s n m false f.offsetNs
          else s
        | .fresh =>
          if !f.micOk then
            let x := rfPortOf s n
            rfEvent (rfSet s n { x with rxAuthFail := wrapAdd 64 x.rxAuthFail 1 }) n 2
          else
            let s1 := updM s m (fun e => { e with rfFc := f.fc.toNat, rfKey := f.keyIndex, rfSeq := f.seq })
            rfAdmit (learnPair s1 n m f) n m f
where
  /-- The context that the sender names on this port (step 3 of R84). -/
  findAddrOr (s : State) (n : Nat) (a : Sender) : Option Nat :=
    match findSender s (rfLink n) 0 a with
    | some m => if (mctOf s m).linkType = 2 && (mctOf s m).linkId = rfLink n then some m else none
    | none => none

/-- The port receives and sends: it runs and is neither stalled nor in a gap. -/
def rfLive (s : State) (n : Nat) : Bool := rfUp s n && !(rfPortOf s n).stalled && !(rfPortOf s n).inGap

def execRfFrameRx (port : Fin 4) (f : RfRx) (s : State) : Host.Outcome State Fault Refusal :=
  finish s (if running s && rfLive s port.val then rfFrameRxEff port f s else s)

/-- RF_ENHANCED_ACK_RX: the frame answered is done, or waits again when the ACK carries the NACK bit; the exchange
synchronises the node and updates its drift bound. -/
def rfEnhancedAckRxEff (port : Fin 4) (seq : BitVec 8) (micOk nack : Bool) (offsetNs : Int) (s : State) : State :=
  let n := port.val
  let x := rfPortOf s n
  match x.down.find? (fun d => d.sent && d.seq = seq) with
  | none => s
  | some d =>
    if !micOk then rfEvent (rfSet s n { x with rxAuthFail := wrapAdd 64 x.rxAuthFail 1 }) n 2
    else
      let down := if nack then x.down.map (fun q => if q = d then { q with sent := false } else q) else x.down.filter (fun q => q ≠ d)
      let s1 := rfSet { s with rf := { s.rf with resyncMiss := s.rf.resyncMiss.erase d.mcx } } n { x with down := down }
      contact (syncNode (driftUpdate s1 d.mcx offsetNs) n d.mcx s1.time.mc 0) n d.mcx

def execRfEnhancedAckRx (port : Fin 4) (seq : BitVec 8) (micOk nack : Bool) (offsetNs : Int) (s : State) :
    Host.Outcome State Fault Refusal :=
  finish s (if running s && rfLive s port.val then rfEnhancedAckRxEff port seq micOk nack offsetNs s else s)

/-- A node did not acknowledge a resync frame (R96): after resync_tries in a row, GUARD_EXCEEDED, and a pair cell is removed
from both partners at their next contact. -/
def resyncMissed (s : State) (n m : Nat) (parent : Option Nat) : State :=
  let k := s.rf.resyncMiss.getD m 0 + 1
  if k < prmN s .rfResyncTries then { s with rf := { s.rf with resyncMiss := s.rf.resyncMiss.set m k } }
  else
    let s1 := rfEvent { s with rf := { s.rf with resyncMiss := s.rf.resyncMiss.erase m } } n 4
    match parent with
    | none => emit1 s1 (alarmNow s1 (keyMcx m) (stCode .guardExceeded) [])
    | some r =>
      let s2 := emit1 s1 (alarmNow s1 (keyMcx m) (stCode .guardExceeded) [(r, 4)])
      { s2 with rf := { s2.rf with
          removals := s2.rf.removals ++ [(m, m), (r, m)]
          readd := s2.rf.readd ++ [(m, r, [m, r])] } }

/-- RF_ACK_TIMEOUT: the frame sent under a MAC sequence number was not acknowledged and waits for the next cell; or, with a
child named, a sleepy repeater reports that the child did not acknowledge its resync frame. -/
def rfAckTimeoutEff (port : Fin 4) (seq : BitVec 8) (child : Option (Fin 1048576)) (s : State) : State :=
  let n := port.val
  match child with
  | some m =>
    match (rfPortOf s n).cells.find? (fun c => c.mcx = m.val && c.parent.isSome) with
    | some c => resyncMissed s n m.val c.parent
    | none => s
  | none =>
    let x := rfPortOf s n
    match x.down.find? (fun d => d.sent && d.seq = seq) with
    | none => s
    | some d =>
      match d.kind with
      | .resync => resyncMissed (rfSet s n { x with down := x.down.filter (fun q => q ≠ d) }) n d.mcx none
      | _ => rfSet s n { x with down := x.down.map (fun q => if q = d then { q with sent := false, tries := q.tries + 1 } else q) }

def execRfAckTimeout (port : Fin 4) (seq : BitVec 8) (child : Option (Fin 1048576)) (s : State) : Host.Outcome State Fault Refusal :=
  finish s (if running s && rfLive s port.val then rfAckTimeoutEff port seq child s else s)

/-! ### 6P (R83) -/

/-- A 6P message of a node: its context, when it verifies. -/
def sixtopSender (s : State) (n : Nat) (src : Sender) (micOk : Bool) : State × Option Nat :=
  match findSender s (rfLink n) 0 src with
  | none => (unknownSender s (rfLink n) src, none)
  | some m =>
    if micOk then (s, some m)
    else
      let x := rfPortOf s n
      (rfEvent (rfSet s n { x with rxAuthFail := wrapAdd 64 x.rxAuthFail 1 }) n 2, none)

/-- SIXTOP_RESPONSE_RX: the oldest transaction with the node ends; one that failed is tried again. -/
def sixtopResponseRxEff (port : Fin 4) (src : Sender) (micOk ok : Bool) (s0 : State) : State :=
  let n := port.val
  match sixtopSender s0 n src micOk with
  | (s, none) => s
  | (s, some m) =>
    let x := rfPortOf s n
    match x.sixtop.find? (fun t => t.1 = m) with
    | none => contact s n m
    | some t =>
      let rest := x.sixtop.erase t
      let x1 :=
        if !ok then { x with sixtop := rest ++ [t] }
        else match t.2 with
          | 1 => { x with sixtop := rest, cells := x.cells.map (fun c =>
              if c.mcx = m || c.parent = some m then { c with installed := !rest.any (fun q => q.2 = 1 && (q.1 = c.mcx || c.parent = some q.1)) } else c) }
          | 7 => { x with sixtop := rest, cells := x.cells.filter (fun c => c.mcx ≠ m) }
          | _ => { x with sixtop := rest }
      contact (rfSet s n x1) n m

def execSixtopResponseRx (port : Fin 4) (src : Sender) (micOk ok : Bool) (s : State) : Host.Outcome State Fault Refusal :=
  finish s (if running s && rfLive s port.val then sixtopResponseRxEff port src micOk ok s else s)

/-- SIXTOP_REQUEST_RX: COUNT and LIST are answered; the answer is a frame of the engine's. -/
def sixtopRequestRxEff (port : Fin 4) (src : Sender) (micOk list : Bool) (s0 : State) : State :=
  let n := port.val
  match sixtopSender s0 n src micOk with
  | (s, none) => s
  | (s, some m) =>
    let x := rfPortOf s n
    queueRf (contact (rfSet s n { x with sixtopAnswers := x.sixtopAnswers + 1 }) n m) n m .data (if list then 96 else 48)

def execSixtopRequestRx (port : Fin 4) (src : Sender) (micOk list : Bool) (s : State) : Host.Outcome State Fault Refusal :=
  finish s (if running s && rfLive s port.val then sixtopRequestRxEff port src micOk list s else s)

/-! ### I/Q gaps (R100, R101) -/

/-- SAMPLE_CNT of the present epoch. -/
def sampleCntNow (s : State) (n : Nat) : Nat :=
  let x := rfPortOf s n
  if x.inGap || x.iqState = 0 then x.sampleCnt
  else ((s.time.mc - x.anchorMc) * prmN s .rfIqRate n / nsPerS) % 2 ^ 48

/-- IQ_GAP: a frame being received or sent is aborted. -/
def iqGapEff (port : Fin 4) (receiving sending : Bool) (s : State) : State :=
  let n := port.val
  let x := rfPortOf s n
  if x.inGap then s
  else
    let down := if sending then
        match x.slot with
        | .send m q => x.down.map (fun d => if d.mcx = m && d.seq = q && d.sent then { d with sent := false, tries := d.tries + 1 } else d)
        | _ => x.down
      else x.down
    rfEvent (rfSet s n { x with
      sampleCnt := sampleCntNow s n, inGap := true, gapStartMc := s.time.mc, gaps := wrapAdd 32 x.gaps 1, iqState := 0
      rxAborted := x.rxAborted + b2n receiving, down := down }) n 1

def execIqGap (port : Fin 4) (receiving sending : Bool) (s : State) : Host.Outcome State Fault Refusal :=
  finish s (if running s && rfUp s port.val then iqGapEff port receiving sending s else s)

def stallNs : Nat := 100000000

/-- IQ_STALL: the port's schedule is suspended. -/
def iqStallEff (port : Fin 4) (s : State) : State :=
  let n := port.val
  let x := rfPortOf s n
  if x.inGap && !x.stalled && stallNs < s.time.mc - x.gapStartMc then
    emit1 (rfSet s n { x with stalled := true, slot := .idle })
      (.event .iqGap 0 mb01 [(n, 1), (0, 3), ((s.time.mc - x.gapStartMc) / 1000 % 2 ^ 32, 4)])
  else s

def execIqStall (port : Fin 4) (s : State) : Host.Outcome State Fault Refusal :=
  finish s (if running s && rfUp s port.val then iqStallEff port s else s)

/-- IQ_RESUME: a new epoch and anchor; a stalled port's schedule resumes at the first slot at least 1 ms later. -/
def iqResumeEff (port : Fin 4) (s : State) : State :=
  let n := port.val
  let x := rfPortOf s n
  if x.inGap then
    rfSet s n { x with
      inGap := false, iqState := 1, sampleCnt := 0, sampleEpoch := x.sampleEpoch + 1
      anchorEt64 := etNs s, anchorMc := s.time.mc, resumeEt := etNs s + 1000000
      longestGapUs := max x.longestGapUs ((s.time.mc - x.gapStartMc) / 1000) }
  else s

def execIqResume (port : Fin 4) (s : State) : Host.Outcome State Fault Refusal :=
  finish s (if running s && rfUp s port.val then iqResumeEff port s else s)

/-- At a Tick boundary: a port just switched on starts its grid at the boundary with ASN 0 (R88). -/
def rfEnable (s : State) (n : Nat) : State :=
  let x := rfPortOf s n
  if prm s .rfMode n ≠ 0 && !x.enabled && domainOn s pdRf then
    rfSet { s with p := { s.p with rfOrigin := s.p.rfOrigin.set n (pairTickOf s) } } n { x with
      enabled := true, started := false, asn := 0, slotNextEt := etNs s, slotEt := etNs s
      hop := (s.p.rfHop.get? n).getD x.hop
      iqState := if s.boot.iqclk.getLsbD n then 2 else 0
      anchorEt64 := etNs s, anchorMc := s.time.mc, sampleCnt := 0 }
  else s

/-- A step of ET moves the grid with it, so that every slot keeps its MC instant (R90). -/
def rfGridStep (s : State) (step : Int) : State :=
  { s with rf := { s.rf with ports := s.rf.ports.map (fun e => (e.1, { e.2 with
      slotEt := ((e.2.slotEt : Int) + step).toNat
      slotNextEt := ((e.2.slotNextEt : Int) + step).toNat
      resumeEt := ((e.2.resumeEt : Int) + step).toNat })) } }

end Sys2Proof.Machine
end

