-- ==== Sys2Proof/Machine/Downlink.lean ====
section
/-! DEFINITION. The nodes on the way down, ALARM, and launch times (R34 to R37, R59, R145, R146, R150, R176, R190, R351, R386, R405). -/

namespace Sys2Proof.Machine
open Sys2Proof

/-! ### DOWNLINK_BUILD (R133, R145, R146, R150) -/

/-- A downlink item ends with a status other than OK. -/
def downFail (s : State) (d : DownWork) (st : Status) : NodeOut := ⟨if d.group.isSome then s else completeDown s d.mcx st, []⟩

/-- Reserve DOWN_IC. -/
def reserveIc (s : State) (m : Nat) : State :=
  addJournal (counterCheck (updM s m (fun e => { e with downIc := e.downIc + 1 })) m) 64

/-- The key value of a group has a counter, or room for one (R386). -/
def bicRoom (s : State) (bk : Nat) : Bool := (s.p.bic.get? bk).isSome || decide (s.p.bic.length < 4096)

def downBuildItem (s : State) (i : Item) : NodeOut :=
  match i.work with
  | .down d =>
    match d.group with
    | some (_, _, bk) =>
      if bicRoom s bk then
        let n := s.p.bic.getD bk 0
        ⟨addJournal { s with p := { s.p with bic := s.p.bic.set bk (n + 1) } } 64, [mkItem i.key (.down { d with counter := some n })]⟩
      else downFail s d .noResource
    | none =>
      let e := mctOf s d.mcx
      if !(e.state = .joined || e.state = .active) then downFail s d .notPermitted
      else if e.downHalt then downFail s d .noResource
      else match (if d.needsAssoc then openSession s d.mcx (lineage s e.hUc (chainFuel s)) else some s) with
        | none => downFail s d .noResource
        | some s1 => ⟨reserveIc s1 d.mcx, [mkItem i.key (.down { d with counter := some (mctOf s1 d.mcx).downIc })]⟩
  | _ => ⟨s, []⟩

/-- DOWNLINK_BUILD. -/
def execDownlinkBuild (core : Fin 64) (s : State) : Host.Outcome State Fault Refusal :=
  finish s (if running s then nodeWork tDownBuild core.val itemLine downBuildItem s else s)

/-! ### ENCRYPT (R167, R168, R176, R405) -/

/-- What STREAM needs of the keys to protect. -/
def ucSend : KeyReq := ⟨1, false, 0, [1, 2], 0⟩
def akSend : KeyReq := ⟨1, false, 2, [1, 2], 0⟩

/-- The handle, request and failure of the first key that cannot be used. -/
def sendFail (s : State) (h1 h2 : Word32) : Option (Word32 × KeyReq × Status × Nat) :=
  match keyJudge s h1 ucSend with
  | some f => some (h1, ucSend, f)
  | none => (keyJudge s h2 akSend).map (fun f => (h2, akSend, f))

/-- The meter whose keys a frame goes out under: the one addressed, or a member of the group. -/
def sealMeter (s : State) (d : DownWork) : Option Nat :=
  match d.group with
  | none => some d.mcx
  | some (link, cport, bk) => findKey s.p.mct (fun e => e.linkId == link && decide (e.linkType ≠ 0) && (e.linkType ≠ 3 || e.cport == cport) &&
      (match keyView s e.hBk with | some v => v.mat == bk | none => false))

/-- Work of a campaign or tariff push. -/
def campTask : DownTask → Bool
  | .request _ => false
  | _ => true

/-- Until the journal of which Tick a frame of a meter is held, if it is. -/
def holdTick (s : State) (m : Nat) : Option Nat :=
  match s.keys.commits.get? m, s.pair.downHoldTick with
  | some a, some b => some (max a b)
  | some a, none => some a
  | none, b => b

/-- The status a failed use gives the work, and what it means to a campaign. -/
def sealFailed (s : State) (d : DownWork) (f : Word32 × KeyReq × Status × Nat) : NodeOut :=
  let s1 := keyFail s f.1 f.2.1 f.2.2
  let st := f.2.2.1
  let o := downFail s1 d st
  if d.group.isNone && campTask d.task && (st = .keyRevoked || st = .keyMissing || st = .authFail) then ⟨campSecurity o.s d.mcx, o.outs⟩ else o

def encryptItem (lane : Nat) (s : State) (i : Item) : NodeOut :=
  match i.work with
  | .down d => match sealMeter s d with
    | none => downFail s d .keyMissing
    | some m =>
      let e := mctOf s m
      let h := if d.group.isSome then e.hBk else e.hUc
      match sendFail s h e.hAk with
      | some f => sealFailed s d f
      | none =>
        let k := mkeysOf s m
        let g := if d.group.isSome then e.genBk else e.genUc
        let s1 := loadKey (loadKey s false lane e.hAk e.genAk k.ak.mat) false lane h g (if d.group.isSome then k.bk.mat else k.uc.mat)
        let out := { d with sealedGen := some g }
        match holdTick s1 m with
        | some t => ⟨{ s1 with flow := { s1.flow with encHold := s1.flow.encHold ++ [(t, out)] } }, []⟩
        | none => ⟨s1, [mkItem i.key (.down out)]⟩
  | _ => ⟨s, []⟩

/-- ENCRYPT. -/
def execEncrypt (core : Fin 64) (lane : Fin 16) (s : State) : Host.Outcome State Fault Refusal :=
  finish s (if running s && !s.pair.withdrawn.contains lane.val then nodeWork tEncrypt core.val noLine (encryptItem lane.val) s else s)

/-! ### LINK_TX (R69, R89, R112, R190) -/

/-- Place a frame on its link: where it waits for a slot, a cell of the slotframe, or the credit of a remote cell. -/
def placeDown (s : State) (link cport : Nat) (d : DownWork) : State :=
  let sent := { s with flow := { s.flow with downSent := s.flow.downSent + 1 } }
  if linkTypeOf link = 2 then
    queueRf sent (link - 1040) (if d.group.isSome then mcxCount else d.mcx) (if d.group.isSome then .bcast else .data) d.bytes
  else if linkTypeOf link = 3 then
    let x := cellOf sent link
    let k := if d.group.isSome then DownKind.bcast cport else DownKind.frame cport d.mcx
    kclFlush (cellSet sent link { x with waiting := x.waiting ++ [k] }) link
  else
    let lp := lpOf link cport
    if coord sent lp then
      let x := plcPortOf sent lp
      let dst := if d.group.isSome then bcastAddr else (mctOf sent d.mcx).short
      let f : PlcDown := { kind := .data d.mcx, dst := dst, seq := x.nextSeq, bytes := d.bytes }
      plcSet sent lp { x with down := x.down ++ [f], nextSeq := x.nextSeq + 1 }
    else sent

/-- A link is up for downlink. -/
def linkUp (s : State) (link cport : Nat) : Bool :=
  match linkTypeOf link with
  | 1 => plcUp s (lpOf link cport)
  | 2 => rfUp s (link - 1040)
  | 3 => decide ((cellOf s link).state ≠ .released)
  | _ => false

def linkTxItem (s : State) (i : Item) : NodeOut :=
  match i.work with
  | .down d =>
    let e := mctOf s d.mcx
    let at_ : Option (Nat × Nat) := match d.group with
      | some (l, c, _) => some (l, c)
      | none => if e.linkType = 0 then none else some (e.linkId, e.cport)
    match at_ with
    | some (l, c) => if linkUp s l c then ⟨placeDown s l c d, []⟩ else downFail s d .linkDown
    | none => downFail s d .linkDown
  | _ => ⟨s, []⟩

/-- LINK_TX. -/
def execLinkTx (core : Fin 64) (s : State) : Host.Outcome State Fault Refusal :=
  finish s (if running s then nodeWork tLinkTx core.val noLine linkTxItem s else s)

/-! ### Launch times (R35, R59) -/

/-- A channel's beacon leaves at its launch time. -/
def beaconLaunch (s : State) (ch : Nat) : State :=
  let lp := plcLp ch
  let x := plcPortOf s lp
  match x.beacon with
  | some (t, robo, _, _) =>
    if egressOk s && coord s lp && decide (t ≤ etNs s) then
      plcSet s lp { x with beacon := none, beaconOut := some robo, beaconsSent := x.beaconsSent + 1 }
    else s
  | none => s

/-- LAUNCH_TIME_REACHED. -/
def execLaunchTimeReached (e : LaunchAt) (s : State) : Host.Outcome State Fault Refusal :=
  finish s (if running s then
    match e with
    | .queue q => qLaunch s q.val
    | .beacon ch => beaconLaunch s ch.val
  else s)

/-! ### ALARM (R190, R351) -/

/-- The recorder's record of an event, for the sources that record events of nodes: BALANCE_FLAG and BALANCE_CLEAR, and the state
of a link. -/
def alarmRecord (a : AlarmItem) : List Emit :=
  if a.event = 0x810A || a.event = 0x810B then [.record 0x16 a.event ((a.key, 4) :: a.data)]
  else if a.event = 0x0401 then [.record 0x14 0x0401 [(a.key % 0x10000, 2)]]
  else []

/-- An event goes to storage, to export and to the recorder. -/
def alarmOne (s : State) (a : AlarmItem) : State :=
  emitAll { s with store := { s.store with toStore := s.store.toStore ++ [.event a], toExport := s.store.toExport ++ [.event a] } } (alarmRecord a)

def alarmAll (s : State) : State := s.alarms.foldl alarmOne { s with alarms := [] }

/-- ALARM: an item of a dispatch, or the events on their way. -/
def execAlarm (core : Option (Fin 64)) (s : State) : Host.Outcome State Fault Refusal :=
  finish s (if running s then
    match core with
    | some c => nodeWork tAlarm c.val noLine (fun s _ => ⟨s, []⟩) s
    | none => alarmAll s
  else s)

end Sys2Proof.Machine
end

