-- ==== Sys2Proof/Machine/Campaigns.lean ====
section
/-! DEFINITION. Meter campaigns and tariff pushes: their commands, CAMPAIGN_TRACK and its timers (R383 to R389, R486, R487). -/

namespace Sys2Proof.Machine
open Sys2Proof

/-! ### Creation (R383, R384, R389, R487) -/

/-- Rights: EXECUTE on class 18 (R265, R382). -/
def campRight (s : State) (r : Role) : Bool := hasRight s 18 2 r

/-- The MCX that targets name; none where the list names a FREE entry. -/
def targetList (s : State) : Targets → Option (List Nat)
  | .mcxs l =>
    let ms := l.foldl (fun a m => if a.contains m.val then a else a ++ [m.val]) []
    if ms.all (fun m => (mctOf s m).state ≠ .free) then some ms else none
  | .classes mask => some ((s.p.mct.filter (fun e => e.2.state ≠ .free && mask.getLsbD e.2.cls)).map Prod.fst)

/-- A target that keeps the field of another campaign, or is RETIRED. -/
def skipTarget (s : State) (m : Nat) : Bool :=
  let e := mctOf s m
  e.state = .retired ||
  (e.camp.valid && (match campOf s e.camp.slot with | some c => campOpen s e.camp.slot c | none => false))

/-- The longest PLC frame in µs (R64). -/
def plcFrameUs (s : State) (lp : Nat) : Nat := prmN s .plcSlotTicks lp * 10000 - (if prm s .plcBand lp = 0 then 40000 else 14000)

/-- A block fits the maximum frame of a target's link. -/
def blockFits (s : State) (size m : Nat) : Bool :=
  let e := mctOf s m
  if e.linkType = 0 then true
  else if e.linkType = 2 then decide (size ≤ prmN s .rfMaxPsdu (e.linkId - 1040))
  else
    let lp := lpOf e.linkId e.cport
    decide (Config.plcAirtime (prmN s .plcBand lp) size ≤ plcFrameUs s lp)

/-- A target joins campaign `k`; the result it had in an ended campaign stays with that one. -/
def takeTarget (k : Nat) (s : State) (m : Nat) : State :=
  let f := (mctOf s m).camp
  let s1 := if f.valid && f.slot ≠ k then campMod s f.slot (fun c => if c.members.contains m then { c with kept := c.kept.set m f } else c) else s
  setCamp s1 m (fun _ => { slot := k, valid := true, state := .targeted })

/-- Put a campaign into its slot. -/
def campMake (s : State) (k : Nat) (c : Campaign) (ms : List Nat) : State :=
  let skip := ms.filter (skipTarget s)
  let take := ms.filter (fun m => !skipTarget s m)
  let s1 := { s with p := { s.p with camps := s.p.camps.erase k } }
  campDone (campSet (take.foldl (takeTarget k) s1) k { c with members := take, skipped := skip }) k

def slotBusy (s : State) (k : Nat) : Bool := match campOf s k with | some c => campOpen s k c || c.cancelled | none => false

/-- The image a campaign gets: its hash and length, or why it gets none. -/
def campImage (s : State) (a : CampArg) : Except Status (Nat × Nat) :=
  if a.src = 0 then
    match a.fetch with
    | .fault st => .error st
    | .got x => if 16777216 < x.2 then .error .badParam else if x.1 = a.hash then .ok x else .error .imageInvalid
  else match s.p.campImg.get? a.slot with
    | some x => if x.1 = a.hash then .ok x else .error .imageInvalid
    | none => .error .imageInvalid

def campCreate (r : Req) (a : CampArg) (s : State) : Reply :=
  match targetList s a.targets with
  | none => deny s .badParam
  | some ms =>
    if 7 < a.slot || 1 < a.src || a.blockSize < 64 || 2048 < a.blockSize || a.idLen < 1 || 32 < a.idLen then deny s .badParam
    else if a.src = 0 && r.mb.val ≠ 0 then deny s .notPermitted
    else if slotBusy s a.slot then deny s .noResource
    else if !ms.all (blockFits s a.blockSize) then deny s .badParam
    else match campImage s a with
      | .error st => ⟨s, .pending, [], [.final 0x0C01 st []]⟩
      | .ok x =>
        let c : Campaign := { creator := r.mb.val, hash := a.hash, imageLen := x.2, blockSize := a.blockSize, imageId := a.imageId
                              activate := if a.activate = 0 then 0 else expandEt64 (etNs s) a.activate }
        let skip := (ms.filter (skipTarget s)).length
        let s1 := campMake { s with p := { s.p with campImg := s.p.campImg.set a.slot x } } a.slot c ms
        ⟨s1, .pending, [], [.final 0x0C01 .ok [(ms.length - skip, 4), (skip, 4)]]⟩

def ciCamp (code : Nat) (w c p : Bool) : CmdInfo := { code := code, plain := 0x01, byTable := true, states := 0x04, w := w, c := c, pflag := p }

/-- CAMP_CREATE. -/
def execCampCreate (r : Req) (a : CampArg) (s : State) : Host.Outcome State Fault Refusal :=
  finish s (gmiT (ciCamp 0x0C01 true true true) (campRight s) r (campCreate r a) s)

/-- The instant at which meters activate a pushed calendar; a calendar without a date waits for a command. -/
def pushInstant (s : State) (p : CalPkg) : Nat :=
  let part := passivePart s p.calendar p.name p.manual p.activate p.body
  if part.manual then 2 ^ 63 else if part.due then 0 else part.at_

def tariffPush (r : Req) (k : Nat) (t : Targets) (p : CalPkg) (s : State) : Reply :=
  match targetList s t with
  | none => deny s .badParam
  | some ms =>
    if 7 < k then deny s .badParam
    else match calFail s r p with
      | (s1, some st) => deny s1 st
      | (s1, none) =>
        if slotBusy s1 k then deny s1 .noResource
        else ⟨campMake s1 k { creator := r.mb.val, tariff := true, name := p.name, activate := pushInstant s1 p } ms, .ok, [], []⟩

/-- TARIFF_PUSH. -/
def execTariffPush (r : Req) (slot : BitVec 8) (targets : Targets) (pkg : CalPkg) (s : State) : Host.Outcome State Fault Refusal :=
  finish s (gmiT (ciCamp 0x0C05 true true false) (campRight s) r (tariffPush r slot.toNat targets pkg) s)

def campStart (k : Nat) (s : State) : Reply :=
  match campOf s k with
  | none => deny s .badParam
  | some c => if c.started || c.cancelled then deny s .notPermitted else ⟨campSet s k { c with started := true }, .ok, [], []⟩

/-- CAMP_START. -/
def execCampStart (r : Req) (slot : BitVec 8) (s : State) : Host.Outcome State Fault Refusal :=
  finish s (gmiT (ciCamp 0x0C02 true false false) (campRight s) r (campStart slot.toNat) s)

/-- Downlink work of a campaign's members is still on its way. -/
def workOfCamp (c : Campaign) (w : Work) : Bool :=
  match w with
  | .down d => campTask d.task && c.members.contains d.mcx
  | _ => false

def campInFlight (s : State) (c : Campaign) : Bool :=
  s.flow.edges.any (fun e => e.2.items.any (fun i => workOfCamp c i.work)) ||
  s.flow.cores.any (fun r => r.2.batch.any (fun i => workOfCamp c i.work)) ||
  s.flow.encHold.any (fun h => workOfCamp c (.down h.2))

/-- A cancelled campaign frees its slot once its work has completed (R387). -/
def campFree (s : State) (k : Nat) : State :=
  match campOf s k with
  | some c => if c.cancelled && !campInFlight s c then { s with p := { s.p with camps := s.p.camps.erase k } } else s
  | none => s

/-- Cancel: every member not final becomes CANCELLED. -/
def campCancelEff (s : State) (k : Nat) (c : Campaign) : State :=
  let s1 := (c.members.filter (memberLive s k c)).foldl (fun s m => setCamp s m (fun f => { f with state := .cancelled })) s
  campFree (campDone (campSet s1 k { c with cancelled := true, rounds := [], asked := [] }) k) k

def campCancel (k : Nat) (s : State) : Reply :=
  match campOf s k with
  | none => deny s .badParam
  | some c => ⟨campCancelEff s k c, .ok, [], []⟩

/-- CAMP_CANCEL. -/
def execCampCancel (r : Req) (slot : BitVec 8) (s : State) : Host.Outcome State Fault Refusal :=
  finish s (gmiT (ciCamp 0x0C04 true false false) (campRight s) r (campCancel slot.toNat) s)

def campStates : List CampState := [.none, .targeted, .initiated, .transferring, .complete, .verified, .activated, .failed, .skipped, .cancelled]

def campStatus (k cursor : Nat) (s : State) : Reply :=
  match campOf s k, cursorPos s cursor with
  | some c, some pos =>
    let l := campTargets c
    let out := (l.drop pos).take 5455
    let next := if pos + out.length < l.length then mkCursor s (pos + out.length) else 0
    ⟨s, .ok, campStates.map (fun st => (campCount s k c st, 4)) ++ [(next, 8), (out.length, 4)] ++
      (out.map (fun m => (m, 4) :: campBody (memberField s k c m))).flatten, []⟩
  | _, _ => deny s .badParam

/-- CAMP_STATUS. -/
def execCampStatus (r : Req) (slot : BitVec 8) (cursor : Word64) (s : State) : Host.Outcome State Fault Refusal :=
  finish s (gmiT (ciCamp 0x0C03 false false false) (campRight s) r (campStatus slot.toNat cursor.toNat) s)

/-! ### Answers of meters (R385, R389) -/

/-- A member has answered what was asked of it. -/
def answered (s : State) (k m : Nat) : State := campMod s k (fun c => { c with asked := c.asked.erase m })

def toState (s : State) (k m : Nat) (st : CampState) : State := campDone (setCamp s m (fun f => { f with state := st })) k

/-- A status read: the blocks still missing. -/
def statusRead (s : State) (k m : Nat) (l : List Nat) : State :=
  let s1 := setCamp (campMod s k (fun c => { c with missing := c.missing.set m l })) m (fun f => { f with rounds := min 255 (f.rounds + 1), missing := l.length })
  if l.isEmpty then toState s1 k m .complete
  else if prmN s .campMaxRounds ≤ (mctOf s1 m).camp.rounds then campFail s1 k m 2
  else s1

/-- A status read of a pushed calendar's name. -/
def nameRead (s : State) (k m : Nat) (same : Bool) : State :=
  let s1 := setCamp s m (fun f => { f with rounds := min 255 (f.rounds + 1) })
  if same then toState s1 k m .verified
  else if prmN s .campMaxRounds ≤ (mctOf s1 m).camp.rounds then campFail s1 k m 2
  else s1

/-- An answer to a member's campaign work. -/
def campAnswer (s : State) (m : Nat) (a : CampReply) : State :=
  match campIn s m with
  | none => s
  | some (k, c) =>
    if (c.asked.get? m).isNone || (mctOf s m).state = .suspended then s
    else
      let s1 := answered s k m
      match (mctOf s m).camp.state, a with
      | .targeted, .initiated => toState s1 k m .initiated
      | .targeted, .initiateRefused => campFail s1 k m 1
      | .transferring, .blocksMissing l => statusRead s1 k m l
      | .transferring, .passiveName same => nameRead s1 k m same
      | .complete, .verifyOk => toState s1 k m .verified
      | .complete, .verifyFailed => campFail s1 k m 3
      | .verified, .activated => toState s1 k m .activated
      | .verified, .activateFailed => campFail s1 k m 4
      | .verified, .activeName same => if same then toState s1 k m .activated else s1
      | _, _ => s

def trackItem (s : State) (i : Item) : NodeOut :=
  match i.work with
  | .frame f => match f.mcx, f.f.apdu.reply with
    | some m, some a => ⟨campAnswer s m a, []⟩
    | _, _ => ⟨s, []⟩
  | _ => ⟨s, []⟩

/-! ### Driving a campaign (R385 to R387, R389) -/

/-- Hand a meter unicast work, and wait for its answer. -/
def campAsk (s : State) (k m : Nat) (t : DownTask) (bytes : Nat) : State :=
  pushFrom (campMod s k (fun c => { c with asked := c.asked.set m s.time.mc })) tCampaign [mkItem m (.down { mcx := m, task := t, bytes := bytes })]

/-- Work may go to a meter. -/
def reachable (s : State) (m : Nat) : Bool := (mctOf s m).state = .joined || (mctOf s m).state = .active

def activateDue (s : State) (c : Campaign) : Bool := decide (c.activate ≤ etNs s)

/-- The unicast step that a member is ready for. -/
def memberStep (k : Nat) (s : State) (m : Nat) : State :=
  match campOf s k with
  | none => s
  | some c =>
    if !memberLive s k c m || !reachable s m || (c.asked.get? m).isSome then s
    else match (mctOf s m).camp.state with
      | .targeted => if c.tariff then s else campAsk s k m .campInitiate 96
      | .complete => campAsk s k m .campVerify 64
      | .verified => if activateDue s c then campAsk s k m (if c.tariff then .pushActive else .campActivate) 64 else s
      | _ => s

/-- The multicast group of a meter (R386). -/
def campGroup (s : State) (m : Nat) : Option (Nat × Nat × Nat) :=
  let e := mctOf s m
  if e.sleepy || e.linkType = 0 then none
  else match keyView s e.hBk with
    | some v => if bicRoom s v.mat then some (e.linkId, e.cport, v.mat) else none
    | none => none

/-- A member waits for a round. -/
def wantsRound (s : State) (k : Nat) (c : Campaign) (m : Nat) : Bool :=
  let st := (mctOf s m).camp.state
  memberLive s k c m && reachable s m && (c.asked.get? m).isNone && !c.rounds.any (fun r => r.members.contains m) &&
  (st = .initiated || st = .transferring || (c.tariff && st = .targeted))

/-- Blocks of a round: the five attributes of a tariff push, or the blocks of the image. -/
def campBlockCount (c : Campaign) : Nat := if c.tariff then 5 else (c.imageLen + c.blockSize - 1) / c.blockSize

/-- A block is missing at a member. -/
def blockMissing (c : Campaign) (b m : Nat) : Bool := match c.missing.get? m with | some l => l.contains b | none => true

/-- Add a member to the round of its group among those about to start. -/
def joinRound (s : State) (l : List Round) (m : Nat) : List Round :=
  let g := campGroup s m
  match l.findIdx? (fun r => r.group = g && g.isSome) with
  | some i => l.modify i (fun r => { r with members := r.members ++ [m] })
  | none => l ++ [{ group := g, members := [m] }]

/-- The union of blocks missing, none where a member misses every block. -/
def roundTodo (c : Campaign) (ms : List Nat) : Option (List Nat) :=
  if ms.all (fun m => (c.missing.get? m).isSome) then
    some (ms.foldl (fun a m => (c.missing.getD m []).foldl (fun a b => if a.contains b then a else a ++ [b]) a) [])
  else none

/-- Start rounds for the members that wait, one at a time in a group. -/
def startRounds (s : State) (k : Nat) : State :=
  match campOf s k with
  | none => s
  | some c =>
    let want := c.members.filter (fun m => wantsRound s k c m &&
      !c.rounds.any (fun r => r.group.isSome && r.group = campGroup s m))
    let new := (want.foldl (joinRound s) []).map (fun r => { r with todo := roundTodo c r.members })
    let s1 := want.foldl (fun s m => setCamp s m (fun f => { f with state := .transferring })) s
    campSet s1 k { c with rounds := c.rounds ++ new }

def curBlock (n : Nat) (r : Round) : Option Nat :=
  match r.todo with
  | none => if r.next < n then some r.next else none
  | some l => l.head?

def nextBlock (r : Round) : Round := { r with todo := r.todo.map (fun l => l.drop 1), next := r.next + 1, sub := 0 }

/-- A block leaves, to a group or to one member. -/
def sendBlock (s : State) (c : Campaign) (b m : Nat) (g : Option (Nat × Nat × Nat)) : State :=
  let t := if c.tariff then DownTask.pushSet else DownTask.campBlock b
  let key := match g with | some x => x.1 | none => m
  let bytes := if c.tariff then 512 else c.blockSize
  let s1 := { s with campBlocks := s.campBlocks + 1 }
  pushFrom s1 tCampaign [mkItem key (.down { mcx := m, task := t, bytes := bytes, group := g, needsAssoc := g.isNone })]

/-- Send blocks of a campaign's rounds while the Tick allows. -/
def sendRounds (k : Nat) : Nat → State → State
  | 0, s => s
  | fuel + 1, s =>
    match campOf s k with
    | none => s
    | some c => match c.rounds with
      | [] => s
      | r :: rest =>
        let live := r.members.filter (memberLive s k c)
        match curBlock (campBlockCount c) r with
        | none =>
          let s1 := campSet s k { c with rounds := rest }
          sendRounds k fuel ((live.filter (reachable s)).foldl (fun s m => campAsk s k m (if c.tariff then .pushPassive else .campStatus) 64) s1)
        | some b =>
          let miss := live.filter (blockMissing c b)
          let put := fun (r : Round) (s : State) => campSet s k { c with rounds := r :: rest }
          if prmN s .campBlocksPerTick ≤ s.campBlocks then s
          else if r.group.isSome && prmN s .campMulticastMin ≤ miss.length then
            sendRounds k fuel (put (nextBlock r) (sendBlock s c b (miss.headD 0) r.group))
          else match miss.drop r.sub with
            | [] => sendRounds k fuel (put (nextBlock r) s)
            | [m] => sendRounds k fuel (put (nextBlock r) (sendBlock s c b m none))
            | m :: _ => sendRounds k fuel (put { r with sub := r.sub + 1 } (sendBlock s c b m none))

/-- SUSPENDED members become SKIPPED once every other member is final; a member that has left service is SKIPPED. -/
def skipIdle (s : State) (k : Nat) : State :=
  match campOf s k with
  | none => s
  | some c =>
    let live := c.members.filter (memberLive s k c)
    let gone := live.filter (fun m => (mctOf s m).state = .retired || (mctOf s m).state = .free)
    let rest := live.filter (fun m => !gone.contains m)
    let skip := if rest.all (fun m => (mctOf s m).state = .suspended) then live else gone
    if skip.isEmpty then s
    else campDone (skip.foldl (fun s m => setCamp s m (fun f => { f with state := .skipped })) s) k

/-- One campaign goes on. -/
def campDrive (s : State) (k : Nat) : State :=
  match campOf s k with
  | none => s
  | some c =>
    if c.cancelled then campFree s k
    else if !c.started || c.paused then s
    else
      let s1 := skipIdle s k
      let s2 := c.members.foldl (memberStep k) s1
      sendRounds k (3 * prmN s .campBlocksPerTick + 64) (startRounds s2 k)

def campSlots : List Nat := [0, 1, 2, 3, 4, 5, 6, 7]

/-- The graph has an instance that drives campaigns, and traffic may leave. -/
def campMayRun (s : State) : Bool := serving s && !globalPressure s && (gNodes s).any (fun x => x.type == tCampaign)

/-- CAMPAIGN_TRACK: an answer among the items of a dispatch, or the steps that campaigns are ready for. -/
def execCampaignTrack (core : Option (Fin 64)) (s : State) : Host.Outcome State Fault Refusal :=
  finish s (if running s then
    match core with
    | some c => nodeWork tCampaign c.val itemLine trackItem s
    | none => if campMayRun s then campSlots.foldl campDrive s else s
  else s)

/-- CAMPAIGN_METER_TIMEOUT: a meter has given no response for camp.meter_timeout_h. -/
def campTimeoutEff (m : Nat) (s : State) : State :=
  match campIn s m with
  | some (k, c) => match c.asked.get? m with
    | some t =>
      if (mctOf s m).state ≠ .suspended && t + prmN s .campMeterTimeout * 3600 * nsPerS ≤ s.time.mc then campFail s k m 5 else s
    | none => s
  | none => s

def execCampaignMeterTimeout (m : Fin 1048576) (s : State) : Host.Outcome State Fault Refusal :=
  finish s (if running s then campTimeoutEff m.val s else s)

/-- CAMPAIGN_ACTIVATION_TIME: VERIFIED members are told to activate. -/
def activationTimeEff (k : Nat) (s : State) : State :=
  match campOf s k with
  | some c => if c.started && !c.paused && !c.cancelled && activateDue s c then c.members.foldl (memberStep k) s else s
  | none => s

def execCampaignActivationTime (slot : Fin 8) (s : State) : Host.Outcome State Fault Refusal :=
  finish s (if running s && campMayRun s then activationTimeEff slot.val s else s)

end Sys2Proof.Machine
end

