-- ==== Sys2Proof/Machine/Objects.lean ====
section
/-! DEFINITION. The COSEM objects: OBJ_GET, OBJ_SET and OBJ_ACTION (R233, R262 to R267, R388, R481). -/

namespace Sys2Proof.Machine
open Sys2Proof

/-! ### Objects and rights (R262, R265, R267) -/

inductive Obj where
  /-- A register of a meter: quantity 0 to 3, rate 0 for the total, and the F group. -/
  | energy (m q rate f : Nat)
  | adj (m q f : Nat)
  | periodSeq (m f : Nat)
  | demand (m rate f : Nat)
  | loadProfile (m : Nat)
  | billingProfile (m : Nat)
  | clock (c : Nat)
  | specialDays (c : Nat)
  | calendar (c : Nat)
  | image (k : Nat)
  deriving DecidableEq, Repr

def fOk (f : Nat) : Bool := f == 255 || (decide (1 ≤ f) && decide (f ≤ 99))

/-- The object of a meter that a class and OBIS name. -/
def meterObj (m cls : Nat) (obis : List Nat) : Option Obj :=
  match cls, obis with
  | 3, [1, 0, c, 8, e, f] =>
    if 1 ≤ c && c ≤ 4 && fOk f then (if e ≤ 8 then some (.energy m (c - 1) e f) else if e = 128 then some (.adj m (c - 1) f) else none) else none
  | 3, [0, 0, 0, 1, 0, f] => if fOk f then some (.periodSeq m f) else none
  | 4, [1, 0, 1, 6, e, f] => if 1 ≤ e && e ≤ 8 && fOk f then some (.demand m e f) else none
  | 7, [1, 0, 99, 1, 0, 255] => some (.loadProfile m)
  | 7, [0, 0, 98, 1, 0, 255] => some (.billingProfile m)
  | _, _ => none

/-- The object that a request addresses, if its scope, identifier, class and OBIS name one. -/
def objOf (s : State) (o : ObjRef) : Option Obj :=
  if o.scope = 0 then
    if o.id < mcxCount && (mctOf s o.id).state ≠ .free then meterObj o.id o.cls o.obis else none
  else if o.scope = 1 then
    if 63 < o.id || (calOf s o.id).active.isNone then none
    else match o.cls, o.obis with
      | 8, [0, 0, 1, 0, 0, 255] => some (.clock o.id)
      | 11, [0, 0, 11, 0, 0, 255] => some (.specialDays o.id)
      | 20, [0, 0, 13, 0, 0, 255] => some (.calendar o.id)
      | _, _ => none
  else if o.scope = 2 then
    match o.cls, o.obis with
    | 18, [0, 0, 44, 0, 0, 255] => if (campOf s o.id).isSome then some (.image o.id) else none
    | _, _ => none
  else none

/-- A missing right: NOT_PERMITTED and the entry of a role violation. -/
def noRight (r : Req) (code : Nat) (s : State) : Reply :=
  ⟨s, .notPermitted, [], [.trouble ⟨1, 0, locOpen, accByte (mbMaster s r) (mbWorld r) false, .notPermitted, [5, r.mb.val, code % 256, code / 256, 0]⟩]⟩

/-- Mailbox 0 has the rights of UTILITY_ADMIN, and READ always. -/
def mb0Right (s : State) (r : Req) (cls bit : Nat) : Bool := r.mb.val ≠ 0 || bit = 0 || hasRight s cls bit .utilityAdmin

def objCmd (r : Req) (code bit : Nat) (o : ObjRef) (h : Obj → State → Reply) (s : State) : Reply :=
  if !mb0Right s r o.cls bit then noRight r code s
  else match objOf s o with
    | none => deny s .badParam
    | some x => h x s

/-! ### OBJ_GET (R262, R263, R388) -/

/-- The entry that a register reads: the open period, or the F-th most recent snapshot. -/
def brtAt (s : State) (m f : Nat) : Option Brt :=
  if f = 255 then some (brtOf s m)
  else if prmN s .billProfileDepth < f then none
  else (s.p.bill.profile.getD m [])[f - 1]?

def energyOf (b : Brt) (q rate : Nat) : Nat :=
  if rate = 0 then ((List.range 8).map (fun i => nth b.energy (4 * i + q))).sum else nth b.energy (4 * (rate - 1) + q)

def adjOf (b : Brt) (q : Nat) : Int := if q = 0 then b.adj.ap else if q = 1 then b.adj.an else if q = 2 then b.adj.rp else b.adj.rn

/-- Unit of a quantity: Wh or varh. -/
def unitOf (q : Nat) : Nat := if q < 2 then 30 else 32

def obisBody (o : ObjRef) : Body := o.obis.map (fun v => (v, 1))

/-- A read that gives a Data value. -/
def gives (s : State) (b : Body) : Reply := ⟨s, .ok, b, []⟩

/-- An attribute of the class for which the manual gives no contents: a free value. -/
def givesFree (s : State) : Reply := ⟨{ s with freeCtr := s.freeCtr + 1 }, .ok, [(Config.freeValue s.freeCtr % 2 ^ 32, 4)], []⟩

/-- Class 3: logical name, value, scaler and unit. -/
def getRegister (o : ObjRef) (m f unit : Nat) (v : Brt → Nat) (s : State) : Reply :=
  match brtAt s m f with
  | none => deny s .badParam
  | some b =>
    if o.attr = 1 then gives s (obisBody o)
    else if o.attr = 2 then gives s [(v b, 8)]
    else if o.attr = 3 then gives s [(0, 1), (unit, 1)]
    else deny s .badParam

/-- Class 4: value, scaler and unit, status, capture time. -/
def getDemand (o : ObjRef) (m rate f : Nat) (s : State) : Reply :=
  match brtAt s m f with
  | none => deny s .badParam
  | some b =>
    let x := (b.md[rate - 1]?).getD {}
    if o.attr = 1 then gives s (obisBody o)
    else if o.attr = 2 then gives s [(x.value, 4)]
    else if o.attr = 3 then gives s [(0, 1), (27, 1)]
    else if o.attr = 4 then gives s [(b2n x.isPartial, 1)]
    else if o.attr = 5 then gives s [(et64z x.capture, 8)]
    else deny s .badParam

/-- Entries of a profile that a selective access names; none where the access is not one of the class. -/
def selected {α : Type} (sel : Nat) (d : ObjData) (at_ : α → Nat) (l : List α) : Option (List α) :=
  match sel, d with
  | 0, .absent => some l
  | 1, .range a b => some (l.filter (fun x => decide (a ≤ at_ x) && decide (at_ x ≤ b)))
  | 2, .entries a b => if 1 ≤ a && a ≤ b then some ((l.take b).drop (a - 1)) else none
  | _, _ => none

/-- A profile's buffer, if it fits a response. -/
def buffer (s : State) (l : List Body) : Reply := if 65536 < bodyLen l.flatten then deny s .noResource else gives s l.flatten

/-- Class 7: logical name, buffer, and the attributes of its kind. -/
def getProfile {α : Type} (o : ObjRef) (d : ObjData) (at_ : α → Nat) (f : α → Body) (l : List α) (size : Option Nat) (s : State) : Reply :=
  if o.attr = 1 then gives s (obisBody o)
  else if o.attr = 2 then
    match selected o.sel d at_ l with
    | some x => buffer s (x.map f)
    | none => deny s .badParam
  else if o.attr = 7 then gives s [(l.length, 4)]
  else if o.attr = 8 then (match size with | some n => gives s [(n, 4)] | none => givesFree s)
  else if o.attr < 9 && 0 < o.attr then givesFree s
  else deny s .badParam

/-- Interval records of a meter that the store holds. -/
def loadRecs (s : State) (m : Nat) : List (SRec × Bool) :=
  (readRange s.store (fun c => c = 0) m m 0 (2 ^ 32)).filter (fun r => match r.1.body with | .interval _ => !r.1.lost | _ => false)

def recEnd (r : SRec × Bool) : Nat := match r.1.body with | .interval x => x.endNs | _ => 0

def dstRuleBody (r : DstRule) : Body := [(r.month, 1), (r.week, 1), (r.weekday, 1), (r.hour, 1)]

/-- The body of the active part of a calendar. -/
def activeBody (s : State) (c : Nat) : CalBody := match (calOf s c).active with | some p => p.body | none => {}

/-- Class 8. -/
def getClock (o : ObjRef) (c : Nat) (s : State) : Reply :=
  let b := activeBody s c
  let dst := dstOn b (utcOf s (etNs s))
  let dev := b.stdOffsetMin + (if dst then (b.dstDeltaMin : Int) else 0)
  match o.attr with
  | 1 => gives s (obisBody o)
  | 2 => gives s [(localAt s b (etNs s) / nsPerS, 8), (encS 2 dev, 2), (b2n dst, 1)]
  | 3 => gives s [(encS 2 b.stdOffsetMin, 2)]
  | 4 => gives s [(b2n dst, 1)]
  | 5 => gives s (dstRuleBody b.dstStart)
  | 6 => gives s (dstRuleBody b.dstEnd)
  | 7 => gives s [(b.dstDeltaMin, 1)]
  | 8 => gives s [(b2n (0 < b.dstDeltaMin), 1)]
  | 9 => givesFree s
  | _ => deny s .badParam

def specialBody (d : SpecialDay) : Body := [(d.year, 2), (d.month, 1), (d.day, 1), (d.profile, 1)]

/-- Class 11. -/
def getSpecial (o : ObjRef) (c : Nat) (s : State) : Reply :=
  match o.attr with
  | 1 => gives s (obisBody o)
  | 2 => gives s ((activeBody s c).special.map specialBody).flatten
  | _ => deny s .badParam

def seasonBody (x : Season) : Body := [(x.month, 1), (x.day, 1), (x.week, 1)]

def weekBody (l : List Nat) : Body := l.map (fun d => (d, 1))

def dayBody (l : List SwitchPoint) : Body := (l.length, 1) :: (l.map (fun p => [(p.hour, 1), (p.minute, 1), (p.rate, 1)])).flatten

/-- NAME and tables of a part, by place 0 to 3. -/
def partAttr (p : Option CalPart) (i : Nat) : Body :=
  match p with
  | none => [(0, 1)]
  | some x => match i with
    | 0 => [(x.name, 8)]
    | 1 => (x.body.seasons.map seasonBody).flatten
    | 2 => (x.body.weeks.map weekBody).flatten
    | _ => (x.body.days.map dayBody).flatten

def dateBody (d : DateTime) : Body := [(d.year, 2), (d.month, 1), (d.day, 1), (d.hour, 1), (d.minute, 1), (d.second, 1)]

/-- Class 20. -/
def getCalendar (o : ObjRef) (c : Nat) (s : State) : Reply :=
  let x := calOf s c
  if o.attr = 1 then gives s (obisBody o)
  else if 2 ≤ o.attr && o.attr ≤ 5 then gives s (partAttr x.active (o.attr - 2))
  else if 6 ≤ o.attr && o.attr ≤ 9 then gives s (partAttr x.passive (o.attr - 6))
  else if o.attr = 10 then gives s (match x.passive with | some p => dateBody p.activate | none => [(0, 1)])
  else deny s .badParam

/-- The union of the blocks that members still miss. -/
def campMissing (s : State) (k : Nat) (c : Campaign) : List Nat :=
  (List.range (campBlockCount c)).filter (fun b => c.members.any (fun m => memberLive s k c m && blockMissing c b m))

/-- The least advanced state that is not final. -/
def leastState (s : State) (k : Nat) (c : Campaign) : Option Nat :=
  ((campStates.map (fun st => (st, campStateCode st))).find? (fun x => !campFinal x.1 && c.members.any (fun m =>
    memberLive s k c m && (memberField s k c m).state = x.1))).map Prod.snd

/-- Class 18: the campaign's view. -/
def getImage (o : ObjRef) (k : Nat) (s : State) : Reply :=
  match campOf s k with
  | none => deny s .badParam
  | some c => match o.attr with
    | 1 => gives s (obisBody o)
    | 2 => gives s [(c.blockSize, 4)]
    | 3 => gives s [((campMissing s k c).foldl natSetBit 0, (campBlockCount c + 7) / 8)]
    | 4 => gives s [((campMissing s k c).headD (campBlockCount c), 4)]
    | 5 => gives s [(b2n (!c.paused), 1)]
    | 6 => (match leastState s k c with | some v => gives s [(v, 1)] | none => givesFree s)
    | 7 => gives s [(c.imageLen, 4), (c.imageId, 32)]
    | _ => deny s .badParam

def objGet (o : ObjRef) (d : ObjData) (x : Obj) (s : State) : Reply :=
  match x with
  | .energy m q rate f => getRegister o m f (unitOf q) (fun b => energyOf b q rate) s
  | .adj m q f => getRegister o m f (unitOf q) (fun b => encS 8 (adjOf b q)) s
  | .periodSeq m f => getRegister o m f 255 (fun b => b.seq) s
  | .demand m rate f => getDemand o m rate f s
  | .loadProfile m => getProfile o d recEnd (fun r => sBody r.1.body) (loadRecs s m) none s
  | .billingProfile m =>
    getProfile o d Brt.closeAt (fun b => sBody (.billing m b)) ((s.p.bill.profile.getD m []).reverse) (some (prmN s .billProfileDepth)) s
  | .clock c => getClock o c s
  | .specialDays c => getSpecial o c s
  | .calendar c => getCalendar o c s
  | .image k => getImage o k s

def ciObj (code : Nat) (w c : Bool) : CmdInfo := { code := code, plain := 0x03, byTable := true, states := 0x06, w := w, c := c }

/-- OBJ_GET. -/
def execObjGet (r : Req) (o : ObjRef) (d : ObjData) (s : State) : Host.Outcome State Fault Refusal :=
  finish s (gmiT (ciObj 0x0701 false true) (hasRight s o.cls 0) r (objCmd r 0x0701 0 o (objGet o d)) s)

/-! ### OBJ_SET (R233, R264, R388) -/

/-- The interval record last made for a meter and END, oldest storage first. -/
def heldRec (s : State) (m endNs : Nat) : Option IRec :=
  let x := s.store
  let l := (readRange x (fun c => c = 0) m m 0 (2 ^ 32)).map Prod.fst ++ (x.staging.map (fun t => t.recs)).flatten ++ x.stream
  (l.filterMap (fun r => match r.body with
    | .interval i => if i.mcx = m && i.endNs = endNs && i.kind ≠ 3 && !r.lost then some i else none
    | _ => none)).getLast?

/-- The interval at a place of the horizon holds a value. -/
def holdsValue (s : State) (m l endNs : Nat) : Bool :=
  let e := mctOf s m
  match placeOf s e l endNs with
  | .inside i => e.val.present.getLsbD i || e.val.est.getLsbD i
  | _ => false

/-- The values that an override supersedes: those of the estimate ledger, else of the record last made; where the interval holds a
value that no record is left of, free values. -/
def superseded (s : State) (m l endNs : Nat) : State × Qty4 :=
  match ledgerFind s m endNs with
  | some x => (s, x.vals)
  | none => match heldRec s m endNs with
    | some r => (s, r.vals)
    | none =>
      if holdsValue s m l endNs then
        let f := fun (i : Nat) => ((Config.freeValue (s.freeCtr + i) % 2 ^ 32 : Nat) : Int)
        ({ s with freeCtr := s.freeCtr + 4 }, ⟨f 0, f 1, f 2, f 3⟩)
      else (s, {})

/-- An OVERRIDE record of one interval (R233). -/
def overrideEff (s0 : State) (m endNs : Nat) (v : Qty4) : State :=
  let s := relen s0 m
  let t := classOf s (mctOf s m).cls
  let l := lenOf t
  let o := superseded s m l endNs
  let r : IRec := { mcx := m, icode := t.interval, endNs := endNs, quality := 0x80, kind := 4, vals := v, delta := qSub v o.2
                    tick := s.vault.tick, cls := (mctOf s m).cls }
  let s1 := match placeOf s (mctOf s m) l endNs with
    | .after d => updM o.1 m (fun e => advanceTo e d endNs true)
    | .inside i => updM o.1 m (fun e => markPresent e i)
    | .before => o.1
  pushFrom (ledgerErase s1 m endNs) tValidate [recItem r]

/-- The values fit their fields. -/
def qtyOk (v : Qty4) : Bool := [v.ap, v.an, v.rp, v.rn].all (fun x => decide (0 ≤ x) && decide (x < 2 ^ 32))

def setInterval (m endNs : Nat) (v : Qty4) (s : State) : Reply :=
  let e := mctOf s m
  if !(e.state = .joined || e.state = .active) then deny s .notPermitted
  else if !qtyOk v || etNs s < endNs || !isEnd s (lenOf (classOf s e.cls)) endNs then deny s .badParam
  else ⟨overrideEff s m endNs v, .ok, [], []⟩

/-- A new ACTIVATE for the passive part, checked under R243. -/
def setActivate (c : Nat) (d : DateTime) (s : State) : Reply :=
  let x := calOf s c
  match x.passive with
  | none => deny s .calendarInvalid
  | some p =>
    if dateTimeOk d then ⟨calSet s c { x with passive := some (passivePart s c p.name false d p.body) }, .ok, [], []⟩
    else deny s .calendarInvalid

def objSet (o : ObjRef) (d : ObjData) (x : Obj) (s : State) : Reply :=
  match x, d with
  | .loadProfile m, .interval e v => if o.attr = 2 then setInterval m e v s else deny s .notPermitted
  | .loadProfile _, _ => deny s (if o.attr = 2 then .badParam else .notPermitted)
  | .calendar c, .date t => if o.attr = 10 then setActivate c t s else deny s .notPermitted
  | .calendar _, _ => deny s (if o.attr = 10 then .badParam else .notPermitted)
  | .image k, .flag b => if o.attr = 5 then ⟨campMod s k (fun c => { c with paused := !b }), .ok, [], []⟩ else deny s .notPermitted
  | .image _, _ => deny s (if o.attr = 5 then .badParam else .notPermitted)
  | _, _ => deny s .notPermitted

/-- OBJ_SET. -/
def execObjSet (r : Req) (o : ObjRef) (d : ObjData) (s : State) : Host.Outcome State Fault Refusal :=
  finish s (gmiT (ciObj 0x0702 true true) (hasRight s o.cls 1) r (objCmd r 0x0702 1 o (objSet o d)) s)

/-! ### OBJ_ACTION (R264, R388) -/

/-- Null data. -/
def nullData : Body := [(0, 1)]

/-- MD[e] returns to 0, with a privileged record (R352). -/
def resetDemand (s : State) (m rate : Nat) : Reply :=
  let b := brtOf s m
  ⟨brtSet s m { b with md := setAt b.md (rate - 1) {} }, .ok, nullData, [boundaryRec (calIdOf s m) 2 (etNs s) m]⟩

def objAction (o : ObjRef) (x : Obj) (s : State) : Reply :=
  match x with
  | .billingProfile m =>
    if o.attr = 2 then
      match closeMeterNow s m with
      | some s1 => ⟨s1, .ok, nullData, []⟩
      | none => deny s .periodClosed
    else deny s .notPermitted
  | .demand m rate f => if o.attr = 1 && f = 255 then resetDemand s m rate else deny s .notPermitted
  | .calendar c =>
    let y := calOf s c
    match y.passive with
    | some p => if o.attr = 1 then ⟨calSet s c { y with passive := some { p with due := true } }, .ok, nullData, []⟩ else deny s .notPermitted
    | none => deny s .notPermitted
  | .image k => if o.attr = 4 then ⟨campMod s k (fun c => { c with activate := etNs s }), .ok, nullData, []⟩ else deny s .notPermitted
  | _ => deny s .notPermitted

/-- OBJ_ACTION. -/
def execObjAction (r : Req) (o : ObjRef) (_ : ObjData) (s : State) : Host.Outcome State Fault Refusal :=
  finish s (gmiT (ciObj 0x0703 true false) (hasRight s o.cls 2) r (objCmd r 0x0703 2 o (objAction o)) s)

end Sys2Proof.Machine
end

