-- ==== Sys2Proof/Machine/Updates.lean ====
section
/-! DEFINITION. Updates of the engine's own image set: manifest, staging, verification, preparation and graft (R367 to R382, R485). -/

namespace Sys2Proof.Machine
open Sys2Proof

/-! ### The lock (R375) -/

def updFree : Nat := 0xFF

def heldSeq (s : State) : Nat := match s.upd.man with | some m => m.seq | none => 0

/-- The answer while another source holds the lock. -/
def updLocked (s : State) : Reply := ⟨s, .updateLocked, [(s.upd.holder, 1), (0, 3), (heldSeq s, 8)], []⟩

/-- Release the lock; the staged slot is no longer of use. -/
def updIdle (s : State) : State :=
  { s with upd := { s.upd with
      phase := .idle, holder := updFree, man := none, chunks := [], failPart := 0, graph := none, rules := []
      prepB := false, prepRewrap := false, prepBank := false, rewrapping := false, grafted := false } }

/-- An UPD_* command of the holder restarts the idle timer. -/
def updTouch (s : State) : State := { s with upd := { s.upd with lastMc := s.time.mc } }

/-- A command of the holder in the states it is accepted in: TAMPERED first, then the lock, then the state (R373, R375). -/
def updHeld (r : Req) (phases : List UpdPhase) (h : State → Reply) (s : State) : Reply :=
  if s.vault.tampered then deny s .tampered
  else if s.upd.holder = updFree then deny s .notPermitted
  else if s.upd.holder ≠ r.mb.val then updLocked s
  else if phases.contains s.upd.phase then h (updTouch s)
  else deny (updTouch s) .notPermitted

/-! ### UPD_BEGIN (R367 to R375) -/

/-- Maximum size of a part (R367). -/
def partMax : Nat → Nat
  | 1 => 16777216 | 2 => 8388608 | 3 => 4194304 | 4 => 4194304 | 5 => 262144 | 6 => 1048576 | 7 => 1048576 | 8 => 1048576 | _ => 0

def partsOf (m : Manifest) (code : Nat) : Option PartEntry := m.parts.find? (fun p => p.type == code)

def namesPart (m : Manifest) (code : Nat) : Bool := (partsOf m code).isSome

/-- Step 1 of R374. -/
def manFormOk (m : Manifest) : Bool :=
  m.formatOk && decide (1 ≤ m.parts.length) && decide (m.parts.length ≤ 8) && decide (m.seq ≠ 0) &&
  uniqueNat (m.parts.map PartEntry.type) &&
  m.parts.all (fun p => decide (1 ≤ p.type) && decide (p.type ≤ 8) && decide (p.size ≤ partMax p.type) &&
    decide (p.offset % 4096 = 0) && decide (p.offset + p.size ≤ m.streamLen))

/-- Step 2: the Adeosturn signature and the countersignature. -/
def manSigned (s : State) (r : Req) (m : Manifest) : State × Bool :=
  if !m.sigOk then (s, false)
  else match m.countersign with
    | none => (s, prmN s .updCountersign = 0)
    | some t => match trailerFail s r t 14 with
      | (s1, some _) => (s1, false)
      | (s1, none) => (s1, true)

/-- Step 3: the scope and the transit key, which must unwrap the content key. -/
def manScope (s : State) (r : Req) (m : Manifest) : State × Option Status :=
  if m.scope ≠ 0 && m.scope ≠ s.vault.deviceId.toNat then (s, some .imageInvalid)
  else if hClass m.transitKek ≠ 6 then (s, some .imageInvalid)
  else match useKey s r m.transitKek 5 [2] 1 with
    | (s1, some st) => (s1, some st)
    | (s1, none) => (s1, if m.cekOk then none else some .imageInvalid)

def rolledBack (s : State) (m : Manifest) : Bool :=
  decide (m.seq ≤ s.vault.counters.getD 9 0) || m.parts.any (fun p => decide (p.secVersion < s.vault.counters.getD p.type 0))

/-- The handover version of the running Gamokor. -/
def handoverNow (s : State) : Nat := Config.handoverOf (match s.upd.run.parts.get? 1 with | some p => p.hash | none => 0)

/-- Steps 1 to 5 of R374. -/
def manFail (s : State) (r : Req) (m : Manifest) : State × Option Status :=
  if !manFormOk m then (s, some .imageInvalid)
  else match manSigned s r m with
    | (s1, false) => (s1, some .authFail)
    | (s1, true) => match manScope s1 r m with
      | (s2, some st) => (s2, some st)
      | (s2, none) =>
        if rolledBack s2 m then (s2, some .rollbackRefused)
        else if namesPart m 1 && (decide (handoverNow s2 < m.handoverMin) || decide (m.handoverMax < handoverNow s2)) then (s2, some .imageInvalid)
        else (s2, none)

/-- The refusal of an update is recorded by UPDATE (R351). -/
def refusalRec (st : Status) : Emit := .record 6 (stCode st) [(0, 2), (0, 2)]

def receive (s : State) (r : Req) (m : Manifest) : State :=
  let s1 := updIdle s
  { s1 with upd := { s1.upd with phase := .receiving, holder := r.mb.val, man := some m, lastMc := s.time.mc } }

/-- What ends a held update: the ABORTED event at its source, and the FINAL of a verification under way. -/
def preempted (s : State) (r : Req) (m : Manifest) : List Emit :=
  [.event .aborted 0 (BitVec.ofNat 8 (2 ^ s.upd.holder)) [(0, 1), (r.mb.val, 1), (0, 2), (m.seq, 8)]] ++
  (if s.upd.phase = .verifying then [.final 0x0B03 .aborted [(0, 1), (0, 3)]] else [])

def updBegin (r : Req) (m : Manifest) (s0 : State) : Reply :=
  if s0.vault.tampered then deny s0 .tampered
  else
    let s := if s0.upd.holder = r.mb.val then updTouch s0 else s0
    match manFail s r m with
    | (s1, some st) => ⟨s1, st, [], [refusalRec st]⟩
    | (s1, none) =>
      match s1.upd.phase with
      | .idle => ⟨receive s1 r m, .ok, [], []⟩
      | .receiving | .verifying => if heldSeq s1 < m.seq then ⟨receive s1 r m, .ok, [], preempted s1 r m⟩ else updLocked s1
      | .staged | .activating => updLocked s1

def ciUpdBegin : CmdInfo := { code := 0x0B01, plain := 0x11, roles := 0x01, states := 0x06, hold := true }

/-- UPD_BEGIN. -/
def execUpdBegin (r : Req) (man : Manifest) (s : State) : Host.Outcome State Fault Refusal :=
  finish s (gmi ciUpdBegin r (updBegin r man) s)

/-! ### Chunks and verification (R376, R377) -/

def chunkBytes : Nat := 4032

def chunkCount (m : Manifest) : Nat := (m.streamLen + 4031) / chunkBytes

def updChunks (s : State) : Nat := match s.upd.man with | some m => chunkCount m | none => 0

/-- Bytes of chunk `i`: 4,032, or the remainder in the last. -/
def chunkLen (m : Manifest) (i : Nat) : Nat := min chunkBytes (m.streamLen - chunkBytes * i)

def missingCount (s : State) : Nat := updChunks s - s.upd.chunks.length

def updChunk (i len : Nat) (s : State) : Reply :=
  match s.upd.man with
  | none => deny s .notPermitted
  | some m =>
    if chunkCount m ≤ i || len ≠ chunkLen m i then deny s .badParam
    else
      let s1 := { s with upd := { s.upd with chunks := if s.upd.chunks.contains i then s.upd.chunks else s.upd.chunks ++ [i] } }
      ⟨s1, .ok, [(missingCount s1, 4)], []⟩

def ciUpd (code : Nat) (p : Bool) : CmdInfo := { code := code, plain := 0x11, roles := 0x01, states := 0x06, hold := true, pflag := p }

/-- UPD_CHUNK. -/
def execUpdChunk (r : Req) (chunk : Word32) (len : Nat) (s : State) : Host.Outcome State Fault Refusal :=
  finish s (gmi (ciUpd 0x0B02 false) r (updHeld r [.receiving] (updChunk chunk.toNat len)) s)

def updVerify (s : State) : Reply :=
  if 0 < missingCount s then deny s .badParam
  else ⟨{ s with upd := { s.upd with phase := .verifying, failPart := 0 } }, .pending, [], []⟩

/-- UPD_VERIFY. -/
def execUpdVerify (r : Req) (s : State) : Host.Outcome State Fault Refusal :=
  finish s (gmi (ciUpd 0x0B03 true) r (updHeld r [.receiving] updVerify) s)

/-- Chunk `i` holds bytes of a part. -/
def chunkOf (p : PartEntry) (i : Nat) : Bool := decide (chunkBytes * i < p.offset + p.size) && decide (p.offset < chunkBytes * (i + 1))

/-- Verification ends: every part good, or the first failing part, whose chunks are unmarked. -/
def verifyDone (fail : Option Nat) (graph : Option GraphImage) (rules : List RulesPkg) (s : State) : State :=
  if s.upd.phase ≠ .verifying then s
  else match fail with
    | none =>
      emit1 { s with upd := { s.upd with phase := .staged, graph := graph, rules := rules, lastMc := s.time.mc } } (.final 0x0B03 .ok [(0, 1), (0, 3)])
    | some c =>
      let keep := match s.upd.man.bind (fun m => partsOf m c) with
        | some p => s.upd.chunks.filter (fun i => !chunkOf p i)
        | none => s.upd.chunks
      emitAll { s with upd := { s.upd with phase := .receiving, failPart := c, chunks := keep, lastMc := s.time.mc } }
        [.final 0x0B03 .imageInvalid [(c, 1), (0, 3)], refusalRec .imageInvalid]

/-- UPD_VERIFY_DONE: with the contents that verification found in the GRAPH and RULES parts. -/
def execUpdVerifyDone (fail : Option (Fin 9)) (graph : Option GraphImage) (rules : List RulesPkg) (s : State) : Host.Outcome State Fault Refusal :=
  finish s (if running s then verifyDone (fail.map Fin.val) graph rules s else s)

/-! ### Preparation (R178, R378) -/

/-- Hash of a part that will run: the manifest's, else the running one's. -/
def nextPart (s : State) (m : Manifest) (code : Nat) : PartEntry :=
  match partsOf m code with
  | some p => p
  | none => (s.upd.run.parts.get? code).getD ⟨code, 0, 0, 0, 0, 0, 0⟩

/-- The prospective BMR. -/
def nextBmr (s : State) (m : Manifest) : Nat :=
  let w := nextPart s m 1
  Config.extend (Config.extend (Config.extend (Config.extend 0 s.vault.rom) w.bootHash) w.hash) (nextPart s m 2).hash

def needsRewrap (s : State) (m : Manifest) : Bool := (namesPart m 1 || namesPart m 2) && decide (nextBmr s m ≠ s.vault.bmr)

/-- The KEKs of a BMR to come. -/
def nextKek (s : State) (m : Manifest) : Option KekId := (vaultKek s).map (fun k => { k with bmr := nextBmr s m })

/-- The image set that will run. -/
def nextSet (s : State) (m : Manifest) : ImageSet :=
  { epoch := s.vault.counters.getD 0 0 + b2n (needsRewrap s m), seq := m.seq, bank := 1 - s.upd.run.bank
    parts := m.parts.foldl (fun t p => t.set p.type p) s.upd.run.parts }

/-- The vault's record slot not in use is the one that does not hold the running set. -/
def writeRec (s : State) (x : Option ImageSet) : State :=
  if s.upd.rec0 = some s.upd.run then { s with upd := { s.upd with rec1 := x } } else { s with upd := { s.upd with rec0 := x } }

def updActivate (s : State) : Reply :=
  match s.upd.man with
  | none => deny s .notPermitted
  | some m =>
    let w := needsRewrap s m
    ⟨{ s with
       upd := { s.upd with phase := .activating, startMc := s.time.mc, prepB := !namesPart m 1, prepRewrap := !w, prepBank := false, rewrapping := w }
       keys := { s.keys with
         kekNext := if w then nextKek s m else none
         rewrap := if w then some { s.p.keys with epoch := s.vault.counters.getD 0 0 + 1 } else none
         rewrapCursor := 0, rewrapDurable := false } }, .pending, [], []⟩

/-- UPD_ACTIVATE. -/
def execUpdActivate (r : Req) (s : State) : Host.Outcome State Fault Refusal :=
  finish s (gmi (ciUpd 0x0B04 true) r (updHeld r [.staged] updActivate) s)

/-- What preparation made is discarded; the update is STAGED again (R381). -/
def revertPrep (s : State) : State :=
  let s1 := writeRec s none
  { s1 with
    upd := { s1.upd with phase := .staged, prepB := false, prepRewrap := false, prepBank := false, rewrapping := false, lastMc := s.time.mc }
    keys := { s1.keys with kekNext := none, rewrap := none, rewrapCursor := 0, rewrapDurable := false } }

/-- The graft fails before the commit operation (R381). -/
def graftFails (s : State) : State :=
  emitAll (revertPrep s) [.final 0x0B04 .graftFailed [],
    .trouble ⟨0xD, 0, locOpen, accByte 0 0 false, .graftFailed, [b2n (!activeB s.err), 4, 0, 0, 0, 0]⟩, refusalRec .graftFailed]

/-- The update is ACTIVATING and its commit operation is still to come. -/
def preparing (s : State) : Bool := decide (s.upd.phase = .activating) && !s.upd.grafted

/-- A preparation step ends. -/
def prepDone (ok : Bool) (f : State → State) (s : State) : State :=
  if preparing s then (if ok then f s else graftFails s) else s

/-- PAIR_B_READY: the idle pair runs the new Gamokor and holds the handover state. -/
def execPairBReady (ok : Bool) (s : State) : Host.Outcome State Fault Refusal :=
  finish s (if running s then prepDone ok (fun s => { s with upd := { s.upd with prepB := true } }) s else s)

/-- REWRAP_DONE: the new bank's checkpoint is durable. -/
def execRewrapDone (ok : Bool) (s : State) : Host.Outcome State Fault Refusal :=
  finish s (if running s && s.upd.rewrapping then
    prepDone ok (fun s => { s with upd := { s.upd with prepRewrap := true }, keys := { s.keys with rewrapDurable := true } }) s else s)

/-- BOOT_BANK_WRITTEN: the idle boot bank is written and reads back, and the vault's unused record names the new set. -/
def execBootBankWritten (ok : Bool) (s : State) : Host.Outcome State Fault Refusal :=
  finish s (if running s then prepDone ok (fun s =>
    let s1 := match s.upd.man with | some m => writeRec s (some (nextSet s m)) | none => s
    { s1 with upd := { s1.upd with prepBank := true } }) s else s)

/-- GRAFT_TIMEOUT: preparation is not complete within upd.graft_timeout_s. -/
def execGraftTimeout (s : State) : Host.Outcome State Fault Refusal :=
  finish s (if running s && preparing s && decide (s.upd.startMc + prmN s .updGraftTimeout * nsPerS ≤ s.time.mc) then graftFails s else s)

/-! ### The graft boundary (R379, R380) -/

/-- A key under the KEKs that the new bank is wrapped with. -/
def rewrapKey (old new : KekId) (k : MKey) : MKey := if k.kek = old then { k with kek := new } else k

/-- The bank that a re-wrap leaves. -/
def rewrapBank (old new : KekId) (epoch : Nat) (b : Bank) : Bank :=
  { epoch := epoch
    meters := b.meters.map (fun e => (e.1, { e.2 with
      uc := rewrapKey old new e.2.uc, ak := rewrapKey old new e.2.ak, bk := rewrapKey old new e.2.bk
      pUc := e.2.pUc.map (rewrapKey old new), pAk := e.2.pAk.map (rewrapKey old new), pBk := e.2.pBk.map (rewrapKey old new) }))
    slots := b.slots.map (fun e => (e.1, if e.2.kek = old then { e.2 with kek := new } else e.2)) }

/-- Steps 2 and 3 with a re-wrap: KEY_EPOCH increments, the KEK file switches, the working keys are cleared, the new bank is current. -/
def commitRewrap (s : State) : State :=
  let epoch := s.vault.counters.getD 0 0 + 1
  match s.keys.kek, s.keys.kekNext with
  | some old, some new =>
    { s with
      vault := { s.vault with counters := s.vault.counters.set 0 epoch, bmr := new.bmr }
      keys := { clearWorking s.keys with kek := some new, kekNext := none, rewrap := none, rewrapCursor := 0, rewrapDurable := false }
      p := { s.p with keys := rewrapBank old new epoch s.p.keys } }
  | _, _ => { s with vault := { s.vault with counters := s.vault.counters.set 0 epoch } }

/-- Step 4: the idle pair takes over and the other halts. -/
def pairsSwap (e : ErrSt) : ErrSt :=
  if activeB e then { e with pairA := .active, pairB := .halted } else { e with pairA := .halted, pairB := .active }

/-- Step 5: counters 1 to 8, and counter 9. -/
def advanceCounters (c : Tbl Nat) (m : Manifest) : Tbl Nat :=
  (m.parts.foldl (fun t p => t.set p.type (max p.secVersion (t.getD p.type 0))) c).set 9 m.seq

/-- The request as whose checks a part of the update is judged: the holder's. -/
def holderReq (s : State) : Req := { mb := ⟨s.upd.holder % 8, Nat.mod_lt _ (by decide)⟩, tag := 0 }

/-- The GRAPH part is judged like a loaded graph and comes into force at this boundary (R195). -/
def graftGraph (s : State) (g : GraphImage) : State :=
  match graphFail { s with upd := { s.upd with phase := .idle } } (holderReq s) g with
  | (s1, some st) =>
    emit1 { s1 with upd := s.upd, flow := { s1.flow with lastStatus := st } } (configRec s 0 st g.graphId.toNat)
  | (s1, none) =>
    let s2 := if s1.flow.next.isSome then emit1 s1 (.final 0x0601 .flushed []) else s1
    { s2 with upd := s.upd, flow := { s2.flow with next := some ⟨g, s.vault.tick - 1⟩ } }

/-- The packages of the RULES part are judged like loaded ones. -/
def graftRules (s : State) (p : RulesPkg) : State :=
  match rulesFail s (holderReq s) p with
  | (s1, some st) => emit1 s1 (configRec s 1 st p.rulesId.toNat)
  | (s1, none) => rulesTake s1 p

def graftParts (s : State) : State :=
  let s1 := match s.upd.graph with | some g => graftGraph s g | none => s
  s1.upd.rules.foldl graftRules s1

/-- The update is over: the FINAL event, and the lock is free (R380). -/
def graftEnd (s : State) : State :=
  emit1 (updIdle s) (.final 0x0B04 .ok [(heldSeq s, 8), (s.vault.counters.getD 0 0, 4)])

/-- Steps 2 to 6 of R379. -/
def graftEff (m : Manifest) (s : State) : State :=
  let set := nextSet s m
  let s1 := if s.upd.rewrapping then commitRewrap s else s
  let s2 := { s1 with
    vault := { s1.vault with counters := advanceCounters s1.vault.counters m }
    err := if namesPart m 1 then pairsSwap s1.err else s1.err
    upd := { s1.upd with grafted := true, run := set } }
  let s3 := emit1 (if s2.upd.rec0 = some set then { s2 with upd := { s2.upd with rec1 := none } } else { s2 with upd := { s2.upd with rec0 := none } })
    (.record 6 0x8050 [(m.seq, 8), (s2.vault.counters.getD 0 0, 4), (s2.vault.tick, 8)])
  let s4 := graftParts s3
  if namesPart m 1 then s4 else graftEnd s4

/-- Every preparation step is complete. -/
def prepared (s : State) : Bool := preparing s && s.upd.prepB && s.upd.prepRewrap && s.upd.prepBank

/-- GRAFT: at the first Tick boundary at which preparation is complete and no overrun run is in progress. -/
def execGraft (s : State) : Host.Outcome State Fault Refusal :=
  finish s (match s.upd.man with
    | some m =>
      if running s && s.time.ticking && decide (s.time.mc = s.time.tickStartMc) && prepared s && !s.flow.overrun then graftEff m s else s
    | none => s)

/-- PAIR_A_READY: the pair that halted runs the new Gamokor and is the idle pair. -/
def pairAReadyEff (s : State) : State :=
  let e := s.err
  graftEnd { s with err := if activeB e then { e with pairA := .healthy } else { e with pairB := .healthy } }

def execPairAReady (s : State) : Host.Outcome State Fault Refusal :=
  finish s (if running s && decide (s.upd.phase = .activating) && s.upd.grafted then pairAReadyEff s else s)

/-! ### Abort, expiry and status -/

/-- The lock held and the update RECEIVING or STAGED, without a command of the holder for upd.lock_idle_s. -/
def execUpdLockIdleExpiry (s : State) : Host.Outcome State Fault Refusal :=
  finish s (if running s && (decide (s.upd.phase = .receiving) || decide (s.upd.phase = .staged)) &&
      decide (s.upd.lastMc + prmN s .updLockIdle * nsPerS ≤ s.time.mc) then updIdle s else s)

def updAbort (r : Req) (s : State) : Reply :=
  if s.vault.tampered then deny s .tampered
  else if s.upd.holder = updFree || s.upd.grafted then deny s .notPermitted
  else if s.upd.holder ≠ r.mb.val && r.mb.val ≠ 0 then updLocked s
  else match s.upd.phase with
    | .verifying => ⟨updIdle s, .ok, [], [.final 0x0B03 .aborted [(0, 1), (0, 3)]]⟩
    | .activating => ⟨updIdle (revertPrep s), .ok, [], [.final 0x0B04 .aborted []]⟩
    | _ => ⟨updIdle s, .ok, [], []⟩

/-- UPD_ABORT. -/
def execUpdAbort (r : Req) (s : State) : Host.Outcome State Fault Refusal := finish s (gmi (ciUpd 0x0B05 false) r (updAbort r) s)

def updPhaseCode : UpdPhase → Nat
  | .idle => 0 | .receiving => 1 | .verifying => 2 | .staged => 3 | .activating => 4

def lowestMissing (l : List Nat) : Nat → Nat → Option Nat
  | 0, _ => none
  | n + 1, i => if l.contains i then lowestMissing l n (i + 1) else some i

def updStatus (s : State) : Reply :=
  let low := lowestMissing s.upd.chunks (updChunks s) 0
  let idle := if s.upd.holder = updFree then 0 else (s.time.mc - s.upd.lastMc) / nsPerS
  ⟨{ s with freeCtr := s.freeCtr + 1 }, .ok,
   [(updPhaseCode s.upd.phase, 1), (s.upd.holder, 1), (s.upd.failPart, 1), (0, 1), (heldSeq s, 8),
    ((match low with | some i => i | none => Config.freeValue s.freeCtr % 2 ^ 32), 4), (missingCount s, 4), (updChunks s, 4), (idle, 4)], []⟩

def ciUpdStatus : CmdInfo := { code := 0x0B06, plain := 0x13, roles := 0x1F, states := 0x0E, hold := true }

/-- UPD_STATUS. -/
def execUpdStatus (r : Req) (s : State) : Host.Outcome State Fault Refusal := finish s (gmi ciUpdStatus r updStatus s)

end Sys2Proof.Machine
end

