-- ==== Sys2Proof/Machine/PairOps.lean ====
section
/-! DEFINITION. What the pair's commands share: roles, promotion, demotion, the replica, the digest and the HEALTH word (R391 to R413). -/

namespace Sys2Proof.Machine
open Sys2Proof

/-! ### Roles and status bits (R391, R403) -/

def pairRoleCode : PairRole → Nat
  | .single => 0 | .starting => 1 | .resync => 2 | .standby => 3 | .active => 4 | .held => 5

def pairRoleOf : Nat → Option PairRole
  | 0 => some .single | 1 => some .starting | 2 => some .resync | 3 => some .standby | 4 => some .active | 5 => some .held
  | _ => none

def setPair (s : State) (f : PairSt → PairSt) : State := { s with pair := f s.pair }

/-- Interrupt source 15, where PAIR_INT_ENABLE lets the bit through. -/
def pairIrq (s : State) (bit : Nat) : State :=
  if s.pair.intEnable.getLsbD (bit - 8) then { s with irq := irqRaise s.irq 15 } else s

/-- A change of role: PAIR_STATUS.TAKEOVER and a ROLE_CHANGE record of KIND 0. -/
def roleTo (s : State) (new : PairRole) : State :=
  if new = s.pair.role then s
  else
    let old := s.pair.role
    let s1 := setPair s (fun q => { q with role := new, takeover := true })
    pairIrq (emit1 s1 (.record 7 0x8060 [(0, 1), (pairRoleCode old, 1), (pairRoleCode new, 1), (0, 1), (0, 8)])) 12

/-- The DEVICE_ID of this engine is the lower of the pair's. -/
def lowerId (s : State) : Bool := decide ((s.vault.deviceId.toNat : Int) < prm s .pairPeerId)

/-- A time in ms since an instant of MC. -/
def sinceMs (s : State) (mc : Nat) : Nat := (s.time.mc - mc) / 1000000

def msNs : Nat := 1000000

/-- Both paths have been silent for so many ms. -/
def bothSilent (s : State) (ms : Nat) : Bool :=
  decide (ms * msNs ≤ s.time.mc - s.pair.hbLastMc) && decide (ms * msNs ≤ s.time.mc - s.pair.pinLastMc)

/-- Lag of R400. -/
def pairLag (s : State) : Nat := pairTickOf s - s.pair.applied - 1

def lagOk (s : State) : Bool := decide (pairLag s ≤ prmN s .pairMaxLag)

/-- Leave work that only the replica's owner has: the edges' items, runs, deltas kept. -/
def dropWork (s : State) : State :=
  { s with
    flow := { s.flow with
      edges := s.flow.edges.map (fun e => (e.1, { e.2 with items := [], reserved := 0 })), cores := [], ready := [], lockWait := []
      downQ := [], encHold := [], closeDue := [], closeWaits := false, fence := false, closing := false }
    quar := [], alarms := []
    pair := { s.pair with deltas := [] } }

/-- RESYNC: the engine takes a full copy (R401). -/
def enterResync (s : State) : State :=
  setPair (dropWork (roleTo s .resync)) (fun q => { q with
    resyncFrom := none, resyncChunks := 0, inSync := false, swapPhase := .none, swapping := false })

/-! ### Demotion (R404) -/

/-- Frames that wait on a PLC port complete with FLUSHED. -/
def flushPlc (s : State) (lp : Nat) : State :=
  let x := plcPortOf s lp
  let s1 := x.down.foldl (fun s d => match d.kind with
    | .data m => if d.dst = bcastAddr then s else completeDown s m .flushed
    | .toneMap _ => s) s
  plcSet s1 lp { x with down := [], beacon := none, beaconOut := none, slot := none }

/-- Frames that wait on an RF port complete with FLUSHED, and its slots stop. -/
def flushRf (s : State) (n : Nat) : State :=
  let x := rfPortOf s n
  let s1 := x.down.foldl (fun s d => match d.kind with | .data => completeDown s d.mcx .flushed | _ => s) s
  rfSet s1 n { x with down := [], slot := .idle, enabled := false }

/-- What waits for credit of a cell completes with FLUSHED; what the cell holds is left to it (R111, R122). -/
def flushCell (s : State) (c : Nat) : State :=
  let x := cellOf s c
  let s1 := x.waiting.foldl (fun s k => match k with | .frame _ m => completeDown s m .flushed | _ => s) s
  cellSet s1 c { x with waiting := [] }

/-- Every queued egress item completes with FLUSHED. -/
def flushEgress (s : State) : State :=
  let s1 := (s.plc.ports.map Prod.fst).foldl flushPlc s
  let s2 := (s1.rf.ports.map Prod.fst).foldl flushRf s1
  let s3 := (s2.cell.cells.map Prod.fst).foldl flushCell s2
  let s4 := s3.flow.encHold.foldl (fun s e => if e.2.group.isSome then s else completeDown s e.2.mcx .flushed) s3
  { s4 with flow := { s4.flow with encHold := [] } }

/-- Demotion: admission and egress stop, the head ends' sessions end, ROLE falls. -/
def demotePair (s : State) (dest : PairRole) : State :=
  let s1 := flushEgress s
  let s2 := (s1.mb.tls.map Prod.fst).foldl tlsClose s1
  setPair (roleTo s2 dest) (fun q => { q with
    verifyUntil := none, verified := [], swapPhase := .none, swapping := false, pinActiveRun := 0 })

/-! ### Promotion (R405) -/

def jump : Nat := 1048576

/-- Every meter's DOWN_IC jumps, and its session reads not VALID. -/
def jumpMeter (by_ : Nat) (e : Mct) : Mct :=
  { e with downIc := e.downIc + by_, session := none }

/-- The transmit counters of every port and key jump (R87). -/
def jumpRfTx (t : Tbl Nat) (by_ : Nat) : Tbl Nat := [0, 1, 2, 3, 4, 5, 6, 7].foldl (fun t k => t.set k (t.getD k 0 + by_)) t

/-- Every downlink counter of the contexts, the RF ports and the broadcast keys jumps by so much. -/
def jumpCounters (s : State) (by_ : Nat) : State :=
  (s.p.mct.map Prod.fst).foldl counterCheck { s with
    p := { s.p with
      mct := s.p.mct.map (fun e => (e.1, jumpMeter by_ e.2))
      rfTx := jumpRfTx s.p.rfTx by_
      bic := s.p.bic.map (fun e => (e.1, e.2 + by_)) }
    ctx := { s.ctx with sess := [] } }

/-- KCL of an admitted cell after a promotion: its SEQ jumps, and a CELL_HELLO with RESYNC goes out. -/
def resumeCell (s : State) (c : Nat) : State :=
  let x := cellOf s c
  kclResync (cellSet s c { x with
    state := if x.state = .released then .admitted else x.state, downSeq := x.downSeq + jump, lastMsgMc := s.time.mc
    upRecv := x.upRecv.map (fun d => (d.1, s.vault.tick)) }) c

/-- A running RF port goes on at the replicated ASN. -/
def resumeRf (s : State) (n : Nat) : State :=
  match s.p.rfOrigin.get? n with
  | some o =>
    if prm s .rfMode n ≠ 0 && domainOn s pdRf then
      let ts := max 1 (rfTsNs s n)
      let gone := (pairTickOf s - o) * 10000000 + (etNs s - s.time.tickStartEt)
      let k := (gone + ts - 1) / ts
      let x := rfPortOf s n
      rfSet s n { x with
        enabled := true, started := decide (0 < k), asn := (k - 1) % 2 ^ 40, slotNextEt := etNs s + (k * ts - gone)
        slotEt := etNs s, hop := (s.p.rfHop.get? n).getD x.hop, iqState := if s.boot.iqclk.getLsbD n then 2 else 0
        anchorEt64 := etNs s, anchorMc := s.time.mc, sampleCnt := 0 }
    else s
  | none => s

/-- The channels' next beacons, from the replicated state. -/
def resumeBeacons (s : State) : State :=
  (List.range 16).foldl (fun s ch =>
    let lp := plcLp ch
    if coord s lp then
      let s1 := buildBeacon s lp (nextSuperframeEt s lp)
      plcSet s1 lp { plcPortOf s1 lp with sfNum := pairTickOf s / max 1 (prmN s .plcSfTicks lp) }
    else s) s

/-- The service addresses are announced with unsolicited Neighbour Advertisements. -/
def announce (s : State) : State :=
  let s1 := if 0 ≤ prm s .pairServiceAddr 0 then ethTx s 0 false else s
  let s2 := if 0 ≤ prm s .pairServiceAddr 1 then ethTx s1 1 false else s1
  if 0 ≤ prm s .kclEngineAddr then ethTx s2 3 false else s2

/-- LOCAL_LOSS_WINDOW (R148): the Ticks whose local admissions may be lost. -/
def localLoss (s : State) (first last : Nat) : Emit := alarmNow s Config.keyNone evLocalLoss [(first, 8), (last, 8)]

/-- Links that work now, as a later check of a swap takes them: (0, port) and (1, cell). -/
def workingLinks (s : State) : List (Nat × Nat) :=
  (s.plc.ports.filter (fun e => coord s e.1 && !e.2.impaired && decide (0 < e.2.verified))).map (fun e => (0, e.1)) ++
  (s.cell.cells.filter (fun e => e.2.state = .up)).map (fun e => (1, e.1))

def etSec (s : State) : Nat := etNs s / nsPerS

/-- When the next planned swap falls due, from now. -/
def nextSwap (s : State) : Nat := if prmN s .pairSwapPeriod = 0 then 0 else etSec s + prmN s .pairSwapPeriod * 86400

/-- Promotion. `planned`: at the end of a planned swap. -/
def promotePair (s : State) (planned : Bool) : State :=
  let first := s.pair.applied - 1
  let fromReplica := decide (s.pair.role ≠ .starting)
  let links := if planned then workingLinks s else []
  let s1 := setPair (roleTo s .active) (fun q => { q with
    heardInEpoch := false, swapPhase := .none, swapping := false, inSync := false, deltas := []
    downHoldTick := some s.vault.tick, nextSwapSec := nextSwap s, pinActiveRun := 0
    swaps := if planned then q.swaps + 1 else q.swaps
    takeovers := if planned then q.takeovers else q.takeovers + 1
    verifyUntil := if planned then some (s.time.mc + prmN s .pairSwapVerify * nsPerS) else none
    verified := links })
  let s2 := jumpCounters { s1 with p := { s1.p with roleEpoch := s1.p.roleEpoch + 1 } } jump
  let s3 := (s2.p.cells.map Prod.fst).foldl resumeCell s2
  let s4 := resumeBeacons (announce ([0, 1, 2, 3].foldl resumeRf s3))
  if fromReplica then emit1 s4 (localLoss s4 first (pairTickOf s4)) else s4

/-! ### The replica (R398 to R401) -/

/-- Parameters in force after a delta: the ACTIVE's replicated ones, the engine's own others. -/
def mergeParams (own peer : List (ParamId × PVal)) : List (ParamId × PVal) :=
  own.filter (fun e => !pReplicated e.1.key) ++ peer.filter (fun e => pReplicated e.1.key)

/-- A port's shared side. -/
def mergePlc (own peer : PlcPort) : PlcPort :=
  { own with
    sfNum := peer.sfNum, members := peer.members, grants := peer.grants, hops := peer.hops, nextSeq := peer.nextSeq
    failRun := peer.failRun, roboRun := peer.roboRun, impaired := peer.impaired, verified := peer.verified }

def mergeRf (own peer : RfPort) : RfPort :=
  { own with hop := peer.hop, hopNext := peer.hopNext, cells := peer.cells, sixtop := peer.sixtop, nextSeq := peer.nextSeq, joined := peer.joined }

/-- What the ACTIVE's delta or copy says of the links. -/
def takeLinks (s : State) (l : LinkImage) : State :=
  let s1 := l.plc.foldl (fun s e => plcSet s e.1 (mergePlc (plcPortOf s e.1) e.2)) s
  let s2 := l.rf.ports.foldl (fun s e => rfSet s e.1 (mergeRf (rfPortOf s e.1) e.2)) s1
  { s2 with
    rf := { s2.rf with
      resyncMiss := l.rf.resyncMiss, removals := l.rf.removals, readd := l.rf.readd, unadmitted := l.rf.unadmitted }
    cell := { s2.cell with cells := l.cells } }

/-- The after-images of a delta: everything but the billing registers, the balance state and what each engine keeps for itself. -/
def takeImage (own peer : Persist) : Persist :=
  { peer with
    params := mergeParams own.params peer.params, peerLinkEpoch := own.peerLinkEpoch, graph := own.graph
    bill := { peer.bill with brt := own.bill.brt, profile := own.bill.profile }, bal := own.bal }

/-- One input of billing, computed on the replica. -/
def billInput (s : State) : BillIn → State
  | .ival r => accumRec (billRec (demandRec s r) r).1 r
  | .close m t forced => (closeAt s m t forced).1
  | .resetMd m rate =>
    let b := brtOf s m
    brtSet s m { b with md := setAt b.md (rate - 1) {} }

/-- The entries changed and the balance records written in the Tick, in the order of R408. -/
def digestOf (s : State) : Nat :=
  let brts := (s.p.bill.brt.filter (fun e => s.bill.touched.contains e.1)).map (fun e => bodyBytes (brtBody e.1 e.2 false))
  let ord := fun (r : BRec) => (r.node * 2 ^ 80 + r.endNs) * 2 ^ 16 + r.revision
  let recs := s.bal.written.mergeSort (fun a b => decide (ord a ≤ ord b))
  Config.digest (brts.flatten ++ (recs.map (fun r => bodyBytes (balBody r))).flatten)

/-- Comparison is suspended while the two MANIFEST values differ. -/
def manifestsAgree (s : State) : Bool := decide (s.vault.counters.getD 9 0 % 2 ^ 32 = s.pair.peerManifest)

/-- A failed comparison (R408). -/
def digestFails (s : State) (tick own peer : Nat) : State :=
  let s1 := setPair s (fun q => { q with digestMismatch := true, mismatches := q.mismatches + 1, lastMismatch := tick % 2 ^ 32 })
  let s2 := emitAll { s1 with freeCtr := s1.freeCtr + 1 }
    [.event .digestMismatch 0 mb01 [(tick, 8), (own, 16), (peer, 16)],
     .trouble ⟨0x10, 0, locOpen, accByte 0xF 3 false, .digestMismatch, 32 :: Config.freeValue s.freeCtr % 256 :: keyFail.bytesLE tick 4⟩]
  pairIrq s2 11

/-- DIGEST_COMPARE on the STANDBY. -/
def digestCompare (s : State) (tick own peer : Nat) : State :=
  if !manifestsAgree s then setPair s (fun q => { q with digestValid := false, digestMatch := false })
  else
    let s1 := setPair s (fun q => { q with digestValid := true, digestMatch := decide (own = peer) })
    if own = peer then s1 else digestFails s1 tick own peer

/-- The billing class is computed on the inputs of a delta; what the computation would store or report comes with the delta. -/
def shadowTick (d : Delta) (s : State) : State :=
  let s1 := d.bill.foldl billInput s
  let s2 := d.measures.foldl (fun s e => accumMeas s e.1 e.2) s1
  let s3 := match d.taps with | some t => balTaps s2 t.1 t.2.1 t.2.2 | none => s2
  balAdjust s3

/-- A delta is applied. -/
def applyDelta (s : State) (d : Delta) : State :=
  let s1 := takeLinks { s with p := takeImage s.p d.img } d.links
  let s2 := shadowed (shadowTick d) s1
  let s3 := d.recs.foldl appendRec s2
  let own := digestOf s3
  let s4 := { s3 with bill := { s3.bill with touched := [] }, bal := { s3.bal with written := [] } }
  let s5 := setPair s4 (fun q => { q with
    applied := d.pairTick, peerHealth := d.health
    swapPhase := if d.isFinal && q.swapPhase = .acked then .finalApplied else q.swapPhase })
  digestCompare s5 d.pairTick own d.digest

/-- IN_SYNC as the lag now stands; a RESYNC whose copy is complete ends with it. -/
def syncRefresh (s : State) : State :=
  match s.pair.role with
  | .standby => setPair s (fun q => { q with inSync := lagOk s })
  | .resync =>
    if s.pair.resyncFrom.isSome && lagOk s then setPair (roleTo s .standby) (fun q => { q with inSync := true }) else s
  | _ => s

/-- A copy is complete: journal, series and image-set records are the ACTIVE's. -/
def takeCopy (s : State) : Resync → State
  | .all t img links recs r0 r1 =>
    let p := { takeImage s.p img with graph := img.graph, bill := img.bill, bal := img.bal }
    let s1 := takeLinks { s with p := p, upd := { s.upd with rec0 := r0, rec1 := r1 } } links
    let x := { s1.store with staging := [], stream := [], unfolded := [], series := [], holding := [] }
    let s2 := recs.foldl appendRec { s1 with store := x }
    setPair { s2 with flow := { s2.flow with edges := [], nodes := [], next := none, old := none } } (fun q => { q with
      resyncFrom := some t, applied := t - 1 })
  | .classB brt bal =>
    { s with p := { s.p with bill := { s.p.bill with brt := brt }, bal := bal } }

/-! ### HEALTH (R410) -/

def pairHealth (s : State) : BitVec 32 :=
  let sync := if s.pair.role = .active then s.pair.peerInSync else s.pair.inSync
  let bits := [s.pair.withdrawn.isEmpty, s.pair.scrubOk, s.pair.digestValid, s.pair.digestMatch, sync, decide (s.flow.overrunRun = 0),
    decide (s.store.state = .normal), decide (s.recd.state = .running), !s.time.unsynced]
  let flags := bits.foldr (fun b n => b2n b + 2 * n) 0
  let lag := if s.pair.role = .standby then pairLag s else 0
  BitVec.ofNat 32 (flags + min s.pair.scrubCorr 255 * 2 ^ 16 + min lag 255 * 2 ^ 24)

/-! ### The verification of a swap (R413) -/

/-- Links watched that no longer work. -/
def failedLinks (s : State) : List (Nat × Nat) :=
  s.pair.verified.filter (fun e => if e.1 = 0 then (plcPortOf s e.2).impaired else (cellOf s e.2).state = .silent)

/-- The link of a watched entry. -/
def watchedLink (e : Nat × Nat) : Nat := if e.1 = 0 then (linkOfLp e.2).1 else e.2

/-- SWAP_REVERT: a watched link fails, and the roles are swapped back at the next boundary. -/
def swapCheck (s : State) : State :=
  match s.pair.verifyUntil, failedLinks s with
  | some _, e :: l =>
    let s1 := setPair s (fun q => { q with
      verifyUntil := none, verified := [], swapReverted := true, swapSuspended := true, swapPhase := .requested })
    pairIrq (emit1 s1 (alarmNow s1 (keyLink (watchedLink e)) evSwapReverted (l.map (fun f => (watchedLink f, 2))))) 13
  | _, _ => s

end Sys2Proof.Machine
end

