-- ==== Sys2Proof/Machine/Pairing.lean ====
section
/-! DEFINITION. The pair's events and commands (R391 to R415, R456, R488). -/

namespace Sys2Proof.Machine
open Sys2Proof

/-! ### The peer link (R394, R395) -/

/-- The pair key may serve: DERIVE, by the Warden. -/
def peerKeyOk (s : State) : Bool := (keyJudge s (BitVec.ofNat 32 (prmN s .pairKey)) ⟨0, false, 6, [2], 0⟩).isNone

/-- The link runs: PAIR mode, full power, a usable key. -/
def peerOn (s : State) : Bool := running s && s.pair.modePair && peerKeyOk s

/-- Header and window accept a peer frame (R107): a higher EPOCH in a HEARTBEAT only. -/
def peerWindowOk (q : PairSt) (h : KclHdr) (first : Bool) : Bool :=
  if !h.fieldsOk || !h.srcOk || !h.tagOk then false
  else if !q.rxSeen || decide (q.rxEpoch < h.epoch.toNat) then first
  else if decide (h.epoch.toNat < q.rxEpoch) then false
  else if decide (q.rxSeq < h.seq.toNat) then true
  else decide (q.rxSeq - h.seq.toNat < 256) && !q.rxWindow.getLsbD (q.rxSeq - h.seq.toNat)

def peerRecord (q : PairSt) (h : KclHdr) : PairSt :=
  let n := h.seq.toNat
  if !q.rxSeen || decide (q.rxEpoch < h.epoch.toNat) then { q with rxSeen := true, rxEpoch := h.epoch.toNat, rxSeq := n, rxWindow := 1 }
  else if q.rxSeq < n then { q with rxSeq := n, rxWindow := (q.rxWindow <<< (n - q.rxSeq)) ||| 1 }
  else { q with rxWindow := q.rxWindow ||| BitVec.ofNat 256 (2 ^ (q.rxSeq - n)) }

/-- A frame of EtherType 0x88B5 arrives on ETH_C. -/
def peerRx (h : KclHdr) (first : Bool) (f : State → State) (s : State) : State :=
  if !peerOn s then s
  else
    let s1 := ethRx s 2 false
    if peerWindowOk s1.pair h first then f (setPair s1 (fun q => peerRecord q h)) else s1

/-- A peer frame leaves: the next SEQ, or the next EPOCH when SEQ would wrap. -/
def peerTx (s : State) : State :=
  let s1 := ethTx s 2 false
  if s1.pair.txSeq + 1 < 2 ^ 32 then setPair s1 (fun q => { q with txSeq := q.txSeq + 1 })
  else setPair { s1 with p := { s1.p with peerLinkEpoch := s1.p.peerLinkEpoch + 1 } } (fun q => { q with txSeq := 0 })

/-- The HEARTBEAT body as it would now be sent. -/
def heartbeatOf (s : State) : Heartbeat :=
  { role := pairRoleCode s.pair.role, inSync := s.pair.inSync, pinSeen := s.pair.pinRole.isSome && !s.pair.pinSilent
    mismatch := s.pair.digestMismatch, swapReq := decide (s.pair.swapPhase = .requested), swapAck := decide (s.pair.swapPhase = .acked)
    finalApplied := decide (s.pair.swapPhase = .finalApplied), roleEpoch := s.p.roleEpoch, pairTick := pairTickOf s
    deltaAck := if s.pair.role = .standby then s.pair.applied else 0, health := s.pair.health
    manifest := s.vault.counters.getD 9 0 % 2 ^ 32 }

/-- HEARTBEAT_SEND. -/
def execHeartbeatSend (s : State) : Host.Outcome State Fault Refusal :=
  finish s (if peerOn s then setPair (peerTx s) (fun q => { q with hbSent := q.hbSent + 1, hbOut := some (heartbeatOf s) }) else s)

/-! ### HEARTBEAT_RX (R392, R395, R402, R403, R412) -/

/-- What a HEARTBEAT tells. -/
def hbNote (b : Heartbeat) (role : PairRole) (s : State) : State :=
  setPair s (fun q => { q with
    peerRole := some role, peerEpoch := b.roleEpoch, peerTick := b.pairTick, peerAck := b.deltaAck, peerHealth := b.health
    peerManifest := b.manifest, peerInSync := b.inSync, peerPinSeen := b.pinSeen, peerSwapReq := b.swapReq, peerSwapAck := b.swapAck
    peerMismatch := b.mismatch
    hbMissed := if q.hbLastMc = 0 then q.hbMissed else q.hbMissed + ((s.time.mc - q.hbLastMc + 500000) / 1000000 - 1)
    hbLastMc := s.time.mc, hbEver := true, hbSilent := false, heardInEpoch := true
    deltas := q.deltas.filter (fun d => decide (b.deltaAck < d.1)) })

/-- The STANDBY's mismatch shows at the ACTIVE: it knows neither the pair Tick nor the digests compared. -/
def peerMismatches (s : State) : State :=
  let v := Config.freeValue
  let n := s.freeCtr
  digestFails { s with freeCtr := n + 3 } (v n % 2 ^ 64) (v (n + 1) % 2 ^ 128) (v (n + 2) % 2 ^ 128)

/-- Δ follows the ACTIVE's numbering (R402). -/
def followTick (b : Heartbeat) (s : State) : State :=
  setPair s (fun q => { q with delta := (b.pairTick : Int) - s.vault.tick })

/-- STARTING hears a peer in STARTING or HELD: the higher pair Tick number promotes at full service, the other takes a copy. -/
def startingMeets (b : Heartbeat) (s : State) : State :=
  let own := pairTickOf s
  if b.pairTick < own || (own = b.pairTick && lowerId s) then
    if s.boot.stage = 6 then promotePair s false else s
  else enterResync s

/-- What the peer's role does to the own one. -/
def hbRole (b : Heartbeat) (role : PairRole) (s : State) : State :=
  match s.pair.role with
  | .starting =>
    if role = .active then followTick b (enterResync s)
    else if role = .starting || role = .held then startingMeets b s
    else s
  | .held => if role = .active then followTick b (enterResync s) else s
  | .active =>
    if role = .active && (decide (s.p.roleEpoch < b.roleEpoch) || (s.p.roleEpoch = b.roleEpoch && !lowerId s)) then
      followTick b (enterResync (demotePair s .resync))
    else s
  | .resync => if role = .active then syncRefresh (followTick b s) else s
  | .standby =>
    if role = .active then
      let s1 := syncRefresh (followTick b s)
      if b.swapReq && s1.pair.swapPhase = .none then setPair s1 (fun q => { q with swapPhase := .acked })
      else if !b.swapReq && s1.pair.swapPhase = .acked then setPair s1 (fun q => { q with swapPhase := .none })
      else s1
    else if role = .standby && s.pair.swapPhase = .finalApplied then promotePair s true
    else s
  | .single => s

def heartbeatRx (b : Heartbeat) (s : State) : State :=
  match pairRoleOf b.role with
  | none => s
  | some role =>
    let news := b.mismatch && !s.pair.peerMismatch && s.pair.role = .active
    let s1 := hbNote b role s
    hbRole b role (if news then peerMismatches s1 else s1)

/-- HEARTBEAT_RX. -/
def execHeartbeatRx (h : KclHdr) (b : Heartbeat) (s : State) : Host.Outcome State Fault Refusal :=
  finish s (peerRx h true (heartbeatRx b) s)

/-! ### The pins (R396, R403) -/

/-- The high times that a period may show. -/
def pinShows (lenNs highNs : Nat) : Option PairRole :=
  let near := fun (a b : Nat) => decide (a ≤ b + 50000) && decide (b ≤ a + 50000)
  if !near lenNs 1000000 then none
  else if near highNs 250000 then some .standby
  else if near highNs 500000 then some .held
  else if near highNs 750000 then some .active
  else none

def hbInPeriod (lenNs highNs : Nat) (s : State) : State :=
  match pinShows lenNs highNs with
  | none => setPair s (fun q => { q with pinInvalid := q.pinInvalid + 1 })
  | some role =>
    let s1 := setPair s (fun q => { q with
      pinLastMc := s.time.mc, pinEver := true, pinSilent := false, pinRole := some role, heardInEpoch := true
      pinActiveRun := if role = .active then q.pinActiveRun + 1 else 0 })
    if s1.pair.role = .active && decide (3 ≤ s1.pair.pinActiveRun) && decide (5 * msNs ≤ s1.time.mc - s1.pair.hbLastMc) && lowerId s1 then
      demotePair s1 .held
    else if s1.pair.role = .standby && s1.pair.swapPhase = .finalApplied && role = .standby then promotePair s1 true
    else s1

/-- HB_IN_PERIOD: ignored in SINGLE mode. -/
def execHbInPeriod (lenNs highNs : Nat) (s : State) : Host.Outcome State Fault Refusal :=
  finish s (if running s && s.pair.modePair then hbInPeriod lenNs highNs s else s)

/-! ### Silence and takeover (R397, R403) -/

/-- One path is silent for 5 ms. -/
def pathSilence (pin : Bool) (s : State) : State :=
  let q := s.pair
  let since := s.time.mc - (if pin then q.pinLastMc else q.hbLastMc)
  if (if pin then q.pinSilent else q.hbSilent) || decide (since < 5 * msNs) then s
  else
    let s1 := setPair s (fun q => { q with
      peerLost := true, pinLost := q.pinLost || pin, linkLost := q.linkLost || !pin
      pinSilent := q.pinSilent || pin, hbSilent := q.hbSilent || !pin })
    let s2 := emit1 s1 (.event .peerLost 0 mb01 [(b2n pin, 1), (0, 3)])
    pairIrq (pairIrq s2 8) (if pin then 10 else 9)

/-- PATH_SILENCE. -/
def execPathSilence (pin : Bool) (s : State) : Host.Outcome State Fault Refusal :=
  finish s (if running s && s.pair.modePair then pathSilence pin s else s)

/-- PROMOTE_TIMEOUT. -/
def execPromoteTimeout (s : State) : Host.Outcome State Fault Refusal :=
  finish s (if running s && standby s && bothSilent s 30 then
    (if s.pair.inSync then promotePair s false else roleTo s .held) else s)

/-- DEMOTE_TIMEOUT. -/
def execDemoteTimeout (s : State) : Host.Outcome State Fault Refusal :=
  finish s (if running s && s.pair.modePair && decide (s.pair.role = .active) && s.pair.heardInEpoch && bothSilent s 40 then
    demotePair s .held else s)

/-- BOOT_WAIT_EXPIRY (R392). -/
def execBootWaitExpiry (s : State) : Host.Outcome State Fault Refusal :=
  finish s (if running s && s.pair.modePair && decide (s.pair.role = .starting) && decide (s.boot.stage = 6) && !s.err.safeHold &&
      s.pair.peerRole.isNone && decide (prmN s .pairBootWait * msNs ≤ s.time.mc - s.boot.serviceMc) then
    (if prm s .pairBootSolo = 1 then promotePair s false else roleTo s .held) else s)

/-! ### Deltas and copies (R399 to R401, R408) -/

/-- DELTA_RX: in order, or the replica has a gap and is copied anew. -/
def deltaRx (d : Delta) (s : State) : State :=
  let copied := s.pair.role = .standby || (s.pair.role = .resync && s.pair.resyncFrom.isSome)
  if !copied || d.pairTick ≤ s.pair.applied then s
  else if d.pairTick = s.pair.applied + 1 then syncRefresh (applyDelta s d)
  else enterResync s

def execDeltaRx (h : KclHdr) (d : Delta) (s : State) : Host.Outcome State Fault Refusal := finish s (peerRx h false (deltaRx d) s)

/-- RESYNC_CHUNK_RX: one chunk more, or the last of a copy. -/
def resyncChunkRx (done : Option Resync) (s : State) : State :=
  match done with
  | none => if s.pair.role = .resync then setPair s (fun q => { q with resyncChunks := q.resyncChunks + 1 }) else s
  | some (.all t img links recs r0 r1) =>
    if s.pair.role = .resync then
      syncRefresh (setPair (takeCopy s (.all t img links recs r0 r1)) (fun q => { q with resyncChunks := q.resyncChunks + 1 }))
    else s
  | some (.classB brt bal) => if s.pair.role = .standby then takeCopy s (.classB brt bal) else s

def execResyncChunkRx (h : KclHdr) (done : Option Resync) (s : State) : Host.Outcome State Fault Refusal :=
  finish s (peerRx h false (resyncChunkRx done) s)

/-- The request as whose checks a forwarded package is judged: the peer's. -/
def peerReq : Req := { mb := 4, tag := 0 }

/-- A forwarded package, checked under the engine's own rules and put in force like a loaded one, without an answer. -/
def peerImageRx (img : PeerImage) (s : State) : State :=
  if !(standby s || decide (s.pair.role = .resync)) then s
  else match img with
    | .campaign k hash len => { s with p := { s.p with campImg := s.p.campImg.set k.val (hash, len) } }
    | .graph g => match graphFail s peerReq g with
      | (s1, some _) => s1
      | (s1, none) => { s1 with flow := { s1.flow with next := some ⟨g, s1.vault.tick⟩ } }
    | .rules p => match rulesFail s peerReq p with
      | (s1, some _) => s1
      | (s1, none) => rulesTake s1 p
    | .calendar p => match calFail s peerReq p with
      | (s1, some _) => s1
      | (s1, none) => (calInstall s1 p).1
    | .topology p => (topologyLoad peerReq (.got p) s).s
    | .access p => (accessTableLoad peerReq (.got p) s).s

def execPeerImageRx (h : KclHdr) (img : PeerImage) (s : State) : Host.Outcome State Fault Refusal :=
  finish s (peerRx h false (peerImageRx img) s)

/-- PEER_GMI_RX: a GMI message of MB4 (R456). -/
def execPeerGmiRx (h : KclHdr) (tag : Word16) (ndesc : Nat) (note : ReadyNote) (s : State) : Host.Outcome State Fault Refusal :=
  finish s (peerRx h false (fun s => noteEff (arrive s 4 0 tag ndesc) 4 note) s)

/-! ### Planned swaps (R411 to R413) -/

def tickNs : Nat := 10000000

/-- No boundary or activation of a calendar lies within 2 Ticks. -/
def calendarQuiet (s : State) : Bool :=
  let near := fun (t : Nat) => decide (t ≤ etNs s + 2 * tickNs) && decide (etNs s ≤ t + 2 * tickNs)
  s.p.bill.cals.all (fun c =>
    !near c.2.last &&
    (match c.2.active with
     | some a => (match nextBoundary s a.body c.2.last with | some t => !near t | none => true)
     | none => true) &&
    (match c.2.passive with | some a => !a.due && !near a.at_ | none => true))

/-- A quiet Tick (R411). -/
def quietTick (s : State) : Bool :=
  s.pair.peerInSync && decide (s.pair.deltas.length ≤ 1) && decide (s.flow.overrunRun = 0) && !s.flow.overrun &&
  decide (s.flow.prevBusyNs * 100 < prmN s .pairSwapMaxBusy * 640000000) && calendarQuiet s &&
  decide (s.upd.phase ≠ .activating) && !s.pair.digestMismatch

/-- The engine may swap. -/
def swapMay (s : State) : Bool := running s && s.pair.modePair && decide (s.pair.role = .active)

/-- SWAP_DUE: a swap falls due and a quiet Tick is sought; past its window it is deferred by 24 hours. -/
def swapDue (s : State) : State :=
  match s.pair.swapPhase with
  | .none =>
    if !s.pair.swapSuspended && decide (s.pair.nextSwapSec ≠ 0) && decide (s.pair.nextSwapSec ≤ etSec s) then
      setPair s (fun q => { q with swapPhase := .seeking (q.nextSwapSec + prmN s .pairSwapWindow * 3600) })
    else s
  | .seeking until_ =>
    if until_ ≤ etSec s then
      let s1 := setPair s (fun q => { q with swapPhase := .none, nextSwapSec := q.nextSwapSec + 86400 })
      emit1 s1 (alarmNow s1 Config.keyNone evSwapDeferred [])
    else s
  | _ => s

def execSwapDue (s : State) : Host.Outcome State Fault Refusal := finish s (if swapMay s then swapDue s else s)

/-- The ACTIVE hands over: its final delta is sent, and it becomes STANDBY with no resync. -/
def handOver (s : State) : State :=
  let s1 := dropWork (demotePair s .standby)
  setPair s1 (fun q => { q with applied := pairTickOf s1 - 1, inSync := true, nextSwapSec := 0 })

/-- SWAP_BOUNDARY: in a quiet Tick SWAP_REQ is set; once the STANDBY has answered it and the closing work is done, the swap runs. -/
def swapBoundary (s : State) : State :=
  match s.pair.swapPhase with
  | .seeking until_ =>
    if decide (etSec s < until_) && quietTick s then setPair s (fun q => { q with swapPhase := .requested }) else s
  | .requested => if s.pair.peerSwapAck && s.flow.closeDue.isEmpty && s.pair.swapping then handOver s else s
  | _ => s

def execSwapBoundary (s : State) : Host.Outcome State Fault Refusal := finish s (if swapMay s then swapBoundary s else s)

/-- SWAP_VERIFY_END: a last check, and the watch is over. -/
def swapVerifyEnd (s : State) : State :=
  match s.pair.verifyUntil with
  | some t =>
    if s.time.mc < t then s
    else
      let s1 := swapCheck s
      setPair s1 (fun q => { q with verifyUntil := none, verified := [] })
  | none => s

def execSwapVerifyEnd (s : State) : Host.Outcome State Fault Refusal := finish s (if swapMay s then swapVerifyEnd s else s)

/-- BEACON_VERIFY (R71), watched after a swap. -/
def execBeaconVerify (ch : Fin 16) (ok : Bool) (snr : Int) (s : State) : Host.Outcome State Fault Refusal :=
  finish s (if running s then swapCheck (beaconVerifyEff ch ok snr s) else s)

/-- CREDIT_RX (R112, R115), watched after a swap. -/
def execCreditRx (c : Fin 1024) (h : KclHdr) (b : CreditBody) (s : State) : Host.Outcome State Fault Refusal :=
  finish s (if running s then swapCheck (creditRxEff c h b s) else s)

/-- CELL_SILENCE (R109), watched after a swap. -/
def execCellSilence (c : Fin 1024) (s : State) : Host.Outcome State Fault Refusal :=
  finish s (if running s then swapCheck (cellSilenceEff c s) else s)

/-! ### Self-tests (R409) -/

/-- KAT_RUN: a unit that fails is withdrawn until reset. -/
def katRun (unit : Nat) (pass : Bool) (s : State) : State :=
  if s.pair.withdrawn.contains unit then s
  else
    let s1 := setPair s (fun q => { q with katRuns := q.katRuns + 1 })
    if pass then s1
    else
      let s2 := setPair { s1 with freeCtr := s1.freeCtr + 1 } (fun q => { q with withdrawn := q.withdrawn ++ [unit] })
      emit1 s2 (.trouble ⟨0x10, 0, locOpen, accByte 0xF 3 false, .aborted,
        unit :: Config.freeValue s1.freeCtr % 256 :: keyFail.bytesLE (pairTickOf s1) 4⟩)

def execKatRun (unit : Fin 20) (pass : Bool) (s : State) : Host.Outcome State Fault Refusal :=
  finish s (if running s then katRun unit.val pass s else s)

/-- SCRUB_PASS: errors corrected are counted, a location lost is withdrawn. -/
def scrubPass (corr : Nat) (lost : List Nat) (s : State) : State :=
  let s1 := setPair s (fun q => { q with
    scrubOk := lost.isEmpty, scrubCorr := q.scrubCorr + corr, scrubTotal := q.scrubTotal + corr, scrubLost := q.scrubLost ++ lost })
  lost.foldl (fun s loc =>
    emit1 { s with freeCtr := s.freeCtr + 1 } (.trouble ⟨5, 0, loc, accByte 0xF 3 false, .mediaError,
      keyFail.bytesLE (Config.freeValue s.freeCtr % 2 ^ 32) 4 ++ [1]⟩)) s1

def execScrubPass (corr : Nat) (lost : List Nat) (s : State) : Host.Outcome State Fault Refusal :=
  finish s (if running s then scrubPass corr lost s else s)

/-! ### The pairing registers -/

def pairStatusReg (s : State) : Nat :=
  let q := s.pair
  let bit := fun (b : Bool) (i : Nat) => b2n b * 2 ^ i
  pairRoleCode q.role + bit q.inSync 4 + bit q.rolePin 5 + bit q.peerLost 8 + bit q.linkLost 9 + bit q.pinLost 10 +
  bit q.digestMismatch 11 + bit q.takeover 12 + bit q.swapReverted 13 +
  (match q.peerRole with | some r => pairRoleCode r | none => 0xFF) * 2 ^ 32

/-- PAIR_LAG: the STANDBY's lag, the ACTIVE's unacknowledged deltas. -/
def pairLagReg (s : State) : Nat :=
  (if s.pair.role = .active then s.pair.deltas.length else if s.pair.role = .standby then pairLag s else 0) % 2 ^ 32

def pairSilenceReg (s : State) : Nat :=
  let q := s.pair
  (if q.hbEver then min (sinceMs s q.hbLastMc) 65535 else Config.silenceUnheard false s.time.mc % 65536) +
  (if q.pinEver then min (sinceMs s q.pinLastMc) 65535 else Config.silenceUnheard true s.time.mc % 65536) * 65536

/-- Registers 0x000 to 0x048 of the block at 0x00A0_0000. -/
def pairRegs (s : State) : List Nat :=
  let q := s.pair
  [pairStatusReg s, s.p.roleEpoch % 2 ^ 32, encS 8 q.delta, pairLagReg s, q.health.toNat + q.peerHealth.toNat * 2 ^ 32,
   q.mismatches % 2 ^ 32 + q.lastMismatch * 2 ^ 32, q.hbMissed % 2 ^ 32 + q.pinInvalid % 2 ^ 32 * 2 ^ 32,
   pairSilenceReg s, q.swaps % 2 ^ 32 + q.takeovers % 2 ^ 32 * 2 ^ 32, q.nextSwapSec % 2 ^ 48]

/-! ### Commands (R392, R406, R408, R411, R488) -/

def ciPairConfigure : CmdInfo := { code := 0x0D01, plain := 0x01, states := 0x06 }

def pairConfigure (op mode : Nat) (key : Word32) (peerId : BitVec 128) (s : State) : Reply :=
  if 1 < op then deny s .badParam
  else if op = 1 then
    if !s.pair.modePair || s.pair.role ≠ .active then deny s .notActive
    else ⟨setPair s (fun q => { q with resyncB := q.resyncB + 1, swapSuspended := false }), .ok, [], []⟩
  else if 1 < mode || (key ≠ 0 && hClass key ≠ 6) then deny s .badParam
  else
    let l : List (ParamId × PVal) :=
      [(⟨.pairMode, 0⟩, ⟨.token, mode⟩), (⟨.pairPeerId, 0⟩, ⟨.bytes, peerId.toNat⟩), (⟨.pairKey, 0⟩, ⟨.integer, key.toNat⟩)]
    match acceptParams s (graphBudget s) l with
    | some s1 => ⟨setPair s1 (fun q => { q with swapSuspended := false }), .ok, [], []⟩
    | none => deny s .badParam

/-- PAIR_CONFIGURE: SET, or RESYNC_B. -/
def execPairConfigure (r : Req) (op mode : BitVec 8) (key : Word32) (peerId : BitVec 128) (s : State) : Host.Outcome State Fault Refusal :=
  finish s (gmi ciPairConfigure r (pairConfigure op.toNat mode.toNat key peerId) s)

def ciPairStatus : CmdInfo := { code := 0x0D02, plain := 0x13 }

/-- PAIR_STATUS. -/
def execPairStatus (r : Req) (s : State) : Host.Outcome State Fault Refusal :=
  finish s (gmi ciPairStatus r (fun s => ⟨s, .ok, (pairRegs s).map (fun v => (v, 8)), []⟩) s)

def ciPairSwap : CmdInfo := { code := 0x0D03, plain := 0x01, states := 0x04 }

def pairSwap (s : State) : Reply :=
  if !s.pair.modePair || s.pair.swapSuspended then deny s .notPermitted
  else if s.pair.role ≠ .active then deny s .notActive
  else
    let now := etSec s
    let s1 := setPair s (fun q => { q with
      nextSwapSec := now
      swapPhase := match q.swapPhase with | .none => .seeking (now + prmN s .pairSwapWindow * 3600) | x => x })
    ⟨s1, .ok, [(now, 8)], []⟩

/-- PAIR_SWAP. -/
def execPairSwap (r : Req) (s : State) : Host.Outcome State Fault Refusal := finish s (gmi ciPairSwap r pairSwap s)

def ciPairForceRole : CmdInfo := { code := 0x0D04, plain := 0x01, states := 0x04 }

/-- The role set by force. -/
def forceTo (s : State) (dest : PairRole) : State :=
  if s.pair.role = dest then s
  else if dest = .active then promotePair s false
  else if dest = .held then (if s.pair.role = .active then demotePair s .held else roleTo s .held)
  else if s.pair.role = .active then enterResync (demotePair s .resync)
  else if s.pair.role = .resync then s
  else enterResync s

def pairForceRole (role flags : Nat) (s : State) : Reply :=
  if !s.pair.modePair then deny s .notPermitted
  else if 1 < flags then deny s .badParam
  else
    let ok := fun (dest : PairRole) =>
      let s1 := forceTo s dest
      (⟨s1, .ok, [(pairRoleCode s1.pair.role, 1), (0, 3)], []⟩ : Reply)
    match role with
    | 3 => ok .standby
    | 4 => if (s.pair.hbSilent && s.pair.pinSilent) || flags = 1 then ok .active else deny s .notPermitted
    | 5 => ok .held
    | _ => deny s .badParam

/-- PAIR_FORCE_ROLE. -/
def execPairForceRole (r : Req) (role flags : BitVec 8) (s : State) : Host.Outcome State Fault Refusal :=
  finish s (gmi ciPairForceRole r (pairForceRole role.toNat flags.toNat) s)

end Sys2Proof.Machine
end

