-- ==== Sys2Proof/Machine/Flags.lean ====
section
/-! DEFINITION. Status words: what the bits of the status registers show, and which interrupt conditions hold. -/

namespace Sys2Proof.Machine
open Sys2Proof

def bitAt (b : Bool) (i : Nat) : Nat := b2n b * 2 ^ i

/-- BOOT_STAGE (R497): safe hold shows 7 from the first stage at which mailboxes answer. -/
def bootStage (s : State) : Nat := if s.err.safeHold then 7 else s.boot.stage

/-- GCTL_STATUS (R497). -/
def gctlStatus (s : State) : Nat :=
  bootStage s + bitAt s.keys.ready 3 + lifeIdx s.vault.life * 2 ^ 4 + bitAt s.vault.tampered 7 + pairRoleCode s.pair.role * 2 ^ 8 +
  bitAt s.time.unsynced 11 + bitAt (s.p.graph.isSome && !s.err.safeHold) 12 + bitAt (activeB s.err) 13

/-- The reset-cause word (R464). -/
def causeWord (v : VaultSt) : Nat :=
  v.cause % 256 + min v.dfCount 255 * 2 ^ 8 + bitAt v.haltedA 16 + bitAt v.haltedB 17 + bitAt v.safeHoldBoot 18

/-- KS_STATUS. -/
def ksStatus (s : State) : Nat :=
  b2n s.vault.tampered + bitAt s.keys.ready 1 + bitAt s.keys.rewrap.isSome 2 + bitAt s.vault.taproot 3 + lifeIdx s.vault.life * 2 ^ 4

/-- D of R29: ET less the selected domain's time, in ns; 0 under NONE. -/
def dNs (s : State) : Int :=
  match selDom s with
  | some d => ((s.time.et : Int) - (domTime s.time d : Int)) / (unitsPerNs : Int)
  | none => 0

def sat31 (x : Int) : Int := max (-2147483647) (min 2147483647 x)

/-- TIME_STATE (R501). -/
def timeState (s : State) : Nat :=
  etStateCode s.time.etState + prmN s .tSelect * 2 ^ 2 + bitAt (decide (s.time.following = .b)) 4 +
  domStateCode s.time.ptpA.state * 2 ^ 8 + domStateCode s.time.ptpB.state * 2 ^ 12 + bitAt s.time.unsynced 16 +
  bitAt s.time.hostOwner 17 + bitAt (decide (2 ≤ (dNs s).natAbs) && s.time.slewEn) 18 + encS 4 (sat31 (dNs s)) * 2 ^ 32

/-- MB_STATUS. -/
def mbStatus (s : State) (m : Nat) : Nat :=
  let b := boxOf s.mb m
  let n := b.pend.length
  let on := if hostBox m then b.enable else !(sessionsOf s.mb m).isEmpty
  b2n on + bitAt (decide (ringFree b.rspHead b.rspTail < 65) || !b.rspWait.isEmpty) 1 + bitAt (decide (32 ≤ n)) 2 +
  bitAt b.evtDropped 8 + bitAt b.rspDiscarded 9 + bitAt b.badRequest 10 + min n 255 * 2 ^ 16 +
  (if hostBox m then 0 else min (sessionsOf s.mb m).length 255 * 2 ^ 24)

/-- ERR_SUMMARY: VALID of each class's set. -/
def errSummary (s : State) : Nat := ((List.range 18).map (fun c => bitAt (c ≠ 0 && (capOf s.err c).valid) c)).sum

/-- The idle pair is HEALTHY (R463): it runs in standby, passed its self-test within 60 s, and no update is ACTIVATING. -/
def idleHealthy (s : State) : Bool :=
  decide ((if activeB s.err then s.err.pairA else s.err.pairB) = .healthy) && decide (s.time.mc - s.err.testMc ≤ 60 * nsPerS) &&
  decide (s.upd.phase ≠ .activating)

/-- ERR_WARDEN. -/
def errWarden (s : State) : Nat :=
  b2n (activeB s.err) + bitAt (idleHealthy s) 1 + bitAt (decide (s.err.pairA = .halted)) 2 + bitAt (decide (s.err.pairB = .halted)) 3 +
  bitAt s.err.safeHold 4

/-- FIRST_INFO of a set. -/
def firstInfo (c : CapSet) : Nat :=
  (bodyBytes c.detail).foldr (fun b n => b + 256 * n) 0 % 2 ^ 48 + c.accessor % 256 * 2 ^ 48 + bitAt c.valid 63

/-- The link partner has paused transmission: of the port, or of a priority. -/
def ethPaused (mc : Nat) (p : EthPort) : Bool := decide (mc < p.pauseUntil) || p.pfcUntil.any (fun e => decide (mc < e.2))

/-- ETH_STATUS (R502). -/
def ethStatus (mc : Nat) (p : EthPort) : Nat :=
  b2n p.up + bitAt p.pcsLock 1 + bitAt p.localFault 2 + bitAt p.remoteFault 3 + bitAt (ethPaused mc p) 4 + bitAt p.pressure 5 +
  bitAt p.linkChange 8 + bitAt p.fcsErr 9 + bitAt p.fecUncorr 10 + bitAt p.rxDropSt 11

/-- Sticky bits of CH_STATUS[11:8]. -/
def plcSticky (x : PlcPort) : BitVec 4 :=
  BitVec.ofNat 4 (b2n x.stBeaconFail + bitAt x.stZoneDowngrade 1 + bitAt x.stAdmitRefused 2 + bitAt x.stRxSat 3)

def zcCode : ZcState → Nat | .lost => 0 | .acquiring => 1 | .locked => 2

/-- CH_STATUS. -/
def chStatus (s : State) (n : Nat) : Nat :=
  let lp := plcLp n
  let x := plcPortOf s lp
  let mode := prmN s .plcMode lp
  let att := if mode = 2 then (x.members.filter (fun e => e.2.attached)).length else attachedOn s (1024 + n)
  bitAt (plcUp s lp) 2 + bitAt x.impaired 3 + zcCode (detOf s.plc (prmN s .plcZcDet lp)).state * 2 ^ 4 +
  (plcSticky x).toNat * 2 ^ 8 + att % 65536 * 2 ^ 32

/-- CH_CONFIG. -/
def chConfig (s : State) (n : Nat) : Nat :=
  let lp := plcLp n
  b2n (plcUp s lp) + prmN s .plcMode lp * 2 + prmN s .plcBand lp * 8 + prmN s .plcZcPhase lp * 2 ^ 13 + prmN s .plcZcDet lp * 2 ^ 22 +
  (match groupOf s n with | some g => g.1 | none => 0xFF) * 2 ^ 24

/-- Sticky bits of PORT_STATUS[12:8]. -/
def rfSticky (x : RfPort) : BitVec 5 :=
  BitVec.ofNat 5 (b2n x.stRxSat + bitAt x.stIqGap 1 + bitAt x.stAuthFail 2 + bitAt x.stDwell 3 + bitAt x.stGuard 4)

/-- PORT_STATUS. -/
def portStatus (s : State) (n : Nat) : Nat :=
  let x := rfPortOf s n
  x.iqState + bitAt (prm s .rfMode n ≠ 0 && !x.stalled) 2 + bitAt x.stalled 3 + (rfSticky x).toNat * 2 ^ 8 +
  x.joined.length % 65536 * 2 ^ 32

/-- PORT_CONFIG: the configuration in force; no schedule is in force while the port is OFF. -/
def portConfig (s : State) (n : Nat) : Nat :=
  if prm s .rfMode n = 0 then 0
  else
    b2n (rfUp s n) + prmN s .rfMode n * 2 + prmN s .rfFskFec n * 2 ^ 9 + bitAt (prm s .rfFskLevels n = 4) 11 +
    (prmN s .rfFskRate n / 50 - 1) * 2 ^ 12 + (prmN s .rfOfdmOption n - 1) * 2 ^ 14 + prmN s .rfOfdmMcs n * 2 ^ 16 +
    prmN s .rfTsUs n / 1000 * 2 ^ 24 + (prmN s .rfSfLen n - 1) * 2 ^ 30 + prmN s .rfHopLen n * 2 ^ 40

def chStateCode : ChState → Nat | .off => 0 | .running => 1 | .gap => 2 | .settling => 3

/-- Outputs completed in the current fade of a channel. -/
def fadePos (s : State) (c : Nat) : Nat :=
  match (chOf s c).fade with
  | some f => min f.len ((s.time.mc - f.startMc) * 16 / 15625 / max 1 (prmN s .chMaDec c))
  | none => 0

/-- CHN_STATUS. -/
def chnStatus (s : State) (c : Nat) : Nat :=
  let x := chOf s c
  chStateCode x.state + bitAt x.fade.isSome 2 + bitAt x.pend.isSome 3 + (match x.fade with | some f => f.frm | none => 0) * 2 ^ 4 +
  (match x.pend with | some p => p.1 | none => 0) * 2 ^ 9 + fadePos s c * 2 ^ 16 + bitAt x.stGapSeen 32 + bitAt x.stClip 33 +
  bitAt x.stSat 34 + bitAt x.stSwapDone 35 + bitAt x.stPendingReplaced 36

/-- CHN_CONFIG. -/
def chnConfig (s : State) (c : Nat) : Nat :=
  (prmN s .chMaLen c - 1) + (prmN s .chMaDec c - 1) * 2 ^ 10 + (chOf s c).resp * 2 ^ 18 + kCode (prmN s .chK c) * 2 ^ 24 +
  bitAt ((chOf s c).state ≠ .off) 26 + prmN s .chFadeLen c * 2 ^ 32

def trackCode : Track → Nat | .never => 0 | .locked => 1 | .hold => 2

/-- Sticky bits of STORE_STATUS[14:8]. -/
def storeSticky (x : StoreSt) : BitVec 7 :=
  BitVec.ofNat 7 (b2n x.stGcTargetFail + bitAt x.stBlockRetired 1 + bitAt x.stParityRebuild 2 + bitAt x.stMediaError 3 +
    bitAt x.stHolding 4 + bitAt x.stBypass 5 + bitAt x.stCapacityShrunk 6)

/-- Sticky bits of PAIR_STATUS[13:8]. -/
def pairSticky (q : PairSt) : BitVec 6 :=
  BitVec.ofNat 6 (b2n q.peerLost + bitAt q.linkLost 1 + bitAt q.pinLost 2 + bitAt q.digestMismatch 3 + bitAt q.takeover 4 +
    bitAt q.swapReverted 5)

def ownerCode (s : State) (q : Nat) : Nat :=
  if qEngine s q then 1 else match (qOf s q).owner with | .free => 0 | .secure => 2 | .normal => 3

/-- A crossing queue (R425): a local link's receive edge, or a metrology channel's output queue. -/
def qCrossing (s : State) (q : Nat) : Bool :=
  match edgeRec s q with
  | some e => e.producer.isNone && nodeType s e.consumer == tLinkRx
  | none => (List.range 96).any (fun c => prm s .chOutQueue c = (q : Int) && (chOf s c).state ≠ .off)

/-- Q_CTRL. -/
def qCtrl (s : State) (q : Nat) : Nat :=
  let x := qOf s q
  let e := edgeRec s q
  let cap := match e with | some r => r.capCells | none => x.cap
  let la := match e with | some r => r.launch | none => x.launch
  let dr := match e with | some r => r.dropLate | none => x.dropLate
  b2n (x.enable || e.isSome) + ownerCode s q * 2 ^ 4 + bitAt la 7 + bitAt dr 8 + bitAt x.intLevel 9 + bitAt x.intNonempty 10 +
  bitAt (qCrossing s q) 11 + cap % 65536 * 2 ^ 16 + x.lateTol * 2 ^ 32 + x.complQueue * 2 ^ 52 + bitAt x.complEn 63

/-- Cells in use of a queue or an edge. -/
def cellsInUse (s : State) (q : Nat) : Nat := if qEngine s q then cellsOf (edgeSt s q) else qCells (qOf s q)

/-- Closed items of a queue or an edge. -/
def itemsIn (s : State) (q : Nat) : Nat := if qEngine s q then (edgeSt s q).items.length else (qOf s q).items.length

/-- The head item waits for its launch time. -/
def qHeld (x : Queue) : Bool :=
  x.launch && match x.items with | i :: _ => hdrFlag ((i[0]?).getD 0) 0 && !hdrFlag ((i[0]?).getD 0) 1 | [] => false

/-- Q_STATUS, as a function reads it. -/
def qStatus (s : State) (fn q : Nat) : Nat :=
  let x := qOf s q
  b2n (decide (itemsIn s q = 0)) + bitAt (if qEngine s q then decide (freeCells s q = 0) else noCell s x) 1 + bitAt (!x.open_.isEmpty) 2 +
  bitAt (qHeld x) 3 + bitAt x.underrun 8 + bitAt x.wrErr 9 + bitAt x.lateDropped 10 + bitAt x.complLost 11 + bitAt x.taken 12 +
  stCode (wrStatus x fn) * 2 ^ 48

/-- Q_COUNT. -/
def qCount (s : State) (q : Nat) : Nat :=
  itemsIn s q % 2 ^ 32 + cellsInUse s q % 65536 * 2 ^ 32 + min (qOf s q).open_.length 127 * 2 ^ 48

def dmaStateCode : DmaState → Nat | .idle => 0 | .running => 1 | .halted => 2 | .waitRing => 3

/-- DMA_STATUS. -/
def dmaStatus (x : DmaCh) : Nat := dmaStateCode x.state + bitAt x.fault 8 + bitAt x.done 9 + stCode x.lastStatus * 2 ^ 48

def dmaCtrl (x : DmaCh) : Nat := x.descSpace * 2 ^ 8 + bitAt x.intFault 10 + bitAt x.relaxed 11

def dmaFaultInfo (x : DmaCh) : Nat :=
  x.faultDir + bitAt x.faultCheck 2 + x.faultIndex % 65536 * 2 ^ 16 + x.faultDescId % 65536 * 2 ^ 32 + stCode x.faultCode * 2 ^ 48

/-- A source's condition holds as a state, not as an event (R440, R441). -/
def intCond (s : State) (src : Nat) : Bool :=
  if src = 9 then (List.range 18).any (fun c => c ≠ 0 && (capOf s.err c).valid && s.err.intEnable.getLsbD c)
  else if src = 10 then s.plc.ports.any (fun e => plcSticky e.2 &&& e.2.intEnable ≠ 0)
  else if src = 11 then s.rf.ports.any (fun e => rfSticky e.2 &&& e.2.intEnable ≠ 0)
  else if src = 12 then
    (List.range 96).any (fun c => (chOf s c).stGapSeen && (tapOf s (c / 6)).intEnable.getLsbD (c % 6))
  else if src = 13 then storeSticky s.store &&& s.store.intEnable ≠ 0
  else if src = 14 then recSticky s.recd &&& s.recd.intEnable ≠ 0
  else if src = 15 then pairSticky s.pair &&& s.pair.intEnable ≠ 0
  else if 32 ≤ src && src < 64 then (dmaOf s (src - 32)).state = .halted && (dmaOf s (src - 32)).intFault
  else if 64 ≤ src then s.irq.qpend.getD (src - 64) 0 ≠ 0
  else false

end Sys2Proof.Machine
end

