-- ==== Sys2Proof/Machine/Ethernet.lean ====
section
/-! DEFINITION. The Ethernet ports (R200, R502) and the TLS handshakes of the head ends (R149, R188, R393, R453). -/

namespace Sys2Proof.Machine
open Sys2Proof

/-- A port's PCS lock or faults as they now are; LINK_UP is lock without a fault (R502). -/
def ethLink (p : EthPort) (lock localF remoteF : Bool) : EthPort :=
  let up := lock && !localF && !remoteF
  { p with
    pcsLock := lock, localFault := localF, remoteFault := remoteF, up := up
    linkChange := p.linkChange || decide (up ≠ p.up) }

/-- ETH_LINK_CHANGE (R502): a port that is OFF has no PCS. -/
def ethLinkChangeEff (x : Nat) (lock localF remoteF : Bool) (s : State) : State :=
  if prm s .ethSpeed x = 0 then s else { s with eth := ethSet s.eth x (ethLink (ethPort s.eth x) lock localF remoteF) }

def execEthLinkChange (port : Fin 4) (lock localFault remoteFault : Bool) (s : State) : Host.Outcome State Fault Refusal :=
  finish s (if running s then ethLinkChangeEff port.val lock localFault remoteFault s else s)

/-- So many quanta of 512 bit times, in ns at the port's speed. -/
def quantaNs (s : State) (x n : Nat) : Nat := if prm s .ethSpeed x = 1 then n * 512 / 10 else n * 512 / 25

/-- What a PAUSE or PFC frame does to a port: quanta 0 ends the pause at once. -/
def pauseTake (s : State) (x : Nat) (f : PauseFrame) (p : EthPort) : EthPort :=
  let until_ := fun (q : Word16) => s.time.mc + quantaNs s x q.toNat
  match f with
  | .pause q => { p with pauseRecv := p.pauseRecv + 1, pauseUntil := until_ q }
  | .pfc l => { p with
      pauseRecv := p.pauseRecv + 1, pfcUntil := l.foldl (fun t e => t.set e.1.val (until_ e.2)) p.pfcUntil }

/-- PAUSE_RX (R502). -/
def pauseRxEff (x : Nat) (f : PauseFrame) (s : State) : State :=
  let s1 := ethRx s x false
  { s1 with eth := ethSet s1.eth x (pauseTake s x f (ethPort s1.eth x)) }

def execPauseRx (port : Fin 4) (f : PauseFrame) (s : State) : Host.Outcome State Fault Refusal :=
  finish s (if running s && decide (prm s .ethSpeed port.val ≠ 0) then pauseRxEff port.val f s else s)

/-- PAUSE_RENEWAL (R200): a port that is sending PAUSE sends it again. -/
def pauseRenewalEff (x : Nat) (s0 : State) : State :=
  let s := pauseSync s0 x
  let p := ethPort s.eth x
  if p.pressure && egressOk s && decide (p.lastPauseNs < s.time.mc) then
    ethTx { s with eth := ethSet s.eth x { p with pauseSent := p.pauseSent + 1, lastPauseNs := s.time.mc } } x false
  else s

def execPauseRenewal (port : Fin 2) (s : State) : Host.Outcome State Fault Refusal :=
  finish s (if running s then pauseRenewalEff port.val s else s)

/-! ### TLS handshakes -/

def tlsSlots : List Nat := (List.range 64).map (fun i => 1024 + i)

/-- The TLS pool has a slot for one more handshake. -/
def tlsRoom (m : MbSt) : Bool := decide (m.tls.length + m.handshakes.length < 64)

/-- TLS_HANDSHAKE_BEGIN: refused before the server's first flight where the pool is full, which the port counts, where the
engine may not serve head ends, and where no certificate chain is set. -/
def tlsBeginEff (port : Fin 2) (identity : Word32) (s : State) : State :=
  if !egressOk s || notActive s || decide (prm s .tlsCertChain < 0) then s
  else if tlsRoom s.mb then { s with mb := { s.mb with handshakes := s.mb.handshakes ++ [(port, identity.toNat)] } }
  else
    let p := ethPort s.eth port.val
    { s with eth := ethSet s.eth port.val { p with rxDrop := p.rxDrop + 1, rxDropSt := true } }

def execTlsHandshakeBegin (port : Fin 2) (identity : Word32) (s : State) : Host.Outcome State Fault Refusal :=
  finish s (if running s then tlsBeginEff port identity s else s)

/-- The role an anchor grants: TARGETS[2:0] (R164). -/
def anchorRole (a : KeyAttr) : Option Role :=
  match a.targets.toNat % 8 with
  | 0 => some .utilityAdmin | 1 => some .billingReader | 2 => some .operations | 3 => some .fieldService | 4 => some .pub
  | _ => none

/-- The mailbox of a session (R453). -/
def tlsBox (port : Fin 2) (role : Role) : Fin 8 := if role = .fieldService then 5 else if port = 0 then 2 else 3

/-- A session opens in the lowest free slot of the pool. -/
def tlsOpen (s : State) (port : Fin 2) (identity : Word32) (role : Role) : State :=
  let used := s.mb.tls.map (fun e => e.2.slot)
  let slot := (tlsSlots.find? (fun i => !used.contains i)).getD 1024
  let x : TlsSess := { port := port, role := role, mb := tlsBox port role, slot := slot, identity := identity, lastRecNs := s.time.mc }
  { s with mb := { s.mb with tls := s.mb.tls.set s.mb.nextSess x, nextSess := s.mb.nextSess + 1 } }

/-- Gamokor's use of a key in a handshake: of the identity to sign, of the anchor to verify. -/
def tlsUse (s : State) (h : Word32) (usage alg : Nat) : State × Bool :=
  let q : KeyReq := ⟨0, false, usage, [alg], 0⟩
  match keyJudge s h q with
  | some f => (keyFail s h q f, false)
  | none => (s, true)

/-- The handshake's keys pass: the session is bound. -/
def tlsBind (port : Fin 2) (identity anchor : Word32) (s : State) : State :=
  let a := tlsUse s identity 3 4
  if !a.2 || hClass identity ≠ 7 then a.1
  else
    let b := tlsUse a.1 anchor 4 6
    if !b.2 || hClass anchor ≠ 8 then b.1
    else match (keyView b.1 anchor).bind (fun v => anchorRole v.attr) with
      | some role => tlsOpen b.1 port identity role
      | none => b.1

/-- TLS_HANDSHAKE_DONE: `anchor` is the key at which the client's chain ends, none where the chain fails the rules of R188. -/
def tlsDoneEff (port : Fin 2) (identity : Word32) (anchor : Option Word32) (s : State) : State :=
  if s.mb.handshakes.contains (port, identity.toNat) then
    let s1 := { s with mb := { s.mb with handshakes := s.mb.handshakes.erase (port, identity.toNat) } }
    match anchor with
    | some a => if egressOk s && !notActive s then tlsBind port identity a s1 else s1
    | none => s1
  else s

def execTlsHandshakeDone (port : Fin 2) (identity : Word32) (anchor : Option Word32) (s : State) : Host.Outcome State Fault Refusal :=
  finish s (if running s then tlsDoneEff port identity anchor s else s)

/-- TLS_KEY_UPDATE: the engine sends one after the record limit, or answers one received; new traffic keys count anew. -/
def tlsKeyUpdateEff (sess : Nat) (received : Bool) (s : State) : State :=
  { s with mb := { s.mb with
      tls := s.mb.tls.modify sess (fun t =>
        { t with keyUpdates := t.keyUpdates + 1, sentRecs := 0, recvRecs := if received then 0 else t.recvRecs }) } }

def execTlsKeyUpdate (sess : Nat) (received : Bool) (s : State) : Host.Outcome State Fault Refusal :=
  finish s (if running s then tlsKeyUpdateEff sess received s else s)

end Sys2Proof.Machine
end

