-- ==== Sys2Proof/Machine/Tick.lean ====
section
/-! DEFINITION. The Tick: its boundary (R38 to R40, R30 to R32, R42, R205) and its closing work (R41, R204). -/

namespace Sys2Proof.Machine
open Sys2Proof

/-! ### The steps of ET (R30 to R32, R40) -/

/-- D of R30 exceeds 100 ms. -/
def farFrom (et dom : Nat) : Bool := decide (100000000 * unitsPerNs < absDiff et dom)

/-- The step that takes effect at this boundary, in units of 2^-32 ns, with its cause (R32, R352). -/
def stepNow (s : State) : Option (Int × Nat) :=
  match s.time.stepSum with
  | some ns => some (ns * (unitsPerNs : Int), 1)
  | none => match selDom s with
    | some d =>
      if (ptpOf s.time d).state = .locked && farFrom s.time.et (domTime s.time d) then
        some ((domTime s.time d : Int) - s.time.et, 0)
      else none
    | none => none

/-- ET steps: it says so, and the slot grids, the held frames and the cells follow (R32, R37, R90, R122). -/
def stepEt (s : State) (step : Int) (cause : Nat) : State :=
  let old := etNs s
  let s1 := { s with time := { s.time with et := (((s.time.et : Int) + step) % (etRange : Int)).toNat, stepSum := none } }
  let now := etNs s1
  let body := timeSetBody old now s1.vault.tick cause s1.time.utcOffset
  let s2 := timeTrouble (emitAll s1 [.record 2 0x8010 body, .event .timeStepped 0 mb01 body]) 0 (accByte 0 0 false) .timeStepped 2 2
  let s3 := rfGridStep s2 ((now : Int) - old)
  let late := fun (x : PlcPort) => match x.beacon with | some b => decide (b.1 + 500 < now) | none => false
  { s3 with plc := { s3.plc with ports := s3.plc.ports.map (fun e => (e.1, if late e.2 then { e.2 with beacon := none } else e.2)) } }

/-- The end of a Tick that starts at an ET: the next multiple of 10 ms, or, of a re-phased Tick, the one more than 5 ms and at
most 15 ms on (R38, R40). -/
def tickEnd (start : Nat) (stepped : Bool) : Nat :=
  if stepped then ((start + 5000000) / tickNs + 1) * tickNs else (start / tickNs + 1) * tickNs

/-! ### What takes effect at a boundary -/

/-- A port whose settings change retrains: its link goes down, and the sessions on it close (R503). -/
def ethRetrain (s : State) (x : Nat) : State :=
  let s1 := { s with eth := ethSet s.eth x (ethLink (ethPort s.eth x) false false false) }
  ((s1.mb.tls.filter (fun e => decide (e.2.port.val = x))).map Prod.fst).foldl tlsClose
    { s1 with mb := { s1.mb with handshakes := s1.mb.handshakes.filter (fun h => decide (h.1.val ≠ x)) } }

/-- The port that a change concerns, where it makes the port retrain. -/
def retrains (s : State) (q : PendParam) : Option Nat :=
  match q.id.key with
  | .ethSpeed | .ethFec | .ethPfcPrio => if prm s q.id.key q.id.idx = q.val.val then none else some q.id.idx
  | _ => none

/-- A domain is DISABLED while it is not enabled, and starts in LISTENING when it is again (R24). -/
def domEnable (s : State) (d : Dom) : State :=
  let x := ptpOf s.time d
  if prm s .tdEnable (domIdx d) = 0 then
    { s with time := ptpSet s.time d { x with
      state := .disabled, acqFromHold := false, consec := 0, masters := [], master := none, syncWait := none, reqOut := false
      utcValid := false, leap61 := false, leap59 := false } }
  else if x.state = .disabled then { s with time := ptpSet s.time d { x with state := .listening } }
  else s

/-- The changes of parameters that wait for the Tick boundary (R42). -/
def paramsTick (s : State) : State :=
  let due := s.pendParams.filter (fun q => q.bound == .tick)
  let ports := due.filterMap (retrains s)
  let s1 := metroApply due (applyPend s (fun b => b == .tick))
  let s2 := ([0, 1, 2, 3].filter (fun x => ports.contains x)).foldl ethRetrain s1
  timeRefresh (domEnable (domEnable s2 .a) .b)

/-- What counts anew in every Tick. -/
def perTick (s : State) : State :=
  { s with
    bill := if standby s then s.bill else { s.bill with closes := 0 }
    bal := { s.bal with scored := 0 }
    val := { s.val with swept := 0 }
    mb := { s.mb with emitted := [] }
    ctx := { s.ctx with unknownPosted := [] }
    store := { s.store with lostTick := false }
    campBlocks := 0 }

/-- The charge of one instance returns to zero (R202). -/
def nodeRoll (budgetNs : Nat) (x : NodeSt) : NodeSt :=
  { x with prevUsedNs := x.usedNs, usedNs := 0, overTicks := if budgetNs ≤ x.usedNs && 0 < x.usedNs then x.overTicks + 1 else x.overTicks }

/-- The scheduler's figures of the Tick just ended (R202, R203). -/
def flowRoll (s : State) : State :=
  let budget := fun (n : Nat) => match nodeRec s n with | some x => x.budgetUs * 1000 | none => 0
  { s with flow := { s.flow with
      nodes := s.flow.nodes.map (fun e => (e.1, nodeRoll (budget e.1) e.2))
      prevBusyNs := s.flow.busyNs, busyNs := 0, corePrev := s.flow.coreBusy, coreBusy := []
      prevJournal := s.flow.journalBytes, journalBytes := 0, journalLimit := false
      pressureTicks := if 0 < pressed s then s.flow.pressureTicks + 1 else s.flow.pressureTicks
      completions := [], drainTicks := s.flow.drainTicks - 1 } }

/-- The instance of TICK_CLOSE. -/
def closeNode (s : State) : Nat := match (liveNodes s).find? (fun x => x.type == tTickClose) with | some x => x.node | none => 0xFFFF

/-- Closing work of an earlier Tick is unfinished at this boundary (R205). -/
def overrunNow (s : State) : State :=
  match s.flow.closeDue with
  | [] => s
  | d :: _ =>
    let f := s.flow
    let run := f.overrunRun + 1
    let first := if f.overrun then f.overrunFirst else d.tick
    let s1 := { s with flow := { f with
      overrun := true, overrunTotal := f.overrunTotal + 1, overrunRun := run, overrunMax := max f.overrunMax run, overrunFirst := first } }
    if f.overrun then s1
    else
      let n := closeNode s1
      emitAll s1 [.event .tickOverrun 0 mb01 [(first, 8), (0, 4)], .trouble ⟨8, 0, locOpen, accByte 0 0 false, .tickOverrun, [n % 256, n / 256]⟩]

/-- The closing work of the Tick just ended falls due, and the fence with it (R41, R204). None exists before full service. -/
def closingDue (s : State) (tick fromEt toEt journal : Nat) : State :=
  if s.boot.stage = 6 && !s.err.safeHold then
    { s with flow := { s.flow with
        closeDue := s.flow.closeDue ++ [⟨tick, fromEt, toEt, s.time.tickStartEt, journal⟩], closing := true, fence := true
        closeStartMc := if s.flow.closeDue.isEmpty then s.time.mc else s.flow.closeStartMc } }
  else s

/-- The beacons of the channels whose superframe starts at the next boundary (R59). -/
def beaconsTick (s : State) : State :=
  if !egressOk s then s
  else (List.range 16).foldl (fun s n =>
    let lp := plcLp n
    let k := max 1 (prmN s .plcSfTicks lp)
    if coord s lp && decide (pairTickOf s % k = k - 1) then buildBeacon s lp s.time.tickEndEt else s) s

/-- The sensors' and the power meter's figures of the Tick just ended are measured values (R504). -/
def sensorsTick (s : State) : State :=
  let v := fun (i : Nat) => Config.freeValue (s.freeCtr + i)
  { s with
    freeCtr := s.freeCtr + 5
    boot := { s.boot with temps := [0, 1, 2, 3].map (fun i => ((v i % 65536 : Nat) : Int) - 32768), powerMw := v 4 % 2 ^ 32 } }

/-- In SINGLE mode the engine serves from the first Tick (R391, R414). -/
def singleStart (s : State) : State :=
  if s.pair.modePair then s
  else { s with pair := { s.pair with role := .single } }

/-! ### TICK_BOUNDARY -/

/-- The clocks run on to an ET, and the vault's with them. -/
def runTo (s : State) (etTarget : Nat) : State :=
  let t := clockRun (selDom s) s.time (etTarget * unitsPerNs)
  { s with time := t, vault := vaultRun s.vault (t.mc - s.time.mc) }

/-- The ET at which the next Tick starts: for the first, the next multiple of 10 ms. -/
def boundaryEt (s : State) : Nat := if s.time.ticking then s.time.tickEndEt else (etNs s / tickNs + 1) * tickNs

/-- The new Tick is numbered and its bounds are set; a step takes effect first. -/
def numberTick (s : State) : State :=
  let s1 := { s with vault := { s.vault with tick := (s.vault.tick + 1) % 2 ^ 64 } }
  let stepped := (stepNow s1).isSome
  let s2 := match stepNow s1 with | some p => stepEt s1 p.1 p.2 | none => s1
  let t := s2.time
  { s2 with time := { t with
      ticking := true, tickStartMc := t.mc, tickStartEt := etNs s2, tickEndEt := tickEnd (etNs s2) stepped, tickStepped := stepped
      tickLenNs := if t.ticking then t.mc - t.tickStartMc else 0 } }

/-- What the boundary brings into force and starts, after the new Tick has its number. `old`: the state before the boundary. -/
def enterTick (latch : List (Nat × List TickPhase)) (old s : State) : State :=
  let journal := old.flow.journalBytes
  let s1 := recTick s
  let l := latchAll old.vault.tick old.time.tickStepped latch s1
  let s2 := if standby l.1 then l.1 else balTaps l.1 old.time.tickStartEt old.time.tickStepped l.2
  let s3 := perTick (flowRoll (overrunNow s2))
  let s4 := if old.time.ticking then closingDue s3 old.vault.tick old.time.tickStartEt old.time.tickEndEt journal else s3
  let s5 := accessApply (rulesApply (paramsTick s4))
  let s6 := if s5.store.formatted then storeRefresh s5 else s5
  let s7 := if egressOk s6 then [0, 1, 2, 3].foldl rfEnable s6 else s6
  let s8 := sensorsTick (beaconsTick s7)
  if s8.time.tickInt then { s8 with irq := irqRaise s8.irq 8 } else s8

/-- TICK_BOUNDARY. `latch` lists what each tap's samples of the Tick just ended add. During a shutdown only the number advances (R515). -/
def tickBoundaryEff (latch : List (Nat × List TickPhase)) (s0 : State) : State :=
  let first := !s0.time.ticking
  let s := runTo s0 (boundaryEt s0)
  let s1 := numberTick s
  if s.boot.pfw then s1
  else
    let s2 := if first then singleStart { s1 with boot := { s1.boot with stage := max 4 s1.boot.stage } } else s1
    let s3 := enterTick latch s s2
    let s4 := if s1.time.tickStepped then settleAll (alignStep s3) else s3
    reschedule s4

/-- The first Tick starts once the mailboxes are ready (R521). -/
def mayTick (s : State) : Bool := alive s && (s.time.ticking || decide (3 ≤ s.boot.stage))

def execTickBoundary (latch : List (Nat × List TickPhase)) (s : State) : Host.Outcome State Fault Refusal :=
  finish s (if mayTick s then tickBoundaryEff latch s else s)

/-- With no command waiting, one cycle of the time unit passes. -/
def idleCycle (s : State) : Host.Outcome State Fault Refusal :=
  finish s (if s.boot.powered then { s with time := clockCycle (selDom s) s.time, vault := vaultRun s.vault 2 } else s)

/-! ### TICK_CLOSE (R41, R204, R205) -/

/-- The interval ends of a length whose sweep point lies in a span, oldest first (R225). -/
def sweepEnds (lenS gapWait fromNs toNs : Nat) : List Nat :=
  let l := lenS * nsPerS
  let a := (fromNs + l - 1) / l
  let b := (toNs + l - 1) / l
  ((List.range (b - a)).map (fun i => (a + i) * l)).filterMap (fun p => if gapWait * l ≤ p then some (p - gapWait * l) else none)

/-- The interval lengths and waits of the class tables, each once. -/
def sweepKinds (s : State) : List (Nat × Nat) :=
  ((List.range 64).map (fun c => (lenOf (classOf s c), (classOf s c).gapWait))).foldl (fun l k => if l.contains k then l else l ++ [k]) []

/-- Step 2: interval closes hand ESTIMATE the sweeps whose points lie in the Tick just ended (R225), and the balance makes its
adjustments (R303). -/
def intervalCloses (s : State) (d : CloseDue) : State :=
  let new := ((sweepKinds s).map (fun k => (sweepEnds k.1 k.2 d.fromEt d.toEt).map (fun e => ({ endNs := e, lenS := k.1, gapWait := k.2 } : Sweep)))).flatten
  { s with val := { s.val with sweeps := s.val.sweeps ++ new } }

/-- Steps 1 and 2. A STANDBY's billing and balance run on the ACTIVE's inputs. -/
def closeFirst (s : State) (d : CloseDue) : State := if standby s then s else balAdjust (intervalCloses (calendarStep1 s d.startEt) d)

/-- Bytes of a Tick's journal: what its nodes added, and the after-images of the entries it changed. -/
def closeBytes (s : State) (d : CloseDue) : Nat := d.journal + 512 * (s.ctx.changed.length + s.bill.touched.length)

/-- Step 5: the ACTIVE sends the delta of the Tick; a buffer that overflows is discarded (R398, R400). -/
def sendDelta (s : State) (d : CloseDue) : State :=
  if s.pair.modePair && decide (s.pair.role = .active) then
    let kib := (closeBytes s d + 1023) / 1024
    let l := s.pair.deltas ++ [(((d.tick : Int) + s.pair.delta).toNat, kib)]
    let overfull := decide (prmN s .pairDeltaBuffer * 1024 < (l.map Prod.snd).sum)
    setPair s (fun q => { q with
      deltas := if overfull then [] else l, swapping := q.swapping || (decide (q.swapPhase = .requested) && q.peerSwapAck) })
  else s

/-- Step 6: the digest and the HEALTH word, and what the digest is formed over starts anew (R408, R410). -/
def closeHealth (s : State) : State :=
  let h := pairHealth s
  let d := digestOf s
  let s1 := setPair s (fun q => { q with health := h, digest := d, digestValid := false, digestMatch := false, scrubCorr := 0 })
  { s1 with bill := { s1.bill with touched := [] }, bal := { s1.bal with written := [] }, ctx := { s1.ctx with changed := [] } }

/-- The run of overruns ends once no closing work is left over. -/
def overrunEnd (s : State) : State :=
  if s.flow.overrun then
    emitAll { s with flow := { s.flow with overrun := false, overrunRun := 0 } }
      [.event .tickOverrun 0 mb01 [(s.flow.overrunFirst, 8), (s.flow.overrunRun, 4)]]
  else s

/-- Steps 3 to 6 of the oldest closing work, once staging has room for its commit entry. -/
def closeRest (s : State) (d : CloseDue) (rest : List CloseDue) : State :=
  let s1 := if s.store.formatted then stageCommit s d.tick (closeBytes s d) else s
  let s2 := writeBack s1
  let fenced_ := s2.time.mc - s2.flow.closeStartMc
  let s3 := closeHealth (sendDelta s2 d)
  let f := s3.flow
  let s4 := { s3 with flow := { f with
    closeDue := rest, closeWaits := false, closing := !rest.isEmpty, fence := !rest.isEmpty
    closeStartMc := if rest.isEmpty then f.closeStartMc else s3.time.tickStartMc
    closeFencedNs := fenced_, closeWholeNs := s3.time.mc - f.closeStartMc } }
  if rest.isEmpty then overrunEnd s4 else s4

/-- A dispatch of a context writer that started in the Tick still runs. -/
def writersRun (s : State) (tick : Nat) : Bool := s.flow.cores.any (fun r => ctxWriter r.2.type && decide (r.2.startTick ≤ tick))

/-- The closing work of the oldest Tick that waits for it. Step 3 waits while staging lacks room. -/
def closeOldest (s : State) : State :=
  match s.flow.closeDue with
  | [] => s
  | d :: rest =>
    let s1 := if s.flow.closeWaits then s else closeFirst s d
    if s1.store.formatted && decide (stagingRoom s1 < closeBytes s1 d + 64) && !s1.store.staging.isEmpty then
      { s1 with flow := { s1.flow with closeWaits := true } }
    else closeRest s1 d rest

def tickCloseEff (s : State) : State :=
  match s.flow.closeDue with
  | [] => s
  | d :: _ => if writersRun s d.tick then s else reschedule (closeOldest s)

def execTickClose (s : State) : Host.Outcome State Fault Refusal := finish s (if running s then tickCloseEff s else s)

end Sys2Proof.Machine
end

