-- ==== Sys2Proof/Machine/Shutdown.lean ====
section
/-! DEFINITION. The shutdown on a power failure (R514 to R517), with its flush (R331) and its trouble summary (R365). -/

namespace Sys2Proof.Machine
open Sys2Proof

/-! ### The trouble summary (R365) -/

/-- The first bytes of a payload, filled with zeros. -/
def firstBytes (n : Nat) (b : Body) : Body := ((bodyBytes b ++ List.replicate n 0).take n).map (fun v => (v, 1))

/-- A compact entry of 22 bytes. -/
def compactEntry (mc : Nat) (e : TEntry) : Body :=
  [(min ((mc - e.mc) / 1000) 0xFFFFFFFF, 4), (e.addr % 2 ^ 40, 5), (e.loc % 2 ^ 48, 6), (e.cls, 1), (e.accessor + 128 * b2n e.first, 1),
   (stCode e.code, 2)] ++ firstBytes 3 e.detail

/-- Payloads of TROUBLE_COPY: two entries each; an unused half is zero. -/
def copyBodies : List Body → List Body
  | a :: b :: t => (a ++ b) :: copyBodies t
  | [a] => [a ++ [(0, 22)]]
  | [] => []

/-- The copy of the last 16 entries, oldest first. -/
def troubleCopies (s : State) : List Emit :=
  (copyBodies ((s.err.tlog.drop (s.err.tlog.length - 16)).map (compactEntry s.time.mc))).map (fun b => .record 0x11 0x8070 b)

/-- Every record at the write port is written. -/
def recDrain (s : State) : State := s.recd.port.foldl (fun s _ => recordWriteEff .good s) s

/-! ### The steps (R515) -/

/-- Step 2: the closing work of every Tick that has ended. -/
def closeAllDue (s : State) : State := s.flow.closeDue.foldl (fun s _ => closeOldest s) s

/-- What of the Ticks not closed stands in staging when step 3 starts: their records, without a commit entry. -/
def openStream (s : State) : List Staged :=
  let n := (s.store.stream.map (fun r => sSize r.body)).sum
  if s.store.stream.isEmpty then [] else [{ tick := s.vault.tick, recs := s.store.stream, bytes := n, programmed := n, state := s.p }]

/-- Step 3: all of staging is programmed. -/
def flushStaging (s : State) : State :=
  let s1 := s.store.staging.foldl (fun s _ => durableStep s) s
  { s1 with store := { s1.store with staging := openStream s1, stream := [] } }

/-- Steps 2 to 5. `closeDone`: step 2 ended within its time; `stagingDone`: step 3 programmed all of staging. -/
def shutdownEff (closeDone stagingDone : Bool) (s : State) : State :=
  let s1 := if closeDone then closeAllDue s else s
  let closed := s1.flow.closeDue.isEmpty
  let s2 := if stagingDone && s1.store.formatted then flushStaging s1 else s1
  let s3 := recDrain (emitAll s2 (troubleCopies s2))
  let clean := closed && stagingDone
  { s3 with
    vault := { s3.vault with clean := clean }
    boot := { s3.boot with pfwStep := 5, pfwAbandoned := !closed, cleanSet := clean, stopTick := s3.vault.tick } }

/-- POWER_FAIL, written as the failure is accepted (R352). -/
def powerFailRec (s : State) : State := emit1 s (.record 0x10 0x8002 [(s.vault.tick, 8), (s.time.mc, 8)])

/-- PFW_N has been low for 10 µs. -/
def pfwFallEff (closeDone stagingDone : Bool) (s : State) : State :=
  let s1 := powerFailRec { s with boot := { s.boot with pfw := true, pfwMc := s.time.mc - 10000 } }
  shutdownEff closeDone stagingDone s1

/-- PFW_N_FALL. -/
def execPfwNFall (closeDone stagingDone : Bool) (s : State) : Host.Outcome State Fault Refusal :=
  finish s (if running s then pfwFallEff closeDone stagingDone s else s)

/-- A supply left its limits (R504, R514): its bits, and the trouble entry. Which of the domains it feeds the entry names is not stated. -/
def excursionNote (supply : Fin 13) (s : State) : State :=
  let bit : BitVec 13 := BitVec.ofNat 13 (2 ^ supply.val)
  emit1 { s with
    freeCtr := s.freeCtr + 1
    boot := { s.boot with rails := s.boot.rails &&& ~~~bit, railEvents := s.boot.railEvents ||| bit } }
    (.trouble ⟨0x11, 0, locOpen, accByte 0xF 3 false, .aborted, [Config.freeValue s.freeCtr % 256, 1]⟩)

/-- SUPPLY_EXCURSION: it counts as a fall of PFW_N. -/
def supplyExcursionEff (supply : Fin 13) (closeDone stagingDone : Bool) (s : State) : State :=
  let s1 := excursionNote supply s
  if running s then pfwFallEff closeDone stagingDone s1 else s1

def execSupplyExcursion (supply : Fin 13) (closeDone stagingDone : Bool) (s : State) : Host.Outcome State Fault Refusal :=
  finish s (if alive s then supplyExcursionEff supply closeDone stagingDone s else s)

/-- REFCLK is lost (R517): the shutdown, and the vault takes the trunk die's power away; POWER_ON follows when REFCLK has come back. -/
def refclkLossEff (closeDone stagingDone : Bool) (s : State) : State :=
  let s1 := if running s then shutdownEff closeDone stagingDone (powerFailRec s) else s
  { s1 with boot := { s1.boot with refclk := false, powered := false, pfw := false } }

/-- REFCLK_LOSS. -/
def execRefclkLoss (closeDone stagingDone : Bool) (s : State) : Host.Outcome State Fault Refusal :=
  finish s (if alive s then refclkLossEff closeDone stagingDone s else s)

end Sys2Proof.Machine
end

