-- ==== Sys2Proof/Machine/Boot.lean ====
section
/-! DEFINITION. Resets and boot (R519 to R523): what an engine reset leaves (R11 to R14, R364, R382, R492, R533), the stages of the boot
(R159, R160, R261, R330, R355, R465), Function Level Resets (R439), tamper (R181) and double faults (R463, R464). -/

namespace Sys2Proof.Machine
open Sys2Proof

/-! ### What an engine reset leaves -/

/-- The time unit: MC, ET and the domain times run on, or, after a power loss, MC starts anew and the others take the RTC (R11, R13, R533). -/
def timeReset (power : Bool) (s : State) : TimeSt :=
  let t := s.time
  let et := if power then s.vault.rtc.getD 0 % etRange else t.et
  let following : Dom := if prm s .tSelect = 1 then .b else .a
  let dom : Dom → DomPtp := fun d => { state := if prm s .tdEnable (domIdx d) = 0 then .disabled else .listening }
  let t1 : TimeSt := {
    mc := if power then 0 else t.mc
    et := et
    domA := if power then et else t.domA
    domB := if power then et else t.domB
    ptpA := dom .a, ptpB := dom .b, following := following
    everLocked := !power && t.everLocked
    utcOffset := s.vault.utcLast.getD (prmN s .tUtcDefault) }
  let st := etStateOf (if prm s .tSelect = 3 then none else some following) t1
  let runOn := decide (st = .holdover) && decide (t.etState = .holdover)
  { t1 with
    etState := st
    holdoverMc := if runOn then t.holdoverMc else t1.mc
    unsynced := decide (st = .freeRun) || (runOn && t.unsynced) }

/-- Double-fault resets within the last 3,600 operating seconds. -/
def dfRecent (v : VaultSt) : Nat := (v.dfHistory.filter (fun t => decide (v.opSeconds ≤ t + 3600))).length

/-- The vault writes the reset-cause word and measures its ROM (R12, R159, R464). -/
def vaultReset (cause : Nat) (power : Bool) (rom : Nat) (v : VaultSt) : VaultSt :=
  { v with
    cause := cause, dfCount := dfRecent v, haltedA := v.haltedA && decide (cause = 4), haltedB := v.haltedB && decide (cause = 4)
    safeHoldBoot := decide (3 ≤ dfRecent v), challenge := none
    rom := rom, bmr := Config.extend 0 rom, bmrExt := 1
    powerCycles := if power then satInc 24 v.powerCycles else v.powerCycles }

/-- The ring store keeps its dies; of staging only what the dies hold counts (R327). -/
def storeReset (x : StoreSt) : StoreSt :=
  { x with
    state := .bringup, staging := x.staging.take 1, stream := [], gcPasses := 0, gcAborted := 0, rebuilt := 0, lostPages := 0, promotions := 0
    bypassing := false, bypassed := 0, lost := 0, lostTick := false, stGcTargetFail := false, stBlockRetired := false
    stParityRebuild := false, stMediaError := false, stHolding := false, stBypass := false, stCapacityShrunk := false, intEnable := 0
    toStore := [], toExport := [] }

/-- The recorder keeps its eMRAM; what the write port held is lost. REC_SUPPRESSED counts since power-up. -/
def recReset (power : Bool) (r : RecSt) : RecSt :=
  { formatted := r.formatted, held := r.held, headSeq := r.headSeq, oldest := r.oldest, wrapped := r.wrapped, cap := r.cap, spares := r.spares
    sapRetired := r.sapRetired, heartRetired := r.heartRetired, heartLost := r.heartLost, heartWritten := r.heartWritten
    heartFull := r.heartFull, lostPages := r.lostPages, marks := r.marks, faultDue := r.faultDue
    suppressed := if power then 0 else r.suppressed }

/-- The ERR block and the trouble log go with power only; both Warden pairs start anew (R364, R463, R492). -/
def errReset (power : Bool) (mc : Nat) (e : ErrSt) : ErrSt :=
  if power then { testMc := mc } else { sets := e.sets, intEnable := e.intEnable, tlog := e.tlog, tnext := e.tnext, testMc := mc }

/-- An update interrupted (R382). -/
def updReset (mc : Nat) (u : UpdSt) : UpdSt :=
  match u.phase with
  | .verifying => { u with phase := .receiving, lastMc := mc }
  | .activating =>
    if u.grafted then { rec0 := u.rec0, rec1 := u.rec1, run := u.run }
    else { u with phase := .staged, prepB := false, prepRewrap := false, prepBank := false, rewrapping := false, lastMc := mc }
  | _ => { u with lastMc := mc }

/-- The bank that the boot uses is the one of the KEY_EPOCH in force (R180). -/
def bootBank (s : State) : Bank :=
  let epoch := s.vault.counters.getD 0 0
  if s.store.durableP.keys.epoch ≠ epoch ∧ s.p.keys.epoch = epoch then s.p.keys else s.store.durableP.keys

/-- The state of the last durable commit entry, with what is recorded before its first use: the EPOCHs of the links (R106, R394). Changes of
parameters that wait for power-up come into force with it (R392). -/
def bootPersist (power : Bool) (s : State) : Persist :=
  let d := s.store.durableP
  let due := if power then s.pendParams.filter (fun q => q.bound == .powerUp) else []
  let epochs : Tbl Nat := s.p.cellEpochs.map (fun e => (e.1, e.2 + 1))
  { d with
    keys := bootBank s
    params := due.foldl (fun l q => putParam l q.id q.val) d.params
    peerLinkEpoch := s.p.peerLinkEpoch + 1
    cellEpochs := epochs
    cells := d.cells.map (fun e => (e.1, { e.2 with downEpoch := epochs.getD e.1 (e.2.downEpoch + 1) })) }

/-- Boot and power after the release of the trunk die. -/
def bootReset (power : Bool) (s : State) : BootSt :=
  { bootFails := if power then 0 else s.boot.bootFails
    rails := if power then 0x1FFF else s.boot.rails
    stopTick := s.vault.tick
    pcieRef := s.boot.pcieRef, serdesRef := s.boot.serdesRef, xtal := s.boot.xtal, iqclk := s.boot.iqclk
    temps := s.boot.temps, hot := s.boot.hot, powerMw := s.boot.powerMw, pcieResets := s.boot.pcieResets + 1 }

/-- Everything outside the vault and the memories at its reset value, the rest as above (R492, R520). -/
def resetState (cause : Nat) (power : Bool) (rom : Nat) (s : State) : State :=
  let p := bootPersist power s
  let v := vaultReset cause power rom s.vault
  let t := timeReset power { s with p := p }
  let x := storeReset s.store
  { p := p
    vault := v
    boot := bootReset power s
    time := t
    err := errReset power t.mc s.err
    recd := recReset power s.recd
    pair := { modePair := if power then decide (prmIn p.params .pairMode 0 = 1) else s.pair.modePair, hbLastMc := t.mc, pinLastMc := t.mc }
    store := { x with durableP := { x.durableP with params := p.params, keys := p.keys } }
    upd := updReset t.mc s.upd
    pendParams := if power then [] else s.pendParams.filter (fun q => q.bound == .powerUp)
    freeCtr := s.freeCtr
    pending := s.pending }

/-- Records due after those of R355: an activated update not yet recorded (R382), the servo returned to the Warden (R21). -/
def resetNotes (s : State) : List Emit :=
  (if s.recd.port.any (fun r => r.src = 6 && r.code = 0x8050) then
     [.record 6 0x8050 [(s.vault.counters.getD 9 0, 8), (s.vault.counters.getD 0 0, 4), (s.vault.tick, 8)]]
   else []) ++
  (if s.time.hostOwner then [.record 7 0x8060 [(1, 1), (1, 1), (0, 1), (0, 1), (0, 8)]] else [])

/-- The vault releases the trunk die: the recorder recovers and writes POWER_UP, whose clean flag is then taken back (R355, R516). -/
def releaseTrunk (recOk : Bool) (notes : List Emit) (s : State) : State :=
  let s1 := recRecover s recOk (causeWord s.vault) (s.vault.tick + 1)
  emitAll { s1 with vault := { s1.vault with clean := false } } notes

/-- An engine reset, up to the release of the trunk die. -/
def engineReset (cause : Nat) (power recOk : Bool) (rom : Nat) (s : State) : State :=
  releaseTrunk recOk (resetNotes s) (resetState cause power rom s)

/-- A reset without power loss, with the ROM the vault has. -/
def warmReset (cause : Nat) (s : State) : State := engineReset cause false true s.vault.rom s

/-! ### Power-on, RST_N and the vault's resets (R517, R519, R520) -/

/-- POWER_ON: `recOk`, the recorder's controller answers; `rom`, what the vault ROM measures. -/
def execPowerOn (recOk : Bool) (rom : Nat) (s : State) : Host.Outcome State Fault Refusal :=
  finish s (engineReset 1 true recOk rom s)

/-- PFW_N returns high (R517): the trunk die's power goes and comes back; after an RST_N in between, the reset ends instead. -/
def pfwReturnEff (s : State) : State :=
  if s.boot.held then warmReset 2 s else engineReset 1 true true s.vault.rom s

/-- PFW_N_RETURN. -/
def execPfwNReturn (s : State) : Host.Outcome State Fault Refusal :=
  finish s (if s.boot.powered && s.boot.pfw then pfwReturnEff s else s)

/-- RST_N has been low (R519, R520). While PFW_N is low the engine stays in reset (R521). It also ends the hold of R522. -/
def rstNEff (s : State) : State :=
  if s.boot.pfw then { s with boot := { s.boot with held := true } }
  else warmReset 2 { s with boot := { s.boot with bootFails := 0 } }

/-- RST_N. -/
def execRstN (s : State) : Host.Outcome State Fault Refusal := finish s (if s.boot.powered then rstNEff s else s)

/-- VAULT_WATCHDOG. -/
def execVaultWatchdog (s : State) : Host.Outcome State Fault Refusal := finish s (if running s then warmReset 6 s else s)

/-! ### The stages of the boot (R521) -/

/-- WARDEN_BOOT: the boot loader is measured. -/
def wardenBootEff (loader : Nat) (s : State) : State :=
  { s with vault := { s.vault with bmr := Config.extend s.vault.bmr loader, bmrExt := 2 } }

def execWardenBoot (loader : Nat) (s : State) : Host.Outcome State Fault Refusal :=
  finish s (if running s && decide (s.vault.bmrExt = 1) then wardenBootEff loader s else s)

/-- The check values of a bank verify under a boot's KEKs: it holds nothing, or keys wrapped under them. -/
def bankVerifies (k : KekId) (b : Bank) : Bool :=
  b.slots.isEmpty && b.meters.isEmpty || b.slots.any (fun e => decide (e.2.kek.taproot = k.taproot) && decide (e.2.kek.bmr = k.bmr)) ||
  b.meters.any (fun e => decide (e.2.uc.kek.taproot = k.taproot) && decide (e.2.uc.kek.bmr = k.bmr))

/-- The KEKs reach the trunk's file, and the bank that matches serves (R160, R180). -/
def bootKeys (s : State) : State :=
  let k := vaultKek s
  let ready := match k with
    | some id => decide (s.p.keys.epoch = s.vault.counters.getD 0 0) && bankVerifies id s.p.keys
    | none => false
  let s1 := { s with keys := { s.keys with kek := k, ready := ready } }
  if ready then s1 else emit1 s1 (.event .keyMissing 0 mb0 [(ksStatus s1, 8), (s.vault.counters.getD 0 0, 4)])

/-- The boot enters safe hold (R465). -/
def safeHoldEnter (s : State) : State :=
  if s.vault.safeHoldBoot then
    { s with err := { s.err with safeHold := true }, pair := { s.pair with role := if s.pair.modePair then .held else s.pair.role } }
  else s

/-- MAILBOX_READY: Gamokor and the stream microcode are measured, the KEKs derived, MB0 and MB1 accept ENABLE. -/
def mailboxReadyEff (gamokor microcode : Nat) (s : State) : State :=
  let s1 := { s with
    vault := { s.vault with bmr := Config.extend (Config.extend s.vault.bmr gamokor) microcode, bmrExt := 4 }
    boot := { s.boot with stage := 3, bootFails := 0 } }
  safeHoldEnter (bootKeys s1)

def execMailboxReady (gamokor microcode : Nat) (s : State) : Host.Outcome State Fault Refusal :=
  finish s (if running s && decide (s.vault.bmrExt = 2) then mailboxReadyEff gamokor microcode s else s)

/-- What a restart changes in the state restored: downlink counters resume 2^16 on (R87, R146, R386), outstanding unicast work of
campaigns is forgotten, and the EPOCHs stay those of this start. -/
def restartCounters (old s : State) : State :=
  jumpCounters { s with p := { s.p with
    params := old.p.params, peerLinkEpoch := old.p.peerLinkEpoch, cellEpochs := old.p.cellEpochs
    cells := s.p.cells.map (fun e => (e.1, { e.2 with downEpoch := old.p.cellEpochs.getD e.1 e.2.downEpoch }))
    camps := s.p.camps.map (fun e => (e.1, { e.2 with asked := [] })) } } 65536

/-- The taps whose settings the journal holds (R288). -/
def restartTaps (s : State) : State := (List.range 16).foldl (metroTapApply []) s

/-- STORE_RESTART. -/
def restartEff (badPage : Option Nat) (s : State) : State :=
  let s1 := if s.store.formatted then restartCounters s (storeRestartEff badPage s) else s
  restartTaps { s1 with boot := { s1.boot with stage := 5 } }

def execStoreRestart (badPage : Option Nat) (s : State) : Host.Outcome State Fault Refusal :=
  finish s (if running s && decide (s.boot.stage = 4) then restartEff badPage s else s)

/-- A cell's link at start (R109, R111, R151): ADMITTED, and told the new EPOCH. -/
def startCell (s : State) (c : Nat) : State :=
  let s1 := cellSet s c { state := .admitted, lastMsgMc := s.time.mc }
  if egressOk s1 then kclResync s1 c else s1

/-- LOCAL_LOSS_WINDOW after a restart: the Ticks after the last committed one (R148). -/
def restartLoss (s : State) : State :=
  if s.store.formatted && decide (s.store.durable < s.boot.stopTick) then emit1 s (localLoss s (s.store.durable + 1) s.boot.stopTick) else s

/-- FULL_SERVICE. -/
def fullServiceEff (s : State) : State :=
  let s1 := { s with
    boot := { s.boot with stage := 6, serviceMc := s.time.mc }
    store := { s.store with state := if s.store.formatted then .normal else s.store.state } }
  let s2 := if s1.store.formatted then storeRefresh s1 else s1
  reschedule (restartLoss ((s2.p.cells.map Prod.fst).foldl startCell s2))

def execFullService (s : State) : Host.Outcome State Fault Refusal :=
  finish s (if running s && decide (s.boot.stage = 5) && !s.err.safeHold then fullServiceEff s else s)

/-- BOOT_FAILURE (R522): two retries, then the trunk die is held. -/
def bootFailureEff (s : State) : State :=
  let n := s.boot.bootFails + 1
  let s1 := { s with boot := { s.boot with bootFails := n } }
  if n < 3 then warmReset 7 s1
  else
    let s2 := resetState 7 false s.vault.rom s1
    { s2 with boot := { s2.boot with held := true } }

def execBootFailure (s : State) : Host.Outcome State Fault Refusal :=
  finish s (if running s && decide (s.boot.stage < 3) then bootFailureEff s else s)

/-! ### Function Level Resets (R439, R492, R519) -/

/-- MSI-X of a function at its reset state. -/
def msixReset (i : IntSt) (fn : Nat) : IntSt :=
  { i with msix := i.msix.filter (fun e => decide (e.1 / 64 ≠ fn)), pba := i.pba.filter (fun e => decide (e.1 / 64 ≠ fn)) }

def boxDisable (s : State) (i : Nat) : State :=
  let b := boxOf s.mb i
  if b.enable then { s with mb := mbSet s.mb i (boxStop b) } else s

/-- A Function Level Reset. -/
def flrEff (fn : Fin 2) (s : State) : State :=
  if fn = 1 then
    let s1 := hostReset (boxDisable s 1) [28, 29, 30, 31] .normal
    { s1 with
      irq := msixReset s1.irq 1, time := { s1.time with snap1 := {} }, recd := { s1.recd with winBase1 := 0 }
      reg := { s1.reg with scratch1 := 0, shadow1 := none } }
  else
    let s1 := servoReturn (hostReset (boxDisable (boxDisable s 0) 6) [24, 25, 26, 27] .secure) 3
    { s1 with
      irq := msixReset s1.irq 0, time := { s1.time with snap0 := {} }, recd := { s1.recd with winBase0 := 0 }
      reg := { s1.reg with scratch0 := 0, shadow0 := none } }

/-- FUNCTION_LEVEL_RESET. -/
def execFunctionLevelReset (fn : Fin 2) (s : State) : Host.Outcome State Fault Refusal :=
  finish s (if alive s then flrEff fn s else s)

/-- PERST_N: the PCIe link, and both functions (R519). -/
def perstEff (s : State) : State := flrEff 1 (flrEff 0 { s with boot := { s.boot with pcieResets := s.boot.pcieResets + 1 } })

def execPerstN (s : State) : Host.Outcome State Fault Refusal := finish s (if alive s then perstEff s else s)

/-! ### Tamper (R181) -/

/-- The vault zeroises and records the cause. -/
def zeroise (monitor : Fin 8) (s : State) : State :=
  { s with vault := { s.vault with
      taproot := false, tampered := true, challenge := none
      tamperCause := s.vault.tamperCause ||| BitVec.ofNat 8 (2 ^ monitor.val) } }

/-- TAMPER_TRIP. With main power present the trunk clears its keys and sessions, and the engine resets; a shutdown goes on (R516). -/
def tamperTripEff (monitor : Fin 8) (s : State) : State :=
  let s1 := zeroise monitor s
  if running s then warmReset 5 s1
  else if alive s then { s1 with
      keys := { clearWorking s1.keys with kek := none, kekNext := none, ready := false }
      ctx := { s1.ctx with sess := [] }, mb := { s1.mb with tls := [], handshakes := [] } }
  else s1

def execTamperTrip (monitor : Fin 8) (s : State) : Host.Outcome State Fault Refusal := finish s (tamperTripEff monitor s)

/-! ### Double faults (R462 to R464) -/

/-- Every command taken and not answered is answered with ABORTED, and every PENDING one ends with ABORTED. -/
def abortBox (s : State) (i : Nat) : State :=
  let s1 := match (boxOf s.mb i).reqChain with
    | some (t, _) => breakChain s i (t + 1) .aborted
    | none => s
  ((boxOf s1.mb i).pend.filter (fun q => q.code ≠ 0)).foldl (fun s q => postFinalAt s i q .aborted []) s1

/-- The cause of R461 as an event's and a record's payload: the DETAIL of the fault. -/
def faultBody (pairB : Bool) (cause : Nat) (pc : Word32) : Body := (1, 1) :: (0, 3) :: (wardenDetail pairB cause pc).map (fun v => (v, 1))

def allBoxes : BitVec 8 := 0x7F

/-- The idle pair takes over. -/
def takeOver (cause : Nat) (pc : Word32) (s : State) : State :=
  let b := activeB s.err
  let s1 := { s with err := if b then { s.err with pairA := .active, pairB := .halted } else { s.err with pairA := .halted, pairB := .active } }
  emitAll (boxList.foldl abortBox s1)
    [.event .aborted 0 allBoxes (faultBody b cause pc)]

/-- No idle pair is HEALTHY: the vault resets every die but itself. -/
def faultReset (s : State) : State :=
  let v := s.vault
  let b := activeB s.err
  warmReset 4 { s with vault := { v with
    dfHistory := (v.opSeconds :: v.dfHistory).take 256
    haltedA := decide (s.err.pairA = .halted) || !b, haltedB := decide (s.err.pairB = .halted) || b } }

/-- A double fault of the active pair: its trouble-log entry, and the takeover or the reset. -/
def doubleFaultEff (cause : Nat) (pc : Word32) (s : State) : State :=
  let s1 := emit1 s (wardenTrouble (activeB s.err) cause pc)
  if idleHealthy s then takeOver cause pc s1 else faultReset s1

/-- DOUBLE_FAULT. `memory`: the memory of the log or of a capture set failed; otherwise the pair's lockstep. -/
def execDoubleFault (memory : Bool) (pc : Word32) (s : State) : Host.Outcome State Fault Refusal :=
  finish s (if running s then doubleFaultEff (if memory then 2 else 1) pc s else s)

/-- HANDLER_WATCHDOG: the handler has run for more than 2 ms. -/
def execHandlerWatchdog (pc : Word32) (s : State) : Host.Outcome State Fault Refusal :=
  finish s (if running s then doubleFaultEff 3 pc s else s)

end Sys2Proof.Machine
end

