-- ==== Sys2Proof/Machine/Lifecycle.lean ====
section
/-! DEFINITION. The lifecycle and its commands (R183, R184, R319, R347, R474). -/

namespace Sys2Proof.Machine
open Sys2Proof

/-! ### Lifecycle (R183, R184, R474) -/

def lifeCode : Life → Nat := lifeIdx

def ciGetLifecycle : CmdInfo := { code := 0x0107, plain := 0x03, hold := true }

/-- GET_LIFECYCLE: on mailbox 0 it draws a new challenge. -/
def getLifecycle (r : Req) (s : State) : Reply :=
  let b := fun (ch : Nat) => [(lifeCode s.vault.life, 1), (taprootRegen s, 1), (15 - s.vault.serviceEntries, 1), (0, 1), (s.vault.fuses.toNat, 4), (ch, 16)]
  if r.mb.val = 0 then
    let f := fresh s
    let ch := f.1 % 2 ^ 128
    ⟨{ f.2 with vault := { f.2.vault with challenge := some ch } }, .ok, b ch, []⟩
  else ⟨s, .ok, b 0, []⟩

def execGetLifecycle (r : Req) (s : State) : Host.Outcome State Fault Refusal :=
  finish s (gmi ciGetLifecycle r (getLifecycle r) s)

def ciAdvanceLifecycle : CmdInfo := { code := 0x0108, plain := 0x01, states := 0x0F }

/-- Toggle fuses blown. -/
def togglesBlown (f : BitVec 32) : Nat → Nat
  | 0 => 0
  | n + 1 => b2n (f.getLsbD (n + 2)) + togglesBlown f n

/-- The state a fuse word reads as (R183). -/
def lifeOf (f : BitVec 32) : Life :=
  if f.getLsbD 31 then .retired
  else if f.getLsbD 1 then (if togglesBlown f 29 % 2 = 1 then .service else .operational)
  else if f.getLsbD 0 then .provisioned
  else .blank

/-- The fuse a transition to a state blows. -/
def fuseFor (f : BitVec 32) : Life → Nat
  | .provisioned => 0
  | .operational => if f.getLsbD 1 then togglesBlown f 29 + 2 else 1
  | .service => togglesBlown f 29 + 2
  | .retired => 31
  | .blank => 31

def blow (f : BitVec 32) (i : Nat) : BitVec 32 := f ||| BitVec.ofNat 32 (2 ^ i)

/-- A transition is one of the table of R184, and whether it is signed. -/
def lifeStep : Life → Life → Option Bool
  | .blank, .provisioned => some false
  | .provisioned, .operational => some false
  | .provisioned, .retired => some false
  | .operational, .service => some true
  | .service, .operational => some false
  | .operational, .retired => some true
  | .service, .retired => some true
  | _, _ => none

def lifeOfCode : Nat → Option Life
  | 0 => some .blank | 1 => some .provisioned | 2 => some .operational | 3 => some .service | 4 => some .retired | _ => none

/-- The condition of a transition: the status that refuses it (R184). -/
def lifeCond (s : State) (dest : Life) : Option Status :=
  match s.vault.life, dest with
  | .blank, .provisioned => if s.vault.tampered then some .tampered else none
  | .provisioned, .operational =>
    if s.p.keys.slots.any (fun e => e.2.cls = 7 && e.2.attr.valid) && s.p.keys.slots.any (fun e => e.2.cls = 8 && e.2.attr.valid) then none
    else some .notPermitted
  | .operational, .service =>
    if (s.pair.modePair && s.pair.role = .active && !s.pair.peerLost) || 15 ≤ s.vault.serviceEntries then some .notPermitted else none
  | _, _ => none

/-- What entering a state does beside the fuse (R160, R184, R319, R347, R456). -/
def lifeEffect (s : State) (dest : Life) : State :=
  match dest with
  | .provisioned =>
    let s1 := { s with vault := { s.vault with taproot := true }, recd := recFormat s.recd, store := storeFormat s.store }
    let s2 := refillKek s1
    makeProvKey { s2 with keys := { s2.keys with ready := true }, p := { s2.p with keys := { epoch := s.vault.counters.getD 0 0 } } }
  | .operational => refillKek { s with mb := mbSet s.mb 6 (if (boxOf s.mb 6).enable then boxStop (boxOf s.mb 6) else boxOf s.mb 6) }
  | .service => refillKek s
  | .retired =>
    let s1 := refillKek { s with vault := { s.vault with taproot := false }, recd := recRetire s.recd }
    { s1 with
      p := { s1.p with keys := {} }
      keys := { s1.keys with kek := none, ready := false, rewrap := none }
      mb := mbSet s1.mb 6 (if (boxOf s1.mb 6).enable then boxStop (boxOf s1.mb 6) else boxOf s1.mb 6) }
  | .blank => s

def lifeAdvance (s : State) (dest : Life) : Reply :=
  let from_ := s.vault.life
  let f := blow s.vault.fuses (fuseFor s.vault.fuses dest)
  let v := s.vault
  let s1 := lifeEffect { s with vault := { v with
    fuses := f, life := dest, serviceEntries := v.serviceEntries + (if dest = .service then 1 else 0) } } dest
  ⟨s1, .ok, [], [.record 4 0x8020 [(lifeCode from_, 1), (lifeCode dest, 1), (0, 2), (f.toNat, 4)]]⟩

/-- ADVANCE_LIFECYCLE. `sig` is none where the signature fields are zero, else whether the signature verifies over the
latest challenge. -/
def advanceLifecycle (r : Req) (target : BitVec 8) (handle : Word32) (sig : Option Bool) (s : State) : Reply :=
  match lifeOfCode target.toNat with
  | none => deny s .badParam
  | some dest => match lifeStep s.vault.life dest with
    | none => deny s .notPermitted
    | some signed =>
      if !signed then
        if handle ≠ 0 || sig.isSome then deny s .badParam
        else match lifeCond s dest with
          | some st => deny s st
          | none => lifeAdvance s dest
      else match trailerFail s r ⟨handle, sig.getD false && s.vault.challenge.isSome⟩ 15 with
        | (s1, some st) => deny s1 st
        | (s1, none) => match lifeCond s1 dest with
          | some st => deny s1 st
          | none => lifeAdvance { s1 with vault := { s1.vault with challenge := none } } dest

def execAdvanceLifecycle (r : Req) (target : BitVec 8) (handle : Word32) (sig : Option Bool) (s : State) :
    Host.Outcome State Fault Refusal :=
  finish s (gmi ciAdvanceLifecycle r (advanceLifecycle r target handle sig) s)

end Sys2Proof.Machine
end

