-- ==== Sys2Proof/Machine/Names.lean ====
section
/-! DEFINITION. The names of the parameters and of their tokens, as the parameter tables spell them (R468). -/

namespace Sys2Proof.Machine
open Sys2Proof

/-- Decimal digits of a number below 10,000. -/
def digits (n : Nat) : String :=
  let d := fun k => String.singleton (Char.ofNat (48 + k % 10))
  if n < 10 then d n else if n < 100 then d (n / 10) ++ d n else if n < 1000 then d (n / 100) ++ d (n / 10) ++ d n
  else d (n / 1000) ++ d (n / 100) ++ d (n / 10) ++ d n

/-- An index given as a capital letter. -/
def letterOf (n : Nat) : String := String.singleton (Char.ofNat (65 + n))

/-- The name of a link port: a PLC channel of the engine, or a port of a cell (R42, R44). -/
def linkPortName (lp : Nat) : String :=
  if lp < 4096 then "cell[" ++ digits (lp / 4) ++ "].port[" ++ digits (lp % 4) ++ "]"
  else "plc.ch[" ++ digits (lp - 4096) ++ "]"

/-- The NAME of a parameter. -/
def paramName (p : ParamId) : String :=
  let i := p.idx
  match p.key with
  | .tdNumber => "time.domain[" ++ letterOf i ++ "].number"
  | .tdProfile => "time.domain[" ++ letterOf i ++ "].profile"
  | .tdPort => "time.domain[" ++ letterOf i ++ "].port"
  | .tdTransport => "time.domain[" ++ letterOf i ++ "].transport"
  | .tdEnable => "time.domain[" ++ letterOf i ++ "].enable"
  | .tSelect => "time.select"
  | .tAutoHoldoff => "time.auto_holdoff_ms"
  | .tLockThr => "time.lock_threshold_ns"
  | .tHoldLimit => "time.holdover_limit_s"
  | .tUtcDefault => "time.utc_offset_default"
  | .tHostWd => "time.servo.host_watchdog_s"
  | .tEthdDomain => "time.eth_d.domain"
  | .tEthdProfile => "time.eth_d.profile"
  | .tEthdLogSync => "time.eth_d.log_sync_interval"
  | .tEthdOneStep => "time.eth_d.one_step"
  | .plcBand => linkPortName i ++ ".band"
  | .plcMode => linkPortName i ++ ".mode"
  | .plcPanId => linkPortName i ++ ".pan_id"
  | .plcSfTicks => linkPortName i ++ ".sf_ticks"
  | .plcBeaconTicks => linkPortName i ++ ".beacon_ticks"
  | .plcSlotTicks => linkPortName i ++ ".slot_ticks"
  | .plcCfpSlots => linkPortName i ++ ".cfp_slots"
  | .plcBeaconOffset => linkPortName i ++ ".beacon_offset_us"
  | .plcZcDet => linkPortName i ++ ".zc_detector"
  | .plcZcPhase => linkPortName i ++ ".zc_phase_deg"
  | .plcRobustGain => linkPortName i ++ ".robust_txgain"
  | .plcMaxRetx => linkPortName i ++ ".max_retx"
  | .plcZoneFaultDb => linkPortName i ++ ".zone_fault_db"
  | .plcTmMargin => linkPortName i ++ ".tm_margin_db"
  | .plcTmRefresh => linkPortName i ++ ".tm_refresh_sf"
  | .plcMaxGrantPeriod => linkPortName i ++ ".max_grant_period_sf"
  | .plcWorsen => linkPortName i ++ ".route.worsen_pct"
  | .plcSwitchMargin => linkPortName i ++ ".route.switch_margin_pct"
  | .plcMaxChildren => linkPortName i ++ ".route.max_children"
  | .plcNbrAge => linkPortName i ++ ".route.nbr_age_sf"
  | .plcExclusive => "plc.group[" ++ digits i ++ "].exclusive"
  | .rfMode => "rf.port[" ++ digits i ++ "].mode"
  | .rfIqRate => "rf.port[" ++ digits i ++ "].iq_rate_hz"
  | .rfFskRate => "rf.port[" ++ digits i ++ "].fsk.rate_kbps"
  | .rfFskLevels => "rf.port[" ++ digits i ++ "].fsk.levels"
  | .rfFskFec => "rf.port[" ++ digits i ++ "].fsk.fec"
  | .rfFskPreamble => "rf.port[" ++ digits i ++ "].fsk.preamble_octets"
  | .rfOfdmOption => "rf.port[" ++ digits i ++ "].ofdm.option"
  | .rfOfdmMcs => "rf.port[" ++ digits i ++ "].ofdm.mcs"
  | .rfPanId => "rf.port[" ++ digits i ++ "].pan_id"
  | .rfTsUs => "rf.port[" ++ digits i ++ "].ts_us"
  | .rfSfLen => "rf.port[" ++ digits i ++ "].sf_len"
  | .rfHopLen => "rf.port[" ++ digits i ++ "].hop_len"
  | .rfMaxPsdu => "rf.port[" ++ digits i ++ "].max_psdu"
  | .rfEbPeriod => "rf.port[" ++ digits i ++ "].eb_period_sf"
  | .rfDwellBuckets => "rf.port[" ++ digits i ++ "].dwell.window_buckets"
  | .rfDwellLimit => "rf.port[" ++ digits i ++ "].dwell.limit_us"
  | .rfAckReserve => "rf.port[" ++ digits i ++ "].dwell.ack_reserve_us"
  | .rfDutyWindow => "rf.port[" ++ digits i ++ "].duty.window_s"
  | .rfDutyLimit => "rf.port[" ++ digits i ++ "].duty.limit_ms"
  | .rfDriftInit => "rf.sleepy.drift_init_ppm"
  | .rfDriftFloor => "rf.sleepy.drift_floor_ppm"
  | .rfResyncTries => "rf.sleepy.resync_tries"
  | .kclUdpPort => "kcl.udp_port"
  | .kclEngineAddr => "kcl.engine_addr"
  | .kclDescLead => "kcl.desc_lead_ms"
  | .kclHoldoverSf => "kcl.holdover_sf"
  | .kclStatusPeriod => "kcl.status_period_ms"
  | .kclSilence => "kcl.silence_ms"
  | .kclRto => "kcl.rto_ms"
  | .kclWindow => "kcl.window"
  | .kclBacklogTimeout => "kcl.backlog_timeout_s"
  | .kclBacklogKeep => "kcl.backlog_keep_s"
  | .kclAlignPeriod => "kcl.align_period_s"
  | .kclAlignLimit => "kcl.align_limit_ns"
  | .cellMeasureInterval => "cell[" ++ digits i ++ "].measure_interval_s"
  | .ctxBulkPerTick => "ctx.bulk.records_per_tick"
  | .ctxRotateAlarm => "ctx.counter.rotate_alarm"
  | .ctxMeterIdle => "ctx.session.meter_idle_s"
  | .ctxMeterLife => "ctx.session.meter_life_s"
  | .ctxEvictIdle => "ctx.session.evict_idle_s"
  | .ctxTlsIdle => "ctx.session.tls_idle_s"
  | .keyQuarItems => "key.quarantine_items"
  | .keyQuarHold => "key.quarantine_hold_s"
  | .tamperMesh => "tamper.mesh.enable"
  | .tamperInEnable => "tamper.in[" ++ digits i ++ "].enable"
  | .tamperInLevel => "tamper.in[" ++ digits i ++ "].active_level"
  | .tamperInDebounce => "tamper.in[" ++ digits i ++ "].debounce_us"
  | .tlsKeyUpdate => "tls.key_update_records"
  | .tlsCertChain => "tls.cert_chain"
  | .schedCloseReserve => "sched.close_reserve_us"
  | .schedJournalLimit => "sched.journal_limit_kib"
  | .schedExportStall => "sched.export_stall_ms"
  | .graphDrainTicks => "graph.drain_ticks"
  | .ethFcMode => "eth.port[" ++ letterOf i ++ "].fc_mode"
  | .valSweepPerTick => "val.sweep_per_tick"
  | .valLedgerDays => "val.ledger_days"
  | .valEstOpenMax => "val.est_open_max_h"
  | .valStatDup => "val.stat.duplicates"
  | .valStatUnm => "val.stat.unmatched"
  | .valStatRef => "val.stat.refused"
  | .valStatEvict => "val.stat.ledger_evicted"
  | .billClosePerTick => "bill.close_per_tick"
  | .billProfileDepth => "bill.profile_depth"
  | .billMb1Role => "bill.mb1_role"
  | .tapEnable => "metro.tap[" ++ digits i ++ "].enable"
  | .tapVLsb => "metro.tap[" ++ digits i ++ "].v_lsb_uv"
  | .tapILsb => "metro.tap[" ++ digits i ++ "].i_lsb_ua"
  | .tapTrackSrc => "metro.tap[" ++ digits i ++ "].track_src"
  | .tapNominalHz => "metro.tap[" ++ digits i ++ "].nominal_hz"
  | .chMaLen => "metro.ch[" ++ digits i ++ "].ma_len"
  | .chMaDec => "metro.ch[" ++ digits i ++ "].ma_dec"
  | .chResponse => "metro.ch[" ++ digits i ++ "].response"
  | .chK => "metro.ch[" ++ digits i ++ "].k"
  | .chFadeLen => "metro.ch[" ++ digits i ++ "].fade_len"
  | .chOutQueue => "metro.ch[" ++ digits i ++ "].out_queue"
  | .balGrace => "balance.grace_intervals"
  | .balRevise => "balance.revise_intervals"
  | .balGapEstMax => "balance.gap_est_max_pct"
  | .balHalfLife => "balance.phase.half_life_h"
  | .balMinWeight => "balance.phase.min_weight"
  | .balRMin => "balance.phase.r_min"
  | .balMargin => "balance.phase.margin"
  | .balRunLen => "balance.phase.run_len"
  | .balWeight => "balance.theft.weight[" ++ digits i ++ "]"
  | .balDecay => "balance.theft.decay"
  | .balAlarmScore => "balance.theft.alarm_score"
  | .balDropPct => "balance.theft.drop_pct"
  | .balDropDays => "balance.theft.drop_days"
  | .balDropRefDays => "balance.theft.drop_ref_days"
  | .balTamperEv => "balance.theft.tamper_event[" ++ digits i ++ "]"
  | .balMagneticEv => "balance.theft.magnetic_event[" ++ digits i ++ "]"
  | .balNeutralEv => "balance.theft.neutral_event[" ++ digits i ++ "]"
  | .balScoreDelay => "balance.theft.score_delay_min"
  | .balScorePerTick => "balance.theft.score_per_tick"
  | .balStatUnattr => "balance.stat.unattributed"
  | .balStatMismatch => "balance.stat.interval_mismatch"
  | .balStatIgnored => "balance.stat.measure_ignored"
  | .balStatLate => "balance.stat.late_beyond"
  | .balStatStale => "balance.stat.topo_stale"
  | .stRetDays => "store.retention.class[" ++ digits i ++ "].days"
  | .stRetFloor => "store.retention.class[" ++ digits i ++ "].floor_days"
  | .stReclaimFree => "store.reclaim_free_gib"
  | .stMinCapacity => "store.min_capacity_gib"
  | .stWearStatic => "store.wear.static"
  | .stSpreadLimit => "store.wear.spread_limit"
  | .stGcStart => "store.gc.start_free"
  | .stGcUrgent => "store.gc.urgent_free"
  | .stCkptTrigger => "store.ckpt.journal_trigger_mib"
  | .stFineMax => "store.fine.max_promoted"
  | .stRefreshDays => "store.refresh_days"
  | .recPerSource => "rec.per_source_tick"
  | .updCountersign => "upd.require_countersign"
  | .updLockIdle => "upd.lock_idle_s"
  | .updGraftTimeout => "upd.graft_timeout_s"
  | .campMulticastMin => "camp.multicast_min"
  | .campMaxRounds => "camp.max_rounds"
  | .campMeterTimeout => "camp.meter_timeout_h"
  | .campBlocksPerTick => "camp.blocks_per_tick"
  | .pairMode => "pair.mode"
  | .pairPeerId => "pair.peer_id"
  | .pairKey => "pair.key"
  | .pairServiceAddr => "pair.service_addr[" ++ letterOf i ++ "]"
  | .pairBootWait => "pair.boot_wait_ms"
  | .pairBootSolo => "pair.boot_solo"
  | .pairMaxLag => "pair.max_lag_ticks"
  | .pairDeltaBuffer => "pair.delta_buffer_mib"
  | .pairResyncMbps => "pair.resync_mbps"
  | .pairScrubPeriod => "pair.scrub_period_s"
  | .pairSwapPeriod => "pair.swap.period_days"
  | .pairSwapWindow => "pair.swap.window_h"
  | .pairSwapMaxBusy => "pair.swap.max_busy_pct"
  | .pairSwapVerify => "pair.swap.verify_s"
  | .mbTunnelOutstanding => "mb.tunnel.outstanding"
  | .ethSpeed => "eth.port[" ++ letterOf i ++ "].speed"
  | .ethFec => "eth.port[" ++ letterOf i ++ "].fec"
  | .ethPfcPrio => "eth.port[" ++ letterOf i ++ "].pfc_prio"

/-- The tokens of a parameter, in the order of its range. -/
def tokensOf (k : ParamKey) : List String :=
  match k with
  | .tdProfile => ["DEFAULT_E2E", "POWER_P2P"]
  | .tdPort => ["ETH_A", "ETH_B"]
  | .tdTransport => ["L2", "UDP4", "UDP6"]
  | .tSelect => ["DOMAIN_A", "DOMAIN_B", "AUTO", "NONE"]
  | .tEthdProfile => ["DEFAULT_E2E", "POWER_P2P"]
  | .plcBand => ["CENELEC_A", "FCC"]
  | .plcMode => ["OFF", "COMPAT", "COORD"]
  | .rfMode => ["OFF", "FSK", "OFDM"]
  | .rfFskFec => ["NONE", "NRNSC", "RSC"]
  | .tamperInLevel => ["LOW", "HIGH"]
  | .ethFcMode => ["PAUSE", "PFC", "OFF"]
  | .billMb1Role => ["OPERATIONS", "BILLING_READER", "PUBLIC"]
  | .tapTrackSrc => ["ZC0", "ZC1", "ZC2", "ZC3", "SELF"]
  | .pairMode => ["SINGLE", "PAIR"]
  | .ethSpeed => ["OFF", "10G", "25G"]
  | .ethFec => ["NONE", "BASER", "RS"]
  | .chOutQueue => ["NONE"]
  | _ => []

/-- The little-endian number of an ASCII string: its first character is the lowest byte. -/
def asciiNat (t : String) : Nat := t.toList.foldr (fun c a => c.toNat + 256 * a) 0

/-- Bytes of an ASCII string. -/
def asciiLen (t : String) : Nat := t.toList.length

end Sys2Proof.Machine
end

