-- ==== Sys2Proof/Machine/Regs.lean ====
section
/-! DEFINITION. The register map (R492 to R504): what every register reads as, who may touch it, and what a write does to it; the
commands REGISTER_WRITE, PCIE_READ_VIOLATION, SHADOW_HALF_READ and INT_PEND_CLEAR. -/

namespace Sys2Proof.Machine
open Sys2Proof

/-- Access of a register. `w1c` stands for RO and RW1C fields together. -/
inductive RegAcc where
  | ro | rw | rc | wo | w1c
  deriving DecidableEq, Repr

/-- A register: visible to PF1, its access, what it reads as. -/
structure RegRow where
  pf1 : Bool
  acc : RegAcc
  val : Nat

def toFin (n i : Nat) (h : 0 < n) : Fin n := ⟨i % n, Nat.mod_lt i h⟩

/-- A row among those of a block, by its offset. -/
def rowAt (l : List (Nat × RegRow)) (off : Nat) : Option RegRow := (l.find? (fun e => e.1 == off)).map Prod.snd

/-! ### Registers by block -/

/-- GCTL (R497). -/
def gctlRow (s : State) (fn : Fin 2) (off : Nat) : Option RegRow :=
  rowAt [(0x00, ⟨true, .ro, 0x1F6D + 0x9808 * 2 ^ 16 + 0xC0 * 2 ^ 32 + 2 ^ 40⟩), (0x08, ⟨true, .ro, s.vault.deviceId.toNat % 2 ^ 64⟩),
    (0x10, ⟨true, .ro, s.vault.deviceId.toNat / 2 ^ 64⟩), (0x18, ⟨true, .ro, gctlStatus s⟩), (0x20, ⟨true, .ro, causeWord s.vault⟩),
    (0x28, ⟨true, .ro, s.vault.opSeconds % 2 ^ 32 + s.vault.powerCycles % 2 ^ 24 * 2 ^ 32⟩),
    (0x30, ⟨true, .ro, (match s.upd.run.parts.get? 1 with | some p => p.version | none => 0) % 2 ^ 32 +
      s.vault.counters.getD 9 0 % 2 ^ 32 * 2 ^ 32⟩),
    (0x38, ⟨true, .rw, (if fn = 0 then s.reg.scratch0 else s.reg.scratch1).toNat⟩)] off

/-- A mailbox page (R442, R452). -/
def mboxRow (s : State) (fn : Fin 2) (m off : Nat) : Option RegRow :=
  let b := boxOf s.mb m
  let w := fun (a : RegAcc) => if m = 1 && fn = 0 then RegAcc.ro else a
  let base : RegAcc := if b.enable then .ro else w .rw
  let pf1 := m == 1
  let idx := b.reqProd.toNat + b.reqCons.toNat * 2 ^ 32
  let stats := b.taken % 2 ^ 32 + b.dropped % 65536 * 2 ^ 32 + b.discarded % 65536 * 2 ^ 48
  let host := [(0x00, RegRow.mk pf1 (w .rw) (b2n b.enable + 2 * b2n b.intRsp + 4 * b2n b.intEvt)), (0x08, ⟨pf1, w .w1c, mbStatus s m⟩),
    (0x10, ⟨pf1, base, b.reqBase.toNat⟩), (0x18, ⟨pf1, base, b.rspBase.toNat⟩), (0x20, ⟨pf1, base, b.evtBase.toNat⟩),
    (0x28, ⟨pf1, w .wo, 0⟩), (0x30, ⟨pf1, .ro, idx⟩), (0x38, ⟨pf1, .ro, b.rspHead.toNat⟩), (0x40, ⟨pf1, w .rw, b.rspTail.toNat⟩),
    (0x48, ⟨pf1, .ro, b.evtHead.toNat⟩), (0x50, ⟨pf1, w .rw, b.evtTail.toNat⟩), (0x58, ⟨pf1, .ro, stats⟩)]
  if m = 7 || (m = 6 && s.vault.life ≠ .service) then none
  else if 2 ≤ m && m ≤ 5 then rowAt [(0x08, ⟨false, .ro, mbStatus s m⟩), (0x58, ⟨false, .ro, stats⟩)] off
  else rowAt host off

/-- Sources routed to a function, of 64 from `lo` on, as a mask. -/
def routedTo (s : State) (fn : Fin 2) (lo : Nat) : Nat :=
  ((List.range 64).map (fun i => bitAt (decide ((routeOf s.irq (lo + i)).func = fn)) i)).sum

/-- Queues of a group that a function sees in INT_QPEND. -/
def groupSees (s : State) (fn : Fin 2) (g : Nat) : Nat :=
  ((List.range 32).map (fun i => bitAt (fn = 0 || ((qOf s (32 * g + i)).owner = .normal && !qEngine s (32 * g + i))) i)).sum

def msixWord (s : State) (fn : Fin 2) (e : Nat) (high : Bool) : Nat :=
  let x := s.irq.msix.getD (64 * fn.val + e) {}
  if high then x.data.toNat + bitAt x.mask 32 else x.addr.toNat

def routeWord (s : State) (i : Nat) : Nat :=
  let r := routeOf s.irq i
  r.entry + bitAt (r.func = 1) 8 + bitAt r.enable 9 + bitAt (s.irq.pend.getLsbD i) 10

/-- The interrupt block (R441). -/
def intRow (s : State) (fn : Fin 2) (off : Nat) : Option RegRow :=
  if off = 0 then some ⟨false, .rw, b2n s.irq.globalEn⟩
  else if off = 0x10 then some ⟨true, .w1c, s.irq.pend.toNat % 2 ^ 64 &&& routedTo s fn 0⟩
  else if off = 0x18 then some ⟨true, .w1c, s.irq.pend.toNat / 2 ^ 64 &&& routedTo s fn 64⟩
  else if 0x100 ≤ off && off < 0x500 then some ⟨false, .rw, routeWord s ((off - 0x100) / 8)⟩
  else if 0x1000 ≤ off && off < 0x1200 then
    some ⟨true, .w1c, (s.irq.qpend.getD ((off - 0x1000) / 8) 0).toNat &&& groupSees s fn ((off - 0x1000) / 8)⟩
  else if 0x8000 ≤ off && off < 0x8300 then some ⟨decide (off < 0x8100), .rw, msixWord s fn ((off - 0x8000) / 16) (off % 16 = 8)⟩
  else if off = 0xC000 then
    some ⟨true, .ro, ((List.range 48).map (fun e => bitAt (s.irq.pba.get? (64 * fn.val + e)).isSome e)).sum⟩
  else none

/-- BASE_NS (R535), by speed and FEC in force; 0 while the port is OFF. -/
def baseNs (s : State) (x : Nat) (tx : Bool) : Nat :=
  match prm s .ethSpeed x, prm s .ethFec x with
  | 2, 2 => if tx then 126 else 342
  | 2, 1 => if tx then 118 else 238
  | 2, _ => if tx then 96 else 164
  | 1, 1 => if tx then 222 else 512
  | 1, _ => if tx then 204 else 286
  | _, _ => 0

def latReg (s : State) (k : Nat) : Nat :=
  (s.time.trim.getD (k / 2 + 4 * (k % 2)) 0).toNat + baseNs s (k / 2) (k % 2 = 1) * 2 ^ 32

def incrWord (i : Incr) : Nat := i.val % 2 ^ 40 + bitAt i.clamped 40

/-- The time unit. -/
def timeRow (s : State) (fn : Fin 2) (off : Nat) : Option RegRow :=
  let z := if fn = 0 then s.time.snap0 else s.time.snap1
  if 0x100 ≤ off && off < 0x140 then some ⟨false, .rw, latReg s ((off - 0x100) / 8)⟩
  else rowAt [(0x00, ⟨true, .rw, 2 * b2n s.time.slewEn + bitAt s.time.tickInt 8⟩), (0x08, ⟨true, .ro, timeState s⟩),
    (0x10, ⟨true, .ro, z.et / nsPerS % 2 ^ 48⟩), (0x18, ⟨true, .ro, z.et % nsPerS⟩), (0x20, ⟨true, .ro, z.mc⟩), (0x28, ⟨true, .ro, z.tick⟩),
    (0x30, ⟨false, .ro, z.domA / nsPerS⟩), (0x38, ⟨false, .ro, z.domA % nsPerS⟩), (0x40, ⟨false, .ro, z.domB / nsPerS⟩),
    (0x48, ⟨false, .ro, z.domB % nsPerS⟩), (0x50, ⟨false, .rw, incrWord s.time.incA⟩), (0x58, ⟨false, .rw, incrWord s.time.incB⟩),
    (0x60, ⟨false, .rw, incrWord s.time.incEt⟩), (0x68, ⟨false, .wo, 0⟩), (0x70, ⟨false, .wo, 0⟩), (0x78, ⟨true, .ro, s.vault.tick⟩),
    (0x80, ⟨true, .ro, s.time.tickStartMc⟩), (0x88, ⟨true, .ro, s.time.tickLenNs⟩)] off

/-- Error capture (R460). -/
def errRow (s : State) (off : Nat) : Option RegRow :=
  if off < 0x40 then
    rowAt [(0, ⟨false, .ro, errSummary s⟩), (8, ⟨false, .rw, s.err.intEnable.toNat⟩), (0x10, ⟨false, .ro, s.err.tnext⟩),
      (0x18, ⟨false, .ro, errWarden s⟩)] off
  else
    let c := capOf s.err (off / 0x40)
    rowAt [(0x00, ⟨false, .ro, c.addr⟩), (0x08, ⟨false, .w1c, firstInfo c⟩), (0x10, ⟨false, .ro, c.loc % 2 ^ 48 + stCode c.code * 2 ^ 48⟩),
      (0x18, ⟨false, .ro, c.mc⟩), (0x20, ⟨false, .ro, c.count⟩)] (off % 0x40)

/-- A DMA channel (R427, R435). -/
def dmaRow (s : State) (n off : Nat) : Option RegRow :=
  let x := dmaOf s n
  let v := decide (28 ≤ n)
  let w : RegAcc := if n < 24 then .ro else .rw
  let a : RegAcc := if n < 24 || x.state ≠ .idle then .ro else .rw
  rowAt [(0x00, ⟨v, w, dmaCtrl x⟩), (0x08, ⟨v, if n < 24 then .ro else .w1c, dmaStatus x⟩), (0x10, ⟨v, a, x.descAddr⟩),
    (0x18, ⟨v, w, x.crBase⟩), (0x20, ⟨v, w, x.crSize⟩), (0x28, ⟨v, .ro, x.head.toNat⟩), (0x30, ⟨v, w, x.tail.toNat⟩),
    (0x38, ⟨v, .ro, x.faultAddr⟩), (0x40, ⟨v, .ro, dmaFaultInfo x⟩), (0x48, ⟨v, .ro, x.faultOffset % 2 ^ 32⟩), (0x50, ⟨v, .ro, x.bytes⟩),
    (0x58, ⟨v, .ro, x.descCount % 2 ^ 32⟩)] off

/-- A queue is NORMAL, and so visible to PF1 (R417). -/
def qNormal (s : State) (q : Nat) : Bool := !qEngine s q && (qOf s q).owner = .normal

def queueRow (s : State) (fn : Fin 2) (q off : Nat) : Option RegRow :=
  let v := qNormal s q
  rowAt [(0x00, ⟨v, .rw, qCtrl s q⟩), (0x08, ⟨v, .w1c, qStatus s fn.val q⟩), (0x10, ⟨v, .ro, qCount s q⟩),
    (0x18, ⟨v, .rw, peakOf s q % 65536 + (qOf s q).level * 2 ^ 32⟩)] off

def qportRow (s : State) (q off : Nat) : Option RegRow :=
  let v := qNormal s q
  rowAt [(0x00, ⟨v, .wo, 0⟩), (0x08, ⟨v, .wo, 0⟩), (0x10, ⟨v, .wo, 0⟩), (0x18, ⟨v, .rc, (qOf s q).last⟩)] off

def poolRow (s : State) (off : Nat) : Option RegRow :=
  rowAt [(0, ⟨false, .ro, poolRoom s + poolReserved s % 2 ^ 17 * 2 ^ 32⟩), (8, ⟨false, .ro, s.q.poolFails⟩)] off

/-- The words of SCHED_NODE: 32 bytes. -/
def schedNodeWord (s : State) (n i : Nat) : Nat :=
  (bodyBytes (nodeStats s n)).drop (8 * i) |>.take 8 |>.foldr (fun b a => b + 256 * a) 0

def coreWord (s : State) (c : Nat) : Nat :=
  s.flow.corePrev.getD c 0 / 1000 % 2 ^ 32 +
  (match s.flow.cores.get? c with | some r => r.lane.node % 1024 * 2 ^ 32 + 2 ^ 63 | none => 0)

/-- The scheduler. -/
def schedRow (s : State) (off : Nat) : Option RegRow :=
  if off < 0x58 then some ⟨true, .ro, nth (schedRegs s) (off / 8)⟩
  else if 0x100 ≤ off && off < 0x300 then some ⟨true, .ro, coreWord s ((off - 0x100) / 8)⟩
  else if 0x10000 ≤ off then some ⟨true, .ro, schedNodeWord s ((off - 0x10000) / 32) (off % 32 / 8)⟩
  else none

/-- An Ethernet port (R502). -/
def ethRow (s : State) (x off : Nat) : Option RegRow :=
  let p := ethPort s.eth x
  rowAt [(0x00, ⟨true, .ro, prmN s .ethSpeed x + prmN s .ethFec x * 4 + prmN s .ethFcMode x * 16 + prmN s .ethPfcPrio x * 256⟩),
    (0x08, ⟨true, .w1c, ethStatus s.time.mc p⟩), (0x10, ⟨true, .ro, (s.vault.macBase.toNat + x) % 2 ^ 48⟩), (0x18, ⟨true, .ro, p.rxFrames.toNat⟩),
    (0x20, ⟨true, .ro, p.rxOctets.toNat⟩), (0x28, ⟨true, .ro, p.rxFcsErr.toNat⟩), (0x30, ⟨true, .ro, p.rxDrop.toNat⟩),
    (0x38, ⟨true, .ro, p.txFrames.toNat⟩), (0x40, ⟨true, .ro, p.txOctets.toNat⟩),
    (0x48, ⟨true, .ro, p.pauseSent.toNat + p.pauseRecv.toNat * 2 ^ 32⟩), (0x50, ⟨true, .ro, p.fecCorr.toNat + p.fecUnc.toNat * 2 ^ 32⟩),
    (0x58, ⟨true, .ro, p.ptpStamped.toNat + p.ptpLost.toNat * 2 ^ 32⟩)] off

def optWord (x : Option Word64) (d : Nat) : Nat := match x with | some v => v.toNat | none => d

/-- A PLC channel. -/
def plcRow (s : State) (n off : Nat) : Option RegRow :=
  let x := plcPortOf s (plcLp n)
  let d := detOf s.plc (prmN s .plcZcDet (plcLp n))
  rowAt [(0x00, ⟨true, .ro, chConfig s n⟩), (0x08, ⟨true, .w1c, chStatus s n⟩), (0x10, ⟨false, .rw, optWord x.rxLat (Config.plcLat 0 n).toNat⟩),
    (0x18, ⟨false, .rw, optWord x.txLat (Config.plcLat 1 n).toNat⟩), (0x20, ⟨true, .ro, et64 (zone0 d (prmN s .plcZcPhase (plcLp n)))⟩),
    (0x28, ⟨true, .ro, d.halfPeriod % 2 ^ 32⟩), (0x30, ⟨true, .ro, x.sfNum⟩), (0x38, ⟨true, .ro, et64 x.sfNextEt⟩),
    (0x40, ⟨true, .ro, x.verified % 2 ^ 32 + x.failed % 2 ^ 32 * 2 ^ 32⟩), (0x48, ⟨true, .ro, x.rxFrames⟩), (0x50, ⟨true, .ro, x.rxDecodeFail⟩),
    (0x58, ⟨true, .ro, x.nackSent⟩), (0x60, ⟨true, .ro, x.admitRefused⟩), (0x68, ⟨true, .ro, x.zoneDowngrades⟩),
    (0x70, ⟨false, .rw, optWord x.afeGain (Config.afeGain n).toNat⟩), (0x78, ⟨false, .rw, x.intEnable.toNat * 2 ^ 8⟩)] off

/-- A zero-cross detector. -/
def detRow (s : State) (d off : Nat) : Option RegRow :=
  let x := detOf s.plc d
  rowAt [(0, ⟨true, .ro, zcCode x.state⟩), (8, ⟨true, .ro, et64 x.lastEt⟩), (0x10, ⟨false, .rw, x.latNs.toNat⟩)] off

/-- An RF port. -/
def rfRow (s : State) (n off : Nat) : Option RegRow :=
  let x := rfPortOf s n
  rowAt [(0x00, ⟨true, .ro, portConfig s n⟩), (0x08, ⟨true, .w1c, portStatus s n⟩), (0x10, ⟨false, .rw, optWord x.rxLat (Config.rfLat 0 n).toNat⟩),
    (0x18, ⟨false, .rw, optWord x.txLat (Config.rfLat 1 n).toNat⟩), (0x20, ⟨true, .ro, sampleCntNow s n % 2 ^ 48 + x.sampleEpoch.toNat * 2 ^ 48⟩),
    (0x28, ⟨true, .ro, x.anchorEt64⟩), (0x30, ⟨true, .ro, x.asn % 2 ^ 40⟩), (0x38, ⟨true, .ro, et64 x.slotNextEt⟩), (0x40, ⟨true, .ro, x.rxFrames⟩),
    (0x48, ⟨true, .ro, x.rxAuthFail⟩), (0x50, ⟨true, .ro, x.rxReplay⟩), (0x58, ⟨true, .ro, x.dwellHolds⟩),
    (0x60, ⟨true, .ro, x.gaps % 2 ^ 32 + x.longestGapUs % 2 ^ 32 * 2 ^ 32⟩), (0x68, ⟨false, .rw, x.agcCode.toNat + bitAt x.agcManual 8⟩),
    (0x70, ⟨false, .rw, x.intEnable.toNat * 2 ^ 8⟩)] off

/-- The latch registers of a current channel (R285). -/
def latchRegs (l : Latch) : List Nat :=
  let a := l.acc
  [a.aImp, a.aExp, a.q1, a.q2, a.q3, a.q4, a.v2t, a.i2t, l.tick,
   l.samples % 2 ^ 32 + bitAt l.gap 32 + bitAt l.qSettling 33 + bitAt l.clip 34 + bitAt l.stepped 35 + bitAt l.trackHold 36, l.gapNs]

/-- A metrology channel; indices 3 to 5 of a tap are current channels. -/
def mchRow (s : State) (c off : Nat) : Option RegRow :=
  let x := chOf s c
  if off < 0x48 then
    rowAt [(0x00, ⟨true, .ro, chnConfig s c⟩), (0x08, ⟨true, .w1c, chnStatus s c⟩), (0x10, ⟨true, .ro, x.lastOut⟩),
      (0x18, ⟨true, .ro, x.gaps % 2 ^ 32 + x.longestGapUs % 2 ^ 32 * 2 ^ 32⟩), (0x20, ⟨true, .ro, x.gapLastMc⟩), (0x28, ⟨true, .ro, x.gapLastNs⟩),
      (0x30, ⟨true, .ro, x.peak % 2 ^ 14⟩), (0x38, ⟨true, .ro, x.fades % 2 ^ 32 + x.replaced % 2 ^ 32 * 2 ^ 32⟩), (0x40, ⟨true, .ro, x.outDrops⟩)] off
  else if c % 6 < 3 || off < 0x80 then none
  else match (tapOf s (c / 6)).phases[c % 6 - 3]? with
    | some p => match (latchRegs p.latch)[(off - 0x80) / 8]? with
      | some v => some ⟨true, .ro, v⟩
      | none => none
    | none => none

def mtapRow (s : State) (t off : Nat) : Option RegRow :=
  let x := tapOf s t
  rowAt [(0x00, ⟨true, .ro, b2n x.enabled + trackCode (trackNow s t) * 2 + prmN s .tapTrackSrc t * 16⟩), (0x08, ⟨true, .ro, x.periodNs % 2 ^ 32⟩),
    (0x10, ⟨true, .ro, x.ratio % 2 ^ 32⟩), (0x18, ⟨true, .ro, prmN s .tapVLsb t + prmN s .tapILsb t * 2 ^ 32⟩),
    (0x20, ⟨false, .rw, x.intEnable.toNat⟩)] off

def mglobRow (s : State) (off : Nat) : Option RegRow := rowAt [(0, ⟨true, .ro, sampleCnt s⟩), (8, ⟨true, .ro, s.metro.anchorMc⟩)] off

def storeRow (s : State) (off : Nat) : Option RegRow :=
  if off = 0 then some ⟨true, .w1c, storeStatusReg s⟩
  else if off = 0x70 then some ⟨false, .rw, s.store.intEnable.toNat * 2 ^ 8⟩
  else (((storeRegs s).map Prod.fst)[off / 8]?).map (fun v => ⟨true, .ro, v⟩)

/-- The record of a window slot, by its 64-bit words (R357). -/
def windowWord (s : State) (fn : Fin 2) (off : Nat) : Nat :=
  let base := (if fn = 0 then s.recd.winBase0 else s.recd.winBase1).toNat
  let q := base + off / 64
  let seq := if q < 2 ^ 32 then q else q - 2 ^ 32 + 4096
  match s.recd.held.get? seq with
  | some x => ((bodyBytes (recImage seq x)).drop (off % 64)).take 8 |>.foldr (fun b a => b + 256 * a) 0
  | none => 0

/-- The recorder and its window. -/
def recRow (s : State) (fn : Fin 2) (off : Nat) : Option RegRow :=
  if 0x1000 ≤ off then some ⟨true, .ro, windowWord s fn (off - 0x1000)⟩
  else rowAt [(0x00, ⟨true, .w1c, recStatusReg s⟩), (0x08, ⟨true, .ro, recHeadReg s⟩), (0x10, ⟨true, .ro, oldestSeq s.recd⟩),
    (0x18, ⟨true, .ro, recCapacityReg s⟩), (0x20, ⟨true, .ro, recRetiredReg s⟩), (0x28, ⟨true, .ro, s.recd.suppressed⟩),
    (0x30, ⟨true, .rw, (if fn = 0 then s.recd.winBase0 else s.recd.winBase1).toNat⟩), (0x38, ⟨false, .rw, s.recd.intEnable.toNat * 2 ^ 8⟩)] off

def pairRow (s : State) (off : Nat) : Option RegRow :=
  if off = 0 then some ⟨true, .w1c, pairStatusReg s⟩
  else if off = 0x50 then some ⟨false, .rw, s.pair.intEnable.toNat * 2 ^ 8⟩
  else ((pairRegs s)[off / 8]?).map (fun v => ⟨true, .ro, v⟩)

/-- Domains that POWER_DOMAIN_SET may switch now (R489). -/
def switchable (s : State) (d : Nat) : Bool :=
  match d with
  | 4 => s.p.graph.isNone
  | 10 => (List.range 16).all (fun n => prm s .plcMode (plcLp n) = 0)
  | 11 => (List.range 4).all (fun n => prm s .rfMode n = 0)
  | 12 => true
  | _ => false

def clkStatus (s : State) : Nat :=
  b2n s.boot.refclk + bitAt s.boot.pllLocked 1 + bitAt s.boot.pcieRef 2 + bitAt s.boot.serdesRef 3 + bitAt s.boot.xtal 4 +
  s.boot.iqclk.toNat * 2 ^ 8

/-- Power and clock control (R504). -/
def powerRow (s : State) (off : Nat) : Option RegRow :=
  let b := s.boot
  rowAt [(0x00, ⟨true, .ro, b.domains.toNat + ((List.range 14).map (fun d => bitAt (switchable s d) (16 + d))).sum⟩), (0x08, ⟨false, .ro, b.rails.toNat⟩),
    (0x10, ⟨false, .w1c, b.railEvents.toNat⟩),
    (0x18, ⟨false, .ro, b2n b.pfw + b.pfwStep * 2 + bitAt b.cleanSet 4 + b.pfwMc % 2 ^ 32 * 2 ^ 32⟩), (0x20, ⟨true, .ro, clkStatus s⟩),
    (0x28, ⟨true, .ro, ((b.temps.zip [0, 16, 32, 48]).map (fun e => encS 2 e.1 * 2 ^ e.2)).sum⟩), (0x30, ⟨true, .ro, b.powerMw % 2 ^ 32⟩)] off

def wkeyWord (t : Tbl WKey) (i : Nat) : Nat :=
  match t.get? i with | some k => k.handle.toNat + k.gen.toNat * 2 ^ 32 + 2 ^ 40 | none => 0

/-- Key status. -/
def keysRow (s : State) (off : Nat) : Option RegRow :=
  if 0x50 ≤ off && off < 0x80 then some ⟨true, .ro, s.vault.bmr / 2 ^ (8 * (off - 0x50)) % 2 ^ 64⟩
  else if 0x100 ≤ off && off < 0x180 then some ⟨false, .ro, wkeyWord s.keys.lanes ((off - 0x100) / 8)⟩
  else if 0x180 ≤ off && off < 0x1A0 then some ⟨false, .ro, wkeyWord s.keys.pkes ((off - 0x180) / 8)⟩
  else rowAt [(0x00, ⟨true, .ro, ksStatus s⟩), (0x08, ⟨true, .ro, s.vault.counters.getD 0 0⟩), (0x10, ⟨false, .ro, s.keys.rewrapCursor⟩),
    (0x18, ⟨false, .ro, s.vault.fuses.toNat⟩), (0x20, ⟨false, .ro, s.vault.tamperCause.toNat⟩), (0x28, ⟨false, .ro, poolUsed s⟩),
    (0x30, ⟨false, .ro, s.quar.length⟩), (0x38, ⟨false, .ro, s.keys.quarDropped⟩), (0x40, ⟨false, .ro, s.keys.attrFail⟩),
    (0x48, ⟨false, .ro, s.keys.revoked⟩), (0x1A0, ⟨false, .ro, s.keys.loads⟩), (0x1A8, ⟨false, .ro, s.keys.hits⟩)] off

/-- The power domain of a place that POWER_DOMAIN_SET may switch. -/
def placeDomain : Block → Option Nat
  | .plc _ | .det _ => some pdPlc
  | .rf _ => some pdRf
  | .mch _ | .mtap _ | .mglob => some pdMetro
  | _ => none

/-- What the registers of a place show: those of a domain that is off read as their Reset values (R512). -/
def domainView (s : State) (b : Block) : State :=
  match placeDomain b with
  | some d =>
    if domainOn s d then s
    else { s with plc := {}, rf := {}, metro := { anchorMc := s.time.mc }, p := { s.p with params := [] } }
  | none => s

/-- The register at a place, as a function finds it; none where the offset is undecoded (R437, R493). -/
def regRow (s0 : State) (fn : Fin 2) (p : BarPlace) : Option RegRow :=
  let s := domainView s0 p.block
  match p.block with
  | .gctl => gctlRow s fn p.off
  | .mbox m => mboxRow s fn m p.off
  | .int => intRow s fn p.off
  | .time => timeRow s fn p.off
  | .err => errRow s p.off
  | .dma n => dmaRow s n p.off
  | .queue q => queueRow s fn q p.off
  | .pool => poolRow s p.off
  | .qport q => qportRow s q p.off
  | .sched => schedRow s p.off
  | .eth x => ethRow s x p.off
  | .plc n => plcRow s n p.off
  | .det d => detRow s d p.off
  | .rf n => rfRow s n p.off
  | .mch c => mchRow s c p.off
  | .mtap t => mtapRow s t p.off
  | .mglob => mglobRow s p.off
  | .store => storeRow s p.off
  | .recd => recRow s fn p.off
  | .pair => pairRow s p.off
  | .power => powerRow s p.off
  | .keys => keysRow s p.off

/-! ### Judging an access (R437, R438, R458) -/

/-- The register an access reaches, or the kind of its violation. Undecoded comes first, then a world mismatch, then misalignment, then a
write to what is read-only. -/
def regAccess (s : State) (fn : Fin 2) (a size : Nat) (wr : Bool) : Except Nat (BarPlace × RegRow) :=
  match barPlace a with
  | none => .error 1
  | some p =>
    match regRow s fn p with
    | none => .error 1
    | some r =>
      if fn = 1 && !r.pf1 then .error 2
      else if misaligned p a size then .error 4
      else if wr && (r.acc = .ro || r.acc = .rc) then .error 3
      else .ok (p, r)

/-- What a read returns. -/
def barRead (s : State) (fn : Fin 2) (a size : Nat) : Option Nat :=
  match regAccess s fn a size false with
  | .ok (_, r) => some (if size = 8 then r.val % 2 ^ 64 else if a % 8 = 4 then
      (match (if fn = 0 then s.reg.shadow0 else s.reg.shadow1) with
       | some x => if x.offset + 4 = a then x.high.toNat else r.val / 2 ^ 32 % 2 ^ 32
       | none => r.val / 2 ^ 32 % 2 ^ 32)
    else r.val % 2 ^ 32)
  | .error _ => none

/-- What a read does (R494): an RC register clears by its low half or whole; a read of the low half of a register that is not RW latches the
high half. -/
def readEff (fn : Fin 2) (a size : Nat) (s : State) : State :=
  match regAccess s fn a size false with
  | .error k => violRead s fn a size k
  | .ok (p, r) =>
    match p.block, p.off with
    | .qport q, 0x18 => qPopEff fn q s
    | .queue q, 0x18 => if a % 8 = 4 then s else peakCellsReadEff fn q (size = 8) s
    | _, _ =>
      if size = 4 && a % 8 = 0 && (r.acc = .ro || r.acc = .rc || r.acc = .w1c) then shadowSet s fn ⟨a, BitVec.ofNat 32 (r.val / 2 ^ 32)⟩ else s

/-- PCIE_READ_VIOLATION (R458): any read is judged; one that is no violation does what a read does. -/
def execPcieReadViolation (fn : Fin 2) (offset size : Nat) (s : State) : Host.Outcome State Fault Refusal :=
  if barSize ≤ offset then .fault .outsideBar0
  else finish s (if alive s then readEff fn offset size (acc s fn) else s)

/-- SHADOW_HALF_READ (R494). -/
def execShadowHalfRead (fn : Fin 2) (offset : Nat) (s : State) : Host.Outcome State Fault Refusal :=
  if barSize ≤ offset then .fault .outsideBar0
  else finish s (if alive s then readEff fn offset 4 (acc s fn) else s)

/-! ### Writes -/

/-- A condition that a write has brought about raises its source. -/
def condRaise (src : Nat) (old s : State) : State :=
  if !intCond old src && intCond s src then { s with irq := irqRaise s.irq src } else s

/-- Clear pending bits; a bit whose condition still holds sets again at once (R441). -/
def pendClear (s : State) (fn : Fin 2) (lo : Nat) (mask : Word64) : State :=
  let hit := BitVec.ofNat 128 ((mask.toNat &&& routedTo s fn lo) * 2 ^ lo) &&& s.irq.pend
  let s1 := { s with irq := { s.irq with pend := s.irq.pend &&& ~~~hit } }
  (List.range 64).foldl (fun t i => if hit.getLsbD (lo + i) && intCond t (lo + i) then { t with irq := irqRaise t.irq (lo + i) } else t) s1

/-- Clear bits of INT_QPEND that the function sees. -/
def qpendClear (s : State) (fn : Fin 2) (g : Nat) (mask : Word64) : State :=
  let hit := BitVec.ofNat 32 (mask.toNat &&& groupSees s fn g)
  { s with irq := { s.irq with qpend := s.irq.qpend.set g (s.irq.qpend.getD g 0 &&& ~~~hit) } }

/-- INT_PEND_CLEAR: registers 0 and 1 are INT_PEND_LO and INT_PEND_HI, 2 + g is INT_QPEND_g. -/
def intPendClearEff (fn : Fin 2) (which : Fin 66) (mask : Word64) (s : State) : State :=
  match which.val with
  | 0 => pendClear s fn 0 mask
  | 1 => pendClear s fn 64 mask
  | w => qpendClear s fn (w - 2) mask

def execIntPendClear (fn : Fin 2) (which : Fin 66) (mask : Word64) (s : State) : Host.Outcome State Fault Refusal :=
  finish s (if alive s then intPendClearEff fn which mask (acc s fn) else s)

/-- Sources that may be routed to PF1. -/
def pf1Source (i : Nat) : Bool := i == 1 || i == 8 || (60 ≤ i && i ≤ 63) || 64 ≤ i

/-- INT_ROUTE: a FUNC that R441 refuses stays, and is a world mismatch. -/
def routeWrite (s : State) (fn : Fin 2) (a size i : Nat) (n : Word64) : State :=
  let f : Fin 2 := if n.getLsbD 8 then 1 else 0
  let bad := f = 1 && !pf1Source i
  let r : Route := ⟨n.getLsbD 9, if bad then (routeOf s.irq i).func else f, bitsAt n 0 6⟩
  let s1 := { s with irq := { s.irq with routes := s.irq.routes.set i r } }
  if bad then violWrite s1 fn a size 2 else s1

/-- MSI-X table: an entry unmasked sends what was held. -/
def msixWrite (s : State) (fn : Fin 2) (e : Nat) (high : Bool) (n : Word64) : State :=
  let k := 64 * fn.val + e
  let x := s.irq.msix.getD k {}
  let y : MsixEntry := if high then { x with data := BitVec.ofNat 32 n.toNat, mask := n.getLsbD 32 } else { x with addr := n }
  let i := { s.irq with msix := s.irq.msix.set k y }
  if x.mask && !y.mask && (i.pba.get? k).isSome then { s with irq := msixSend { i with pba := i.pba.erase k } fn e } else { s with irq := i }

def intWrite (s : State) (fn : Fin 2) (a size off : Nat) (n m w : Word64) : State :=
  if off = 0 then { s with irq := { s.irq with globalEn := n.getLsbD 0 } }
  else if off = 0x10 then pendClear s fn 0 w
  else if off = 0x18 then pendClear s fn 64 w
  else if off < 0x500 then (if m.getLsbD 0 then routeWrite s fn a size ((off - 0x100) / 8) n else s)
  else if off < 0x1200 then qpendClear s fn ((off - 0x1000) / 8) w
  else msixWrite s fn ((off - 0x8000) / 16) (off % 16 = 8) n

def mboxWrite (s : State) (fn : Fin 2) (m off : Nat) (n k w : Word64) : State :=
  let i := toFin 8 m (by decide)
  let b := boxOf s.mb m
  match off with
  | 0x00 =>
    let s1 := { s with mb := mbSet s.mb m { b with intRsp := n.getLsbD 1, intEvt := n.getLsbD 2 } }
    if n.getLsbD 0 && !b.enable then mbEnableEff fn i s1 else if !n.getLsbD 0 && b.enable then mbDisableEff fn i s1 else s1
  | 0x08 => { s with mb := mbSet s.mb m { b with
      evtDropped := b.evtDropped && !w.getLsbD 8, rspDiscarded := b.rspDiscarded && !w.getLsbD 9
      badRequest := b.badRequest && !w.getLsbD 10 } }
  | 0x10 => { s with mb := mbSet s.mb m { b with reqBase := n } }
  | 0x18 => { s with mb := mbSet s.mb m { b with rspBase := n } }
  | 0x20 => { s with mb := mbSet s.mb m { b with evtBase := n } }
  | 0x28 => if k.getLsbD 0 then mbDoorbellEff fn i (w.setWidth 32) .plain s else s
  | 0x40 => if k.getLsbD 0 then mbRspTailEff fn i (w.setWidth 32) s else s
  | 0x50 => if k.getLsbD 0 then mbEvtTailEff fn i (w.setWidth 32) s else s
  | _ => s

def partOf (a size : Nat) : RegPart := if size = 8 then .full else if a % 8 = 4 then .high else .low

def timeWrite (s : State) (fn : Fin 2) (a size off : Nat) (v n k : Word64) : State :=
  if 0x100 ≤ off then
    let i := (off - 0x100) / 8
    { s with time := { s.time with trim := s.time.trim.set (i / 2 + 4 * (i % 2)) (n.setWidth 16) } }
  else match off with
    | 0x00 => if k.getLsbD 0 then slewEnWriteEff fn v s else s
    | 0x50 => incrWriteEff fn 0 (partOf a size) v s
    | 0x58 => incrWriteEff fn 1 (partOf a size) v s
    | 0x60 => incrWriteEff fn 2 (partOf a size) v s
    | 0x68 => if size = 4 && a % 8 = 0 then adjLowWriteEff fn .a (v.setWidth 32) s else adjWriteEff fn .a (size = 4) v s
    | 0x70 => if size = 4 && a % 8 = 0 then adjLowWriteEff fn .b (v.setWidth 32) s else adjWriteEff fn .b (size = 4) v s
    | _ => s

def errWrite (s : State) (fn : Fin 2) (off : Nat) (n w : Word64) : State :=
  if off = 8 then condRaise 9 s { s with err := { s.err with intEnable := BitVec.ofNat 18 (bitsAt n 1 17 * 2) } }
  else if off % 0x40 = 8 && w.getLsbD 63 then firstInfoAckEff fn (toFin 18 (off / 0x40) (by decide)) s
  else s

/-- DMA_CTRL: options, then START, RESTART and ABORT. A host channel's descriptors lie in host memory. -/
def dmaCtrlWrite (s : State) (i : Nat) (n w : Word64) : State :=
  let s1 := condRaise (32 + i) s (dmaSet s i { dmaOf s i with relaxed := n.getLsbD 11, intFault := n.getLsbD 10 })
  let s2 := if w.getLsbD 0 then dmaStart i s1 else s1
  let s3 := if w.getLsbD 1 then dmaRestart i s2 else s2
  if w.getLsbD 2 then dmaAbort i s3 else s3

def dmaRegWrite (s : State) (i off : Nat) (n k w : Word64) : State :=
  let x := dmaOf s i
  match off with
  | 0x00 => dmaCtrlWrite s i n w
  | 0x08 => dmaSet s i { x with fault := x.fault && !w.getLsbD 8, done := x.done && !w.getLsbD 9 }
  | 0x10 => dmaSet s i { x with descAddr := n.toNat }
  | 0x18 => dmaCrBase i n.toNat s
  | 0x20 => if 4 ≤ bitsAt n 0 5 && bitsAt n 0 5 ≤ 16 then dmaSet s i { x with crSize := bitsAt n 0 5 } else s
  | 0x30 => if k.getLsbD 0 then dmaCrTail i (w.setWidth 32) s else s
  | _ => s

/-- Q_CTRL by its fields: of an ENGINE queue LATE_TOL alone is written, of a FREE queue OWNER alone (R417). -/
def qCtrlRegWrite (s : State) (fn : Fin 2) (q : Nat) (n : Word64) : State :=
  let x := qOf s q
  let tol := min (bitsAt n 32 20) 1000000
  if qEngine s q then { s with q := { s.q with qs := s.q.qs.set q { x with lateTol := tol } } }
  else if x.owner = .free then qOwnerSet s q (bitsAt n 4 2)
  else
    let y : Queue := { x with
      complEn := n.getLsbD 63, complQueue := bitsAt n 52 11, lateTol := tol, cap := bitsAt n 16 16, intNonempty := n.getLsbD 10
      intLevel := n.getLsbD 9, dropLate := n.getLsbD 8, launch := n.getLsbD 7 }
    let s1 := qPut s q y
    let s2 := if fn = 0 then qOwnerSet s1 q (bitsAt n 4 2) else s1
    let s3 := if n.getLsbD 1 then qFlushEff s2 q else s2
    qSettled (if n.getLsbD 0 && !x.enable then qEnableEff s3 q else if !n.getLsbD 0 && x.enable then qDisableEff s3 q else s3) q

def queueWrite (s : State) (fn : Fin 2) (q off : Nat) (n w : Word64) : State :=
  let x := qOf s q
  match off with
  | 0x00 => qCtrlRegWrite s fn q n
  | 0x08 => { s with q := { s.q with qs := s.q.qs.set q { x with
      underrun := x.underrun && !w.getLsbD 8, wrErr := x.wrErr && !w.getLsbD 9, lateDropped := x.lateDropped && !w.getLsbD 10
      complLost := x.complLost && !w.getLsbD 11, taken := x.taken && !w.getLsbD 12 } } }
  | 0x18 => { s with q := { s.q with qs := s.q.qs.set q { x with level := bitsAt n 32 16 } } }
  | _ => s

def qportRegWrite (s : State) (fn : Fin 2) (q off : Nat) (v : Word64) : State :=
  match off with
  | 0x00 => qPortWrite fn q 0 (fun s => qOpen s q fn.val) s
  | 0x08 => qPortWrite fn q 8 (fun s => qPush s q fn.val v.toNat) s
  | 0x10 => qPortWrite fn q 16 (fun s => qClose s q fn.val v.toNat) s
  | _ => s

def ethWrite (s : State) (x : Nat) (w : Word64) : State :=
  let p := ethPort s.eth x
  { s with eth := ethSet s.eth x { p with
      linkChange := p.linkChange && !w.getLsbD 8, fcsErr := p.fcsErr && !w.getLsbD 9, fecUncorr := p.fecUncorr && !w.getLsbD 10
      rxDropSt := p.rxDropSt && !w.getLsbD 11 } }

def plcWrite (s : State) (i off : Nat) (n w : Word64) : State :=
  let lp := plcLp i
  let x := plcPortOf s lp
  match off with
  | 0x08 => plcSet s lp { x with
      stBeaconFail := x.stBeaconFail && !w.getLsbD 8, stZoneDowngrade := x.stZoneDowngrade && !w.getLsbD 9
      stAdmitRefused := x.stAdmitRefused && !w.getLsbD 10, stRxSat := x.stRxSat && !w.getLsbD 11 }
  | 0x10 => plcSet s lp { x with rxLat := some n }
  | 0x18 => plcSet s lp { x with txLat := some n }
  | 0x70 => plcSet s lp { x with afeGain := some (BitVec.ofNat 64 (bitsAt n 0 6 + bitsAt n 8 6 * 256)) }
  | 0x78 => condRaise 10 s (plcSet s lp { x with intEnable := BitVec.ofNat 4 (bitsAt n 8 4) })
  | _ => s

def detWrite (s : State) (d : Nat) (n : Word64) : State :=
  { s with plc := detSet s.plc d { detOf s.plc d with latNs := n.setWidth 16 } }

def rfWrite (s : State) (i off : Nat) (n w : Word64) : State :=
  let x := rfPortOf s i
  match off with
  | 0x08 => rfSet s i { x with
      stRxSat := x.stRxSat && !w.getLsbD 8, stIqGap := x.stIqGap && !w.getLsbD 9, stAuthFail := x.stAuthFail && !w.getLsbD 10
      stDwell := x.stDwell && !w.getLsbD 11, stGuard := x.stGuard && !w.getLsbD 12 }
  | 0x10 => rfSet s i { x with rxLat := some n }
  | 0x18 => rfSet s i { x with txLat := some n }
  | 0x68 => rfSet s i { x with agcCode := n.setWidth 6, agcManual := n.getLsbD 8 }
  | 0x70 => condRaise 11 s (rfSet s i { x with intEnable := BitVec.ofNat 5 (bitsAt n 8 5) })
  | _ => s

def mchWrite (s : State) (c : Nat) (w : Word64) : State :=
  let x := chOf s c
  chSet s c { x with
    stGapSeen := x.stGapSeen && !w.getLsbD 32, stClip := x.stClip && !w.getLsbD 33, stSat := x.stSat && !w.getLsbD 34
    stSwapDone := x.stSwapDone && !w.getLsbD 35, stPendingReplaced := x.stPendingReplaced && !w.getLsbD 36 }

def storeWrite (s : State) (off : Nat) (n w : Word64) : State :=
  let x := s.store
  if off = 0 then { s with store := { x with
      stGcTargetFail := x.stGcTargetFail && !w.getLsbD 8, stBlockRetired := x.stBlockRetired && !w.getLsbD 9
      stParityRebuild := x.stParityRebuild && !w.getLsbD 10, stMediaError := x.stMediaError && !w.getLsbD 11
      stHolding := x.stHolding && !w.getLsbD 12, stBypass := x.stBypass && !w.getLsbD 13
      stCapacityShrunk := x.stCapacityShrunk && !w.getLsbD 14 } }
  else condRaise 13 s { s with store := { x with intEnable := BitVec.ofNat 7 (bitsAt n 8 7) } }

def recWrite (s : State) (fn : Fin 2) (off : Nat) (n w : Word64) : State :=
  let x := s.recd
  match off with
  | 0x00 => { s with recd := { x with
      stPageRetired := x.stPageRetired && !w.getLsbD 8, stHeartFault := x.stHeartFault && !w.getLsbD 9
      stSuppressed := x.stSuppressed && !w.getLsbD 10, stMarkMoved := x.stMarkMoved && !w.getLsbD 11 } }
  | 0x30 => { s with recd := if fn = 0 then { x with winBase0 := n.setWidth 32 } else { x with winBase1 := n.setWidth 32 } }
  | _ => condRaise 14 s { s with recd := { x with intEnable := BitVec.ofNat 4 (bitsAt n 8 4) } }

def pairWrite (s : State) (off : Nat) (n w : Word64) : State :=
  let x := s.pair
  if off = 0 then { s with pair := { x with
      peerLost := x.peerLost && !w.getLsbD 8, linkLost := x.linkLost && !w.getLsbD 9, pinLost := x.pinLost && !w.getLsbD 10
      digestMismatch := x.digestMismatch && !w.getLsbD 11, takeover := x.takeover && !w.getLsbD 12
      swapReverted := x.swapReverted && !w.getLsbD 13 } }
  else condRaise 15 s { s with pair := { x with intEnable := BitVec.ofNat 6 (bitsAt n 8 6) } }

/-- What a write of a register that takes writes does: `v` as written, `n` the register with the written bits in place, `m` the bits the
access reaches, `w` the written bits among them. -/
def placeWrite (s : State) (fn : Fin 2) (a size : Nat) (p : BarPlace) (v n m w : Word64) : State :=
  match p.block with
  | .gctl => { s with reg := if fn = 0 then { s.reg with scratch0 := n } else { s.reg with scratch1 := n } }
  | .mbox i => mboxWrite s fn i p.off n m w
  | .int => intWrite s fn a size p.off n m w
  | .time => timeWrite s fn a size p.off v n m
  | .err => errWrite s fn p.off n w
  | .dma i => dmaRegWrite s i p.off n m w
  | .queue q => queueWrite s fn q p.off n w
  | .qport q => qportRegWrite s fn q p.off v
  | .eth x => ethWrite s x w
  | .plc i => plcWrite s i p.off n w
  | .det d => detWrite s d n
  | .rf i => rfWrite s i p.off n w
  | .mch c => mchWrite s c w
  | .mtap t => condRaise 12 s (tapSet s t { tapOf s t with intEnable := n.setWidth 6 })
  | .store => storeWrite s p.off n w
  | .recd => recWrite s fn p.off n w
  | .pair => pairWrite s p.off n w
  | .power => { s with boot := { s.boot with railEvents := s.boot.railEvents &&& ~~~(w.setWidth 13) } }
  | .pool | .sched | .mglob | .keys => s

/-- A write to BAR0. -/
def regWriteEff (fn : Fin 2) (a size : Nat) (v : Word64) (s : State) : State :=
  match regAccess s fn a size true with
  | .error k => violWrite s fn a size k
  | .ok (p, r) => placeWrite s fn a size p v (mergeReg (BitVec.ofNat 64 r.val) (maskOfAcc a size) (laneOfAcc a size v)) (maskOfAcc a size) (laneOfAcc a size v)

/-- REGISTER_WRITE (R493). -/
def execRegisterWrite (fn : Fin 2) (offset size : Nat) (value : Word64) (s : State) : Host.Outcome State Fault Refusal :=
  if barSize ≤ offset then .fault .outsideBar0
  else finish s (if alive s then regWriteEff fn offset size value (acc s fn) else s)

end Sys2Proof.Machine
end

