-- ==== Sys2Proof/Machine/Device.lean ====
section
/-! DEFINITION. The device commands (R468, R471 to R473), exports (R488, R489, R491), power domains (R489, R512), diagnostics (R488,
R489) and the die temperatures (R523). -/

namespace Sys2Proof.Machine
open Sys2Proof

/-! ### GET_IDENTITY, GET_CAPS, GET_HEALTH -/

def ciIdentity (code : Nat) : CmdInfo := { code := code, plain := 0x73, roles := 0x1F, hold := code ≠ 0x0102 }

def devicePart : String := "SK-9808-FB47"

/-- PART_VERSION of the parts of codes 1 to 8 (R367). -/
def partVersions (s : State) : Body :=
  [1, 2, 3, 4, 5, 6, 7, 8].map (fun c => (match s.upd.run.parts.get? c with | some p => p.version | none => 0, 4))

def getIdentity (s : State) : Reply :=
  ⟨s, .ok, [(s.vault.deviceId.toNat, 16), (asciiNat devicePart, 12), (0xC0, 1), (lifeCode s.vault.life, 1), (0, 2), (s.vault.bmr, 48),
    (s.vault.counters.getD 9 0, 8), (s.vault.counters.getD 0 0, 4), (handoverNow s, 2), (0, 2)] ++ partVersions s, []⟩

def execGetIdentity (r : Req) (s : State) : Host.Outcome State Fault Refusal := finish s (gmi (ciIdentity 0x0101) r getIdentity s)

/-- The counts of GET_CAPS, in its order. -/
def capsList : List Nat :=
  [1048576, 16384, 64, 16, 4, 1024, 64, 8, 16, 4, 1024, 2048, 2048, 65536, 32, 96, 4096, 64, 8, 8]

def getCaps (s : State) : Reply := ⟨s, .ok, capsList.map (fun v => (v, 4)), []⟩

def execGetCaps (r : Req) (s : State) : Host.Outcome State Fault Refusal := finish s (gmi (ciIdentity 0x0102) r getCaps s)

/-- The status words of GET_HEALTH. -/
def healthWords (s : State) : List Nat :=
  [causeWord s.vault, s.pair.health.toNat, errSummary s, ksStatus s, timeState s, storeStatusReg s, recStatusReg s, schedStatus s]

def getHealth (s : State) : Reply :=
  ⟨s, .ok, (healthWords s).map (fun v => (v % 2 ^ 32, 4)) ++
    [(pairRoleCode s.pair.role, 1), (0, 3), (s.vault.opSeconds, 4), (s.vault.powerCycles, 4), (s.vault.tick, 8)], []⟩

def execGetHealth (r : Req) (s : State) : Host.Outcome State Fault Refusal := finish s (gmi (ciIdentity 0x0103) r getHealth s)

/-! ### Parameters (R468, R471, R472) -/

def ciSetParam : CmdInfo := { code := 0x0104, plain := 0x43, states := 0x0E, c := true, pflag := true }

/-- A change of metrology is judged with its channel's own conditions. -/
def acceptParam (s : State) (id : ParamId) (v : PVal) : Option State :=
  if (metroTap id).isSome then acceptMetro s [(id, v)] else acceptParams s (graphBudget s) [(id, v)]

/-- SET_PARAM, judged in the order of R472; a change of replicated state needs the ACTIVE role. -/
def setParam (r : Req) (p : ParamArg) (s : State) : Reply :=
  match p.name with
  | none => deny s .badParam
  | some id =>
    if pCount id.key ≤ id.idx then deny s .badParam
    else if pReplicated id.key && notActive s then deny s .notActive
    else if !pSettable id.key id.idx r.mb.val s.vault.life s.pair.modePair then deny s .notPermitted
    else match acceptParam s id p.value with
      | some s1 => ⟨s1, .ok, [], []⟩
      | none => deny s .badParam

def execSetParam (r : Req) (p : ParamArg) (s : State) : Host.Outcome State Fault Refusal := finish s (gmi ciSetParam r (setParam r p) s)

/-- The value of a parameter in force; the read-only statistics are read where they are kept. -/
def paramNow (s : State) (id : ParamId) : Int :=
  match id.key with
  | .valStatDup => s.val.duplicates
  | .valStatUnm => s.val.unmatched
  | .valStatRef => s.val.refused
  | .valStatEvict => s.val.evicted
  | .balStatUnattr => s.bal.unattributed
  | .balStatMismatch => s.bal.mismatch
  | .balStatIgnored => s.bal.ignored
  | .balStatLate => s.bal.lateBeyond
  | .balStatStale => s.bal.topoStale
  | _ => prm s id.key id.idx

/-- Bytes a number needs, at most `n`. -/
def byteCount : Nat → Nat → Nat
  | 0, _ => 0
  | n + 1, v => if v = 0 then 0 else 1 + byteCount n (v / 256)

/-- Bytes of a BYTES value: an address or DEVICE_ID takes 16, a certificate chain its own; an empty one none. -/
def bytesLen (k : ParamKey) (v : Int) : Nat :=
  if v < 0 then 0 else if k = .tlsCertChain then byteCount 65535 v.toNat else 16

/-- Fill to a multiple of 4. -/
def padTo4 (n : Nat) : Nat × Nat := (0, (4 - n % 4) % 4)

/-- TYPE, bytes and contents of a VALUE. -/
def paramValue (s : State) (id : ParamId) : Nat × Nat × Nat :=
  let v := paramNow s id
  if id.key = .chOutQueue && v = -1 then (2, 4, asciiNat "NONE")
  else match pType id.key with
    | .integer => (1, 8, encS 8 v)
    | .decimal => (3, 8, encS 8 v)
    | .token => let t := ((tokensOf id.key)[v.toNat]?).getD ""
                (2, asciiLen t, asciiNat t)
    | .bytes => (4, bytesLen id.key v, v.toNat)

/-- A PARAM. -/
def paramBody (s : State) (id : ParamId) : Body :=
  let n := paramName id
  let v := paramValue s id
  [(asciiLen n, 1), (v.1, 1), (v.2.1, 2), (asciiNat n, asciiLen n), padTo4 (asciiLen n), (v.2.2, v.2.1), padTo4 v.2.1]

def ciGetParam : CmdInfo := { code := 0x0105, plain := 0x63, roles := 0x05, states := 0x0E }

/-- GET_PARAM. -/
def getParam (name : Option ParamId) (s : State) : Reply :=
  match name with
  | none => deny s .badParam
  | some id => if pCount id.key ≤ id.idx then deny s .badParam else ⟨s, .ok, paramBody s id, []⟩

def execGetParam (r : Req) (name : Option ParamId) (s : State) : Host.Outcome State Fault Refusal :=
  finish s (gmi ciGetParam r (getParam name) s)

/-! ### RESET_ENGINE (R465, R473, R519) -/

def ciResetEngine : CmdInfo := { code := 0x0106, plain := 0x41, hold := true }

/-- RESET_ENGINE is answered; CLEAR_HOLD clears DF_COUNT. -/
def resetEngine (flags : Word32) (s : State) : Reply :=
  if 1 < flags.toNat then deny s .badParam
  else
    let v := if flags = 1 then { s.vault with dfHistory := [], dfCount := 0 } else s.vault
    ⟨{ s with vault := v, boot := { s.boot with resetDue := true } }, .ok, [], []⟩

/-- Once the response is written, the shutdown runs and the engine resets. -/
def resetIfDue (closeDone stagingDone : Bool) (s : State) : State :=
  if s.boot.resetDue then warmReset 3 (shutdownEff closeDone stagingDone s) else s

/-- RESET_ENGINE. `closeDone`, `stagingDone`: steps 2 and 3 of the shutdown ended within their time. -/
def execResetEngine (r : Req) (flags : Word32) (closeDone stagingDone : Bool) (s : State) : Host.Outcome State Fault Refusal :=
  finish s (if running s then resetIfDue closeDone stagingDone (gmi ciResetEngine r (resetEngine flags) s) else s)

/-! ### Exports (R488, R489, R491) -/

def ciExportOpen : CmdInfo := { code := 0x0E01, plain := 0, roles := 0x07, states := 0x04 }

/-- EXPORT_OPEN: one export to a session. -/
def exportOpen (r : Req) (classes mode mcxLo mcxHi winFrom winTo : Nat) (s : State) : Reply :=
  if 31 < classes || 2 < mode then deny s .badParam
  else if s.mb.exports.any (fun e => decide (e.2.sess = r.sess)) then deny s .noResource
  else match s.mb.tls.get? r.sess with
    | none => deny s .noResource
    | some t =>
      let k := s.mb.nextExport
      let e : ExportSt := { sess := r.sess, port := t.port, classes := BitVec.ofNat 5 classes, mode := mode, mcxLo := mcxLo, mcxHi := mcxHi
                            winFrom := winFrom, winTo := winTo, bulkWindow := winFrom }
      ⟨{ s with mb := { s.mb with exports := s.mb.exports.set k e, nextExport := (k + 1) % 0xFFFFFFFF } }, .ok, [(k, 4)], []⟩

def execExportOpen (r : Req) (classes mode : BitVec 8) (mcxLo mcxHi winFrom winTo : Word32) (s : State) :
    Host.Outcome State Fault Refusal :=
  finish s (gmi ciExportOpen r (exportOpen r classes.toNat mode.toNat mcxLo.toNat mcxHi.toNat winFrom.toNat winTo.toNat) s)

def ciExportClose : CmdInfo := { code := 0x0E02, plain := 0, roles := 0x07, states := 0x04 }

/-- EXPORT_CLOSE of the session's own export. LAST_SEQ of an export that sent nothing is not stated. -/
def exportClose (r : Req) (k : Nat) (s : State) : Reply :=
  match s.mb.exports.get? k with
  | none => deny s .badParam
  | some e =>
    if e.sess ≠ r.sess then deny s .notPermitted
    else
      let s1 := { s with mb := { s.mb with exports := s.mb.exports.erase k } }
      if e.seq = 0 then ⟨{ s1 with freeCtr := s.freeCtr + 1 }, .ok, [(Config.freeValue s.freeCtr % 2 ^ 64, 8)], []⟩
      else ⟨s1, .ok, [(e.seq - 1, 8)], []⟩

def execExportClose (r : Req) (id : Word32) (s : State) : Host.Outcome State Fault Refusal :=
  finish s (gmi ciExportClose r (exportClose r id.toNat) s)

def ciExportStatus : CmdInfo := { code := 0x0E03, plain := 0x03, roles := 0x1F, states := 0x04 }

def exportEntry (k : Nat) (e : ExportSt) : Body :=
  [(k, 4), (e.port.val, 1), (e.mode, 1), (0, 2), (e.sent % 2 ^ 64, 8), (e.bypassed % 2 ^ 64, 8), (e.stalledMs % 2 ^ 32, 4), (e.bulkWindow, 4)]

/-- EXPORT_STATUS of one export or of all. -/
def exportStatus (k : Nat) (s : State) : Reply :=
  if k = 0xFFFFFFFF then
    ⟨s, .ok, (s.mb.exports.length, 4) :: (s.mb.exports.map (fun e => exportEntry e.1 e.2)).flatten, []⟩
  else match s.mb.exports.get? k with
    | none => deny s .badParam
    | some e => ⟨s, .ok, (1, 4) :: exportEntry k e, []⟩

def execExportStatus (r : Req) (id : Word32) (s : State) : Host.Outcome State Fault Refusal :=
  finish s (gmi ciExportStatus r (exportStatus id.toNat) s)

/-! ### POWER_DOMAIN_SET (R280, R489, R512) -/

/-- PD_METRO goes off: the channels of enabled taps miss their samples from now on, and the domain's registers are lost. -/
def metroOff (s : State) : State :=
  let s1 := (List.range 16).foldl (fun s t =>
    if (tapOf s t).enabled then (channelsOf t).foldl (fun s c => enterGap s c s.time.mc) s else s) s
  { s1 with metro := { s1.metro with taps := s1.metro.taps.map (fun e => (e.1, { e.2 with phases := [{}, {}, {}], det := {}, open_ := false })) } }

/-- What a domain loses as it goes off. -/
def domainOff (d : Nat) (s : State) : State :=
  if d = pdPlc then
    { s with plc := { ports := s.plc.ports.filter (fun e => decide (e.1 < 4096)) } }
  else if d = pdRf then { s with rf := { s.rf with ports := [] } }
  else if d = pdMetro then metroOff s
  else s

/-- What the release of a domain starts (R50, R270). -/
def domainRelease (d : Nat) (s : State) : State :=
  if d = pdMetro then { s with metro := { s.metro with anchorMc := s.time.mc } } else s

def setDomain (d : Nat) (on : Bool) (s : State) : State :=
  let bit : BitVec 14 := BitVec.ofNat 14 (2 ^ d)
  if domainOn s d = on then s
  else if on then domainRelease d { s with boot := { s.boot with domains := s.boot.domains ||| bit } }
  else
    let s1 := domainOff d s
    { s1 with boot := { s1.boot with domains := s1.boot.domains &&& ~~~bit } }

def ciPowerDomainSet : CmdInfo := { code := 0x0F01, plain := 0x01, states := 0x0E }

/-- POWER_DOMAIN_SET. -/
def powerDomainSet (d on : Nat) (s : State) : Reply :=
  if 13 < d || 1 < on then deny s .badParam
  else if !switchable s d then deny s .notPermitted
  else ⟨setDomain d (on = 1) s, .ok, [], []⟩

def execPowerDomainSet (r : Req) (domain on : BitVec 8) (s : State) : Host.Outcome State Fault Refusal :=
  finish s (gmi ciPowerDomainSet r (powerDomainSet domain.toNat on.toNat) s)

/-! ### Diagnostics (R488, R489) -/

def ciDiagSelftest : CmdInfo := { code := 0x0F02, plain := 0x41, states := 0x0F, pflag := true, hold := true }

/-- DIAG_SELFTEST. -/
def diagSelftest (scope : Word32) (s : State) : Reply := if 127 < scope.toNat then deny s .badParam else ⟨s, .pending, [], []⟩

def execDiagSelftest (r : Req) (scope : Word32) (s : State) : Host.Outcome State Fault Refusal :=
  finish s (gmi ciDiagSelftest r (diagSelftest scope) s)

def diagEntry (e : DiagEntry) : Body :=
  [(e.loc.toNat, 6), (e.kind.toNat, 1), (e.cls.toNat, 1), (stCode e.code, 2), (e.detail.toNat, 6)]

/-- DIAG_SELFTEST_DONE: the final event with what was found. -/
def execDiagSelftestDone (found : List DiagEntry) (s : State) : Host.Outcome State Fault Refusal :=
  finish s (if running s then emit1 s (.final 0x0F02 .ok ([(found.length, 2), (0, 2)] ++ (found.map diagEntry).flatten)) else s)

/-- An Ethernet port carries a session, a PTP domain or KCL. -/
def ethCarries (s : State) (x : Nat) : Bool :=
  s.mb.tls.any (fun e => decide (e.2.port.val = x)) ||
  [Dom.a, Dom.b].any (fun d => prm s .tdEnable (domIdx d) = 1 && decide (domPort s d = x)) ||
  (x = 3 && !s.p.cells.isEmpty)

/-- A loopback target and mode as the manual forms them. -/
def loopForm (target mode : Nat) : Bool :=
  if 0x800 ≤ target && target < 0x804 then mode = 0 || mode = 2
  else linkTypeOf target ≠ 0 && (mode = 0 || (mode = 1 && 1024 ≤ target))

/-- The target is idle. -/
def loopIdle (s : State) (target : Nat) : Bool :=
  if 0x800 ≤ target then !ethCarries s (target - 0x800)
  else if target < 1024 then (s.p.cells.get? target).isNone
  else linkState s target = 0

def ciDiagLoopback : CmdInfo := { code := 0x0F03, plain := 0x41, states := 0x0E, pflag := true }

/-- DIAG_LOOPBACK. -/
def diagLoopback (target mode : Nat) (s : State) : Reply :=
  if !loopForm target mode then deny s .badParam
  else if !loopIdle s target then deny s .notPermitted
  else ⟨s, .pending, [], []⟩

def execDiagLoopback (r : Req) (target : Word16) (mode : BitVec 8) (_frames : Word32) (s : State) : Host.Outcome State Fault Refusal :=
  finish s (gmi ciDiagLoopback r (diagLoopback target.toNat mode.toNat) s)

/-- DIAG_LOOPBACK_DONE: the final event with the counts. -/
def execDiagLoopbackDone (sent received errors maxLat : Word32) (s : State) : Host.Outcome State Fault Refusal :=
  finish s (if running s then
    emit1 s (.final 0x0F03 .ok [(sent.toNat, 4), (received.toNat, 4), (errors.toNat, 4), (maxLat.toNat, 4)]) else s)

/-! ### ALERT_N (R523) -/

/-- DIE_TEMPERATURE_ALERT: a die's sensor passes 105 °C, up or down. -/
def execDieTemperatureAlert (die : Fin 4) (hot : Bool) (s : State) : Host.Outcome State Fault Refusal :=
  let bit : BitVec 4 := BitVec.ofNat 4 (2 ^ die.val)
  finish s (if s.boot.powered then
    { s with boot := { s.boot with hot := if hot then s.boot.hot ||| bit else s.boot.hot &&& ~~~bit } } else s)

end Sys2Proof.Machine
end

