-- ==== Sys2Proof/Machine/Dispatch.lean ====
section
/-! DEFINITION. One arm per command: a direct call of its meaning. -/

namespace Sys2Proof.Machine

/-- What a command does to the block (everything but the queue). -/
def exec (i : Instr) (s : State) : Host.Outcome State Fault Refusal :=
  match i with
  | .powerOn recOk rom => Sys2Proof.Machine.execPowerOn recOk rom s
  | .wardenBoot loader => Sys2Proof.Machine.execWardenBoot loader s
  | .mailboxReady gamokor microcode => Sys2Proof.Machine.execMailboxReady gamokor microcode s
  | .storeRestart badPage => Sys2Proof.Machine.execStoreRestart badPage s
  | .fullService => Sys2Proof.Machine.execFullService s
  | .pfwNFall closeDone stagingDone => Sys2Proof.Machine.execPfwNFall closeDone stagingDone s
  | .pfwNReturn => Sys2Proof.Machine.execPfwNReturn s
  | .refclkLoss closeDone stagingDone => Sys2Proof.Machine.execRefclkLoss closeDone stagingDone s
  | .supplyExcursion supply closeDone stagingDone => Sys2Proof.Machine.execSupplyExcursion supply closeDone stagingDone s
  | .rstN => Sys2Proof.Machine.execRstN s
  | .perstN => Sys2Proof.Machine.execPerstN s
  | .functionLevelReset fn => Sys2Proof.Machine.execFunctionLevelReset fn s
  | .tamperTrip monitor => Sys2Proof.Machine.execTamperTrip monitor s
  | .vaultWatchdog => Sys2Proof.Machine.execVaultWatchdog s
  | .bootFailure => Sys2Proof.Machine.execBootFailure s
  | .hardwareError e => Sys2Proof.Machine.execHardwareError e s
  | .handlerWatchdog pc => Sys2Proof.Machine.execHandlerWatchdog pc s
  | .doubleFault memory pc => Sys2Proof.Machine.execDoubleFault memory pc s
  | .idlePairError memory pc => Sys2Proof.Machine.execIdlePairError memory pc s
  | .pairSelftestDone pairB pass => Sys2Proof.Machine.execPairSelftestDone pairB pass s
  | .firstInfoAck fn cls => Sys2Proof.Machine.execFirstInfoAck fn cls s
  | .tickBoundary latch => Sys2Proof.Machine.execTickBoundary latch s
  | .tickClose => Sys2Proof.Machine.execTickClose s
  | .timeSnap fn => Sys2Proof.Machine.execTimeSnap fn s
  | .incrWrite fn reg part value => Sys2Proof.Machine.execIncrWrite fn reg part value s
  | .adjLowWrite fn d value => Sys2Proof.Machine.execAdjLowWrite fn d value s
  | .adjWrite fn d highOnly value => Sys2Proof.Machine.execAdjWrite fn d highOnly value s
  | .slewEnWrite fn value => Sys2Proof.Machine.execSlewEnWrite fn value s
  | .ptpSyncRx d m => Sys2Proof.Machine.execPtpSyncRx d m s
  | .ptpAnnounceRx d a => Sys2Proof.Machine.execPtpAnnounceRx d a s
  | .announceReceiptTimeout d => Sys2Proof.Machine.execAnnounceReceiptTimeout d s
  | .ptpDelayRespRx d pathNs => Sys2Proof.Machine.execPtpDelayRespRx d pathNs s
  | .pdelayReqRx d => Sys2Proof.Machine.execPdelayReqRx d s
  | .pdelayRespRx d pathNs => Sys2Proof.Machine.execPdelayRespRx d pathNs s
  | .ptpManagementRx port => Sys2Proof.Machine.execPtpManagementRx port s
  | .ptpMasterSyncSend => Sys2Proof.Machine.execPtpMasterSyncSend s
  | .ptpMasterAnnounceSend => Sys2Proof.Machine.execPtpMasterAnnounceSend s
  | .ptpDelayReqRx cell => Sys2Proof.Machine.execPtpDelayReqRx cell s
  | .autoHoldoffExpiry => Sys2Proof.Machine.execAutoHoldoffExpiry s
  | .holdoverLimitExpiry => Sys2Proof.Machine.execHoldoverLimitExpiry s
  | .hostWatchdogExpiry => Sys2Proof.Machine.execHostWatchdogExpiry s
  | .rtcWrite => Sys2Proof.Machine.execRtcWrite s
  | .launchTimeReached e => Sys2Proof.Machine.execLaunchTimeReached e s
  | .zcCrossing det et => Sys2Proof.Machine.execZcCrossing det et s
  | .zcSilence det => Sys2Proof.Machine.execZcSilence det s
  | .superframeBoundary lp => Sys2Proof.Machine.execSuperframeBoundary lp s
  | .beaconVerify ch ok snr => Sys2Proof.Machine.execBeaconVerify ch ok snr s
  | .slotStart ch slot => Sys2Proof.Machine.execSlotStart ch slot s
  | .plcFrameRx ch f => Sys2Proof.Machine.execPlcFrameRx ch f s
  | .plcAckRx ch seq => Sys2Proof.Machine.execPlcAckRx ch seq s
  | .plcNackRx ch seq reason zoneFault retxSlot => Sys2Proof.Machine.execPlcNackRx ch seq reason zoneFault retxSlot s
  | .plcAckTimeout ch seq => Sys2Proof.Machine.execPlcAckTimeout ch seq s
  | .joinReqRx lp src micOk snr => Sys2Proof.Machine.execJoinReqRx lp src micOk snr s
  | .neighbourReportRx lp src micOk l => Sys2Proof.Machine.execNeighbourReportRx lp src micOk l s
  | .toneMapUpdateRx lp src frm micOk a => Sys2Proof.Machine.execToneMapUpdateRx lp src frm micOk a s
  | .keepaliveRx lp src micOk => Sys2Proof.Machine.execKeepaliveRx lp src micOk s
  | .plcCompatFrameRx ch f => Sys2Proof.Machine.execPlcCompatFrameRx ch f s
  | .beaconRequestRx ch => Sys2Proof.Machine.execBeaconRequestRx ch s
  | .rreqRx ch forEngine => Sys2Proof.Machine.execRreqRx ch forEngine s
  | .toneMapRequestRx ch => Sys2Proof.Machine.execToneMapRequestRx ch s
  | .lbpBootstrapRx ch eui completes => Sys2Proof.Machine.execLbpBootstrapRx ch eui completes s
  | .timeslotStart port => Sys2Proof.Machine.execTimeslotStart port s
  | .rfFrameRx port f => Sys2Proof.Machine.execRfFrameRx port f s
  | .rfEnhancedAckRx port seq micOk nack offsetNs => Sys2Proof.Machine.execRfEnhancedAckRx port seq micOk nack offsetNs s
  | .rfAckTimeout port seq child => Sys2Proof.Machine.execRfAckTimeout port seq child s
  | .sixtopResponseRx port src micOk ok => Sys2Proof.Machine.execSixtopResponseRx port src micOk ok s
  | .sixtopRequestRx port src micOk list => Sys2Proof.Machine.execSixtopRequestRx port src micOk list s
  | .iqGap port receiving sending => Sys2Proof.Machine.execIqGap port receiving sending s
  | .iqStall port => Sys2Proof.Machine.execIqStall port s
  | .iqResume port => Sys2Proof.Machine.execIqResume port s
  | .cellHelloRx c h b => Sys2Proof.Machine.execCellHelloRx c h b s
  | .cellStatusRx c h b => Sys2Proof.Machine.execCellStatusRx c h b s
  | .upFrameRx c h dnum b => Sys2Proof.Machine.execUpFrameRx c h dnum b s
  | .cellMeasureRx c h dnum b => Sys2Proof.Machine.execCellMeasureRx c h dnum b s
  | .backlogBeginRx c h dnum id first => Sys2Proof.Machine.execBacklogBeginRx c h dnum id first s
  | .backlogChunkRx c h dnum id chunk recs => Sys2Proof.Machine.execBacklogChunkRx c h dnum id chunk recs s
  | .backlogEndRx c h dnum id chunks => Sys2Proof.Machine.execBacklogEndRx c h dnum id chunks s
  | .timeAlignRx c h ptpState offsetNs => Sys2Proof.Machine.execTimeAlignRx c h ptpState offsetNs s
  | .creditRx c h b => Sys2Proof.Machine.execCreditRx c h b s
  | .cellSilence c => Sys2Proof.Machine.execCellSilence c s
  | .kclRto c dnum => Sys2Proof.Machine.execKclRto c dnum s
  | .backlogTimeout c => Sys2Proof.Machine.execBacklogTimeout c s
  | .backlogKeepExpiry c id => Sys2Proof.Machine.execBacklogKeepExpiry c id s
  | .timeAlignSend c => Sys2Proof.Machine.execTimeAlignSend c s
  | .descriptorSend c port => Sys2Proof.Machine.execDescriptorSend c port s
  | .creditSend c => Sys2Proof.Machine.execCreditSend c s
  | .sessionIdleExpiry slot => Sys2Proof.Machine.execSessionIdleExpiry slot s
  | .sessionLifeExpiry slot => Sys2Proof.Machine.execSessionLifeExpiry slot s
  | .tlsIdleExpiry sess => Sys2Proof.Machine.execTlsIdleExpiry sess s
  | .bulkLoadRecords => Sys2Proof.Machine.execBulkLoadRecords s
  | .quarantineExpiry => Sys2Proof.Machine.execQuarantineExpiry s
  | .coreWorkRequest core => Sys2Proof.Machine.execCoreWorkRequest core s
  | .dispatchEnd core => Sys2Proof.Machine.execDispatchEnd core s
  | .dispatchBoundExceeded core => Sys2Proof.Machine.execDispatchBoundExceeded core s
  | .graphActivation => Sys2Proof.Machine.execGraphActivation s
  | .graphDrainEnd => Sys2Proof.Machine.execGraphDrainEnd s
  | .journalLimitReached => Sys2Proof.Machine.execJournalLimitReached s
  | .exportStall exp on => Sys2Proof.Machine.execExportStall exp on s
  | .linkRx core => Sys2Proof.Machine.execLinkRx core s
  | .cellRx core => Sys2Proof.Machine.execCellRx core s
  | .portRx port sess mcx bytes => Sys2Proof.Machine.execPortRx port sess mcx bytes s
  | .defrag core => Sys2Proof.Machine.execDefrag core s
  | .decryptVerify core lane => Sys2Proof.Machine.execDecryptVerify core lane s
  | .replayCheck core => Sys2Proof.Machine.execReplayCheck core s
  | .parseApdu core => Sys2Proof.Machine.execParseApdu core s
  | .contextUpdate core => Sys2Proof.Machine.execContextUpdate core s
  | .validate core => Sys2Proof.Machine.execValidate core s
  | .estimate core => Sys2Proof.Machine.execEstimate core s
  | .gapSweep => Sys2Proof.Machine.execGapSweep s
  | .billPost core => Sys2Proof.Machine.execBillPost core s
  | .demand core => Sys2Proof.Machine.execDemand core s
  | .closeSweep => Sys2Proof.Machine.execCloseSweep s
  | .balanceAccum core => Sys2Proof.Machine.execBalanceAccum core s
  | .balanceCutoff => Sys2Proof.Machine.execBalanceCutoff s
  | .topologyActivation => Sys2Proof.Machine.execTopologyActivation s
  | .phaseCorr core => Sys2Proof.Machine.execPhaseCorr core s
  | .scoringSweep => Sys2Proof.Machine.execScoringSweep s
  | .storeAppend core => Sys2Proof.Machine.execStoreAppend core s
  | .exportStream core => Sys2Proof.Machine.execExportStream core s
  | .alarm core => Sys2Proof.Machine.execAlarm core s
  | .campaignTrack core => Sys2Proof.Machine.execCampaignTrack core s
  | .campaignMeterTimeout m => Sys2Proof.Machine.execCampaignMeterTimeout m s
  | .downlinkBuild core => Sys2Proof.Machine.execDownlinkBuild core s
  | .encrypt core lane => Sys2Proof.Machine.execEncrypt core lane s
  | .linkTx core => Sys2Proof.Machine.execLinkTx core s
  | .tapCrossing tap et phases => Sys2Proof.Machine.execTapCrossing tap et phases s
  | .fadeEnd c => Sys2Proof.Machine.execFadeEnd c s
  | .chainGap c firstMc => Sys2Proof.Machine.execChainGap c firstMc s
  | .chainGapEnd c durNs => Sys2Proof.Machine.execChainGapEnd c durNs s
  | .settlingEnd c => Sys2Proof.Machine.execSettlingEnd c s
  | .journalDurable => Sys2Proof.Machine.execJournalDurable s
  | .fold count => Sys2Proof.Machine.execFold count s
  | .unitDemotion unit => Sys2Proof.Machine.execUnitDemotion unit s
  | .gcStart => Sys2Proof.Machine.execGcStart s
  | .gcUnitCommit => Sys2Proof.Machine.execGcUnitCommit s
  | .gcProgramFail die => Sys2Proof.Machine.execGcProgramFail die s
  | .checkpointSweepEnd => Sys2Proof.Machine.execCheckpointSweepEnd s
  | .retentionDelete => Sys2Proof.Machine.execRetentionDelete s
  | .reclaim => Sys2Proof.Machine.execReclaim s
  | .pageUncorrectable slot die page second => Sys2Proof.Machine.execPageUncorrectable slot die page second s
  | .dieLost die => Sys2Proof.Machine.execDieLost die s
  | .migrationEnd => Sys2Proof.Machine.execMigrationEnd s
  | .recordWrite res => Sys2Proof.Machine.execRecordWrite res s
  | .heartbeatSend => Sys2Proof.Machine.execHeartbeatSend s
  | .heartbeatRx h b => Sys2Proof.Machine.execHeartbeatRx h b s
  | .hbInPeriod lenNs highNs => Sys2Proof.Machine.execHbInPeriod lenNs highNs s
  | .pathSilence pin => Sys2Proof.Machine.execPathSilence pin s
  | .promoteTimeout => Sys2Proof.Machine.execPromoteTimeout s
  | .demoteTimeout => Sys2Proof.Machine.execDemoteTimeout s
  | .deltaRx h d => Sys2Proof.Machine.execDeltaRx h d s
  | .resyncChunkRx h done => Sys2Proof.Machine.execResyncChunkRx h done s
  | .peerImageRx h img => Sys2Proof.Machine.execPeerImageRx h img s
  | .peerGmiRx h tag ndesc note => Sys2Proof.Machine.execPeerGmiRx h tag ndesc note s
  | .bootWaitExpiry => Sys2Proof.Machine.execBootWaitExpiry s
  | .swapDue => Sys2Proof.Machine.execSwapDue s
  | .swapBoundary => Sys2Proof.Machine.execSwapBoundary s
  | .swapVerifyEnd => Sys2Proof.Machine.execSwapVerifyEnd s
  | .katRun unit pass => Sys2Proof.Machine.execKatRun unit pass s
  | .scrubPass corr lost => Sys2Proof.Machine.execScrubPass corr lost s
  | .updLockIdleExpiry => Sys2Proof.Machine.execUpdLockIdleExpiry s
  | .updVerifyDone fail graph rules => Sys2Proof.Machine.execUpdVerifyDone fail graph rules s
  | .pairBReady ok => Sys2Proof.Machine.execPairBReady ok s
  | .rewrapDone ok => Sys2Proof.Machine.execRewrapDone ok s
  | .bootBankWritten ok => Sys2Proof.Machine.execBootBankWritten ok s
  | .graft => Sys2Proof.Machine.execGraft s
  | .graftTimeout => Sys2Proof.Machine.execGraftTimeout s
  | .pairAReady => Sys2Proof.Machine.execPairAReady s
  | .mbDoorbell fn m producer note => Sys2Proof.Machine.execMbDoorbell fn m producer note s
  | .mbEnable fn m => Sys2Proof.Machine.execMbEnable fn m s
  | .mbDisable fn m => Sys2Proof.Machine.execMbDisable fn m s
  | .mbRspTail fn m index => Sys2Proof.Machine.execMbRspTail fn m index s
  | .mbEvtTail fn m index => Sys2Proof.Machine.execMbEvtTail fn m index s
  | .chainTimeout m => Sys2Proof.Machine.execChainTimeout m s
  | .tlsHandshakeDone port identity anchor => Sys2Proof.Machine.execTlsHandshakeDone port identity anchor s
  | .tlsSessionClose sess => Sys2Proof.Machine.execTlsSessionClose sess s
  | .tlsKeyUpdate sess received => Sys2Proof.Machine.execTlsKeyUpdate sess received s
  | .tunnelGmiFrame sess tag ndesc note => Sys2Proof.Machine.execTunnelGmiFrame sess tag ndesc note s
  | .tunnelKeepalive sess => Sys2Proof.Machine.execTunnelKeepalive sess s
  | .tunnelFrameInvalid sess => Sys2Proof.Machine.execTunnelFrameInvalid sess s
  | .intPendClear fn which mask => Sys2Proof.Machine.execIntPendClear fn which mask s
  | .registerWrite fn offset size value => Sys2Proof.Machine.execRegisterWrite fn offset size value s
  | .pcieReadViolation fn offset size => Sys2Proof.Machine.execPcieReadViolation fn offset size s
  | .shadowHalfRead fn offset => Sys2Proof.Machine.execShadowHalfRead fn offset s
  | .qOpen fn q => Sys2Proof.Machine.execQOpen fn q s
  | .qPush fn q value => Sys2Proof.Machine.execQPush fn q value s
  | .qClose fn q value => Sys2Proof.Machine.execQClose fn q value s
  | .qPop fn q => Sys2Proof.Machine.execQPop fn q s
  | .qFlush fn q => Sys2Proof.Machine.execQFlush fn q s
  | .qEnable fn q => Sys2Proof.Machine.execQEnable fn q s
  | .qDisable fn q => Sys2Proof.Machine.execQDisable fn q s
  | .qOwnerWrite fn q owner => Sys2Proof.Machine.execQOwnerWrite fn q owner s
  | .peakCellsRead fn q full => Sys2Proof.Machine.execPeakCellsRead fn q full s
  | .dmaStart fn n => Sys2Proof.Machine.execDmaStart fn n s
  | .dmaRestart fn n => Sys2Proof.Machine.execDmaRestart fn n s
  | .dmaAbort fn n => Sys2Proof.Machine.execDmaAbort fn n s
  | .dmaCrBaseWrite fn n value => Sys2Proof.Machine.execDmaCrBaseWrite fn n value s
  | .dmaCrTailWrite fn n value => Sys2Proof.Machine.execDmaCrTailWrite fn n value s
  | .dmaDescriptorDone n d items => Sys2Proof.Machine.execDmaDescriptorDone n d items s
  | .dmaFault n code dir addr offset descId => Sys2Proof.Machine.execDmaFault n code dir addr offset descId s
  | .ethLinkChange port lock localFault remoteFault => Sys2Proof.Machine.execEthLinkChange port lock localFault remoteFault s
  | .pauseRx port f => Sys2Proof.Machine.execPauseRx port f s
  | .getIdentity r => Sys2Proof.Machine.execGetIdentity r s
  | .getCaps r => Sys2Proof.Machine.execGetCaps r s
  | .getHealth r => Sys2Proof.Machine.execGetHealth r s
  | .setParam r p => Sys2Proof.Machine.execSetParam r p s
  | .getParam r name => Sys2Proof.Machine.execGetParam r name s
  | .resetEngine r flags closeDone stagingDone => Sys2Proof.Machine.execResetEngine r flags closeDone stagingDone s
  | .getLifecycle r => Sys2Proof.Machine.execGetLifecycle r s
  | .advanceLifecycle r target handle sig => Sys2Proof.Machine.execAdvanceLifecycle r target handle sig s
  | .timeGet r => Sys2Proof.Machine.execTimeGet r s
  | .timeConfigDomain r domain enable profile port transport number => Sys2Proof.Machine.execTimeConfigDomain r domain enable profile port transport number s
  | .timeSelect r select => Sys2Proof.Machine.execTimeSelect r select s
  | .calendarStep r stepNs => Sys2Proof.Machine.execCalendarStep r stepNs s
  | .timeStatus r => Sys2Proof.Machine.execTimeStatus r s
  | .servoOwner r owner => Sys2Proof.Machine.execServoOwner r owner s
  | .linkConfigure r link port params => Sys2Proof.Machine.execLinkConfigure r link port params s
  | .linkStatus r link => Sys2Proof.Machine.execLinkStatus r link s
  | .linkLockGroup r group count channels => Sys2Proof.Machine.execLinkLockGroup r group count channels s
  | .plcTonemapGet r link port frm upTo => Sys2Proof.Machine.execPlcTonemapGet r link port frm upTo s
  | .rfScheduleSet r port tsUs sfLen hop => Sys2Proof.Machine.execRfScheduleSet r port tsUs sfLen hop s
  | .cellAdmit r cell ports bands key addr flags => Sys2Proof.Machine.execCellAdmit r cell ports bands key addr flags s
  | .cellRelease r cell => Sys2Proof.Machine.execCellRelease r cell s
  | .ctxProvision r importKek rec => Sys2Proof.Machine.execCtxProvision r importKek rec s
  | .ctxGet r mcx => Sys2Proof.Machine.execCtxGet r mcx s
  | .ctxUpdate r mcx updSeq mask cls cal topo feeder flags => Sys2Proof.Machine.execCtxUpdate r mcx updSeq mask cls cal topo feeder flags s
  | .ctxSuspend r mcx => Sys2Proof.Machine.execCtxSuspend r mcx s
  | .ctxRetire r mcx flags => Sys2Proof.Machine.execCtxRetire r mcx flags s
  | .ctxBulkLoad r pkg => Sys2Proof.Machine.execCtxBulkLoad r pkg s
  | .ctxQuery r by_ mask link port short eui cursor => Sys2Proof.Machine.execCtxQuery r by_ mask link port short eui cursor s
  | .keyImportWrapped r a => Sys2Proof.Machine.execKeyImportWrapped r a s
  | .keyGenerate r target a => Sys2Proof.Machine.execKeyGenerate r target a s
  | .keyInvalidate r h => Sys2Proof.Machine.execKeyInvalidate r h s
  | .keyRotateMeter r mcx mask op kek wUc wAk wBk => Sys2Proof.Machine.execKeyRotateMeter r mcx mask op kek wUc wAk wBk s
  | .keyAttrGet r h => Sys2Proof.Machine.execKeyAttrGet r h s
  | .keyExportPublic r h => Sys2Proof.Machine.execKeyExportPublic r h s
  | .graphLoad r img => Sys2Proof.Machine.execGraphLoad r img s
  | .graphStatus r => Sys2Proof.Machine.execGraphStatus r s
  | .rulesLoad r pkg => Sys2Proof.Machine.execRulesLoad r pkg s
  | .schedStats r firstNode count => Sys2Proof.Machine.execSchedStats r firstNode count s
  | .objGet r o d => Sys2Proof.Machine.execObjGet r o d s
  | .objSet r o d => Sys2Proof.Machine.execObjSet r o d s
  | .objAction r o d => Sys2Proof.Machine.execObjAction r o d s
  | .calendarLoad r pkg => Sys2Proof.Machine.execCalendarLoad r pkg s
  | .calendarStatus r calendar => Sys2Proof.Machine.execCalendarStatus r calendar s
  | .billingCloseNow r kind ident => Sys2Proof.Machine.execBillingCloseNow r kind ident s
  | .accessTableLoad r pkg => Sys2Proof.Machine.execAccessTableLoad r pkg s
  | .tapConfigure r tap params => Sys2Proof.Machine.execTapConfigure r tap params s
  | .chainSelectResponse r channels response fadeLen => Sys2Proof.Machine.execChainSelectResponse r channels response fadeLen s
  | .topologyLoad r pkg => Sys2Proof.Machine.execTopologyLoad r pkg s
  | .balanceReport r node flags fromEnd toEnd cursor => Sys2Proof.Machine.execBalanceReport r node flags fromEnd toEnd cursor s
  | .phaseReport r node flags cursor => Sys2Proof.Machine.execPhaseReport r node flags cursor s
  | .suspicionReport r kind minScore node cursor mcxs => Sys2Proof.Machine.execSuspicionReport r kind minScore node cursor mcxs s
  | .storeStatus r => Sys2Proof.Machine.execStoreStatus r s
  | .storeConfigure r params => Sys2Proof.Machine.execStoreConfigure r params s
  | .storeReadSeries r cls mcxLo mcxHi winFrom winTo cursor => Sys2Proof.Machine.execStoreReadSeries r cls mcxLo mcxHi winFrom winTo cursor s
  | .storeRetentionSet r cls days floor => Sys2Proof.Machine.execStoreRetentionSet r cls days floor s
  | .recStatus r => Sys2Proof.Machine.execRecStatus r s
  | .recRead r fromSeq count => Sys2Proof.Machine.execRecRead r fromSeq count s
  | .recMarkSet r slot seq => Sys2Proof.Machine.execRecMarkSet r slot seq s
  | .recMarkGet r slot => Sys2Proof.Machine.execRecMarkGet r slot s
  | .troubleRead r fromEntry maxCount => Sys2Proof.Machine.execTroubleRead r fromEntry maxCount s
  | .updBegin r man => Sys2Proof.Machine.execUpdBegin r man s
  | .updChunk r chunk len => Sys2Proof.Machine.execUpdChunk r chunk len s
  | .updVerify r => Sys2Proof.Machine.execUpdVerify r s
  | .updActivate r => Sys2Proof.Machine.execUpdActivate r s
  | .updAbort r => Sys2Proof.Machine.execUpdAbort r s
  | .updStatus r => Sys2Proof.Machine.execUpdStatus r s
  | .campCreate r a => Sys2Proof.Machine.execCampCreate r a s
  | .campStart r slot => Sys2Proof.Machine.execCampStart r slot s
  | .campStatus r slot cursor => Sys2Proof.Machine.execCampStatus r slot cursor s
  | .campCancel r slot => Sys2Proof.Machine.execCampCancel r slot s
  | .tariffPush r slot targets pkg => Sys2Proof.Machine.execTariffPush r slot targets pkg s
  | .pairConfigure r op mode key peerId => Sys2Proof.Machine.execPairConfigure r op mode key peerId s
  | .pairStatus r => Sys2Proof.Machine.execPairStatus r s
  | .pairSwap r => Sys2Proof.Machine.execPairSwap r s
  | .pairForceRole r role flags => Sys2Proof.Machine.execPairForceRole r role flags s
  | .exportOpen r classes mode mcxLo mcxHi winFrom winTo => Sys2Proof.Machine.execExportOpen r classes mode mcxLo mcxHi winFrom winTo s
  | .exportClose r id => Sys2Proof.Machine.execExportClose r id s
  | .exportStatus r id => Sys2Proof.Machine.execExportStatus r id s
  | .powerDomainSet r domain on => Sys2Proof.Machine.execPowerDomainSet r domain on s
  | .diagSelftest r scope => Sys2Proof.Machine.execDiagSelftest r scope s
  | .diagLoopback r target mode frames => Sys2Proof.Machine.execDiagLoopback r target mode frames s
  | .predictedCycleStart tap phases => Sys2Proof.Machine.execPredictedCycleStart tap phases s
  | .tlsHandshakeBegin port identity => Sys2Proof.Machine.execTlsHandshakeBegin port identity s
  | .delayReqSend d => Sys2Proof.Machine.execDelayReqSend d s
  | .followUpRx d master offsetNs => Sys2Proof.Machine.execFollowUpRx d master offsetNs s
  | .pauseRenewal port => Sys2Proof.Machine.execPauseRenewal port s
  | .dieTemperatureAlert die hot => Sys2Proof.Machine.execDieTemperatureAlert die hot s
  | .diagSelftestDone found => Sys2Proof.Machine.execDiagSelftestDone found s
  | .diagLoopbackDone sent received errors maxLat => Sys2Proof.Machine.execDiagLoopbackDone sent received errors maxLat s
  | .campaignActivationTime slot => Sys2Proof.Machine.execCampaignActivationTime slot s
  | .stripeProgrammed => Sys2Proof.Machine.execStripeProgrammed s
  | .ppsOutEdge rise => Sys2Proof.Machine.execPpsOutEdge rise s

end Sys2Proof.Machine
end

