-- ==== Sys2Proof/Safety.lean ====
section
/-! DEFINITION. What holds of the block's outputs in every state that a step leaves, and the words in which claims speak of
a command that has run. -/

namespace Sys2Proof.Machine
open Sys2Proof

/-- ALERT_N (R523), ROLE (R407, R465, R520) and PPS_OUT (R524) stand at the levels the rest of the state calls for. -/
structure OutputsFollow (s : State) : Prop where
  alert : s.boot.alert = alertNow s
  role : s.pair.rolePin = roleHigh s
  pps : s.boot.ppsHigh = true → s.time.etState ≠ .freeRun

/-- The state that `x` becomes when the command that was run on `s` ends: the outputs follow, the queue is that of `s`. -/
def done (s x : State) : State := { settle x with pending := s.pending }

/-- The state with a request taken from its mailbox (R446). -/
def taken (s : State) (r : Req) : State := takeReq (breakChain s r.mb.val r.tag .badParam) r

/-- The access table has no say (no T in R469's column). -/
def noTable (_ : Role) : Bool := false

/-- A request the engine takes and whose checks up to the payload all pass (R446, R447, R449, R450, R457). -/
structure Accepts (ci : CmdInfo) (tbl : Role → Bool) (r : Req) (s : State) : Prop where
  take : canTake s r = true
  rules : judge (taken s r) ci tbl r = none

/-- A request's outcome answered, and what it gives off (R446, R448). -/
def carried (ci : CmdInfo) (r : Req) (o : Reply) : State := emitAll (answer o.s r ci.code o.st o.body) o.es

/-- The state in which a node works on an item: the line of the MCX it names is taken (R137). -/
def onLine (s : State) (core : Nat) (line : Item → Option Nat) (i : Item) : State :=
  match line i with
  | some m => takeLine s core m
  | none => s

/-- A core is dispatched to a node of type `t` and has item `i` in hand, the item's line is free, and what the node puts
out fits the space reserved (R137, R195, R199). -/
structure Dispatched (s : State) (t core : Nat) (line : Item → Option Nat) (f : State → Item → NodeOut) (r : Run) (i : Item)
    (x : GNode) : Prop where
  work : workOn s core t = some (r, i)
  node : nodeRec s r.lane.node = some x
  free : ∀ m, line i = some m → lineBusy s core m = false
  room : withinReserve (f (onLine s core line i) i).s x (f (onLine s core line i) i).outs = true

/-- The item worked off: what the node made of it pushed onto its output edges, and the scheduler at work. -/
def worked (s : State) (core : Nat) (line : Item → Option Nat) (f : State → Item → NodeOut) (i : Item) (x : GNode) : State :=
  let o := f (onLine s core line i) i
  reschedule (pushRun (dropItem o.s core) core x o.outs)

/-- A message of cell `c` that passes every check of R104, R105, R107 and R167: the link is on, the cell admitted, the
header and window right, the cell's key usable, the tag right. -/
structure KclPasses (s : State) (c : Nat) (h : KclHdr) (hello : Bool) (a : Admission) (w : KeyView) : Prop where
  link : kclOn s = true
  admitted : s.p.cells.get? c = some a
  window : kclWindowOk (cellOf s c) h hello = true
  usable : keyJudge s a.key (kclUse 1) = none
  key : keyView s a.key = some w
  tag : h.tagOk = true

/-- The state after a cell's message has passed: the lane holds the cell's key, EPOCH and SEQ are recorded. -/
def kclPassed (s : State) (c : Nat) (h : KclHdr) (a : Admission) (w : KeyView) : State :=
  let s1 := loadKey s false (kclLane c) a.key w.attr.generation w.mat
  cellSet s1 c (kclRecord (cellOf s c) h s1.time.mc)

/-- A peer frame that passes every check of R107 and R394. -/
structure PeerPasses (s : State) (h : KclHdr) (first : Bool) : Prop where
  link : peerOn s = true
  window : peerWindowOk (ethRx s 2 false).pair h first = true

/-- The state after a peer frame has passed: it is counted, and EPOCH and SEQ are recorded. -/
def peerPassed (s : State) (h : KclHdr) : State := setPair (ethRx s 2 false) (fun q => peerRecord q h)

/-- Commands that act on an engine that does not run: supplies, resets, the vault and the dies' sensors, the recorder's write port,
the Tick that goes on being counted, and accesses of registers. -/
def actsStopped : Instr → Bool
  | .powerOn .. | .pfwNReturn .. | .refclkLoss .. | .supplyExcursion .. | .rstN ..
  | .perstN .. | .functionLevelReset .. | .tamperTrip .. | .firstInfoAck .. | .tickBoundary ..
  | .timeSnap .. | .incrWrite .. | .adjLowWrite .. | .adjWrite .. | .slewEnWrite ..
  | .recordWrite .. | .mbDoorbell .. | .mbEnable .. | .mbDisable .. | .mbRspTail ..
  | .mbEvtTail .. | .intPendClear .. | .registerWrite .. | .pcieReadViolation .. | .shadowHalfRead ..
  | .qOpen .. | .qPush .. | .qClose .. | .qPop .. | .qFlush ..
  | .qEnable .. | .qDisable .. | .qOwnerWrite .. | .peakCellsRead .. | .dmaStart ..
  | .dmaRestart .. | .dmaAbort .. | .dmaCrBaseWrite .. | .dmaCrTailWrite .. | .dieTemperatureAlert .. => true
  | _ => false

/-- One counter offered to a replay window: taken in where the window accepts it (R140). -/
def offerCounter (e : Mct) (c : Nat) : Mct :=
  match winJudge e c with
  | .accept => winAccept e c
  | _ => e

/-- A queue after `n` POPs. -/
def popTimes (s : State) (q : Nat) : Nat → State
  | 0 => s
  | n + 1 => qPop (popTimes s q n) q

/-- How far apart two times are. -/
def apart (x y : Nat) : Nat := (x - y) + (y - x)

/-- Two states that differ at most in what answering, logging and interrupts touch: mailboxes, interrupts, the trouble log, the
recorder's write port, events on the way to ALARM, the AER counters and shadows, output levels and the free values used. -/
structure SameWork (s t : State) : Prop where
  p : t.p = s.p
  vault : t.vault = s.vault
  boot : { t.boot with alert := s.boot.alert, ppsHigh := s.boot.ppsHigh } = s.boot
  time : t.time = s.time
  eth : t.eth = s.eth
  pair : { t.pair with rolePin := s.pair.rolePin } = s.pair
  plc : t.plc = s.plc
  rf : t.rf = s.rf
  cell : t.cell = s.cell
  ctx : t.ctx = s.ctx
  val : t.val = s.val
  keys : t.keys = s.keys
  quar : t.quar = s.quar
  flow : t.flow = s.flow
  bill : t.bill = s.bill
  bal : t.bal = s.bal
  metro : t.metro = s.metro
  store : t.store = s.store
  q : t.q = s.q
  dma : t.dma = s.dma
  upd : t.upd = s.upd
  campBlocks : t.campBlocks = s.campBlocks
  pendParams : t.pendParams = s.pendParams
  pending : t.pending = s.pending

end Sys2Proof.Machine
end

