-- ==== Sys2Proof/Certificates/Slice0/Obligations.lean ====
section
/-! DEFINITION. The statements for the provers. -/

section
open Sys2Proof Sys2Proof.Machine

/-- For every command c, queue rest and state s: the step of s with c at the front of its queue is exec of c on s with the
queue rest. The queue is the model's own convention (log entry 1). (Rests on 17_host_and_mailboxes.md.) -/
def Obligations.StepRunsTheFrontCommand : Prop :=
  ∀ (c : Instr) (rest : List Instr) (s : State),
    step { s with pending := c :: rest } = exec c { s with pending := rest }

/-- With an empty queue the step answers a next state: in a powered engine the clocks and the vault run on by one 2 ns
cycle, else nothing changes. That time passes on an empty queue is the model's choice (log entry 2). (Rests on
01_time_and_the_tick.md.) -/
def Obligations.AnEmptyQueueLetsOneCyclePass : Prop :=
  ∀ s : State, s.pending = [] →
    step s = .next (done s (if s.boot.powered then { s with time := clockCycle (selDom s) s.time, vault := vaultRun s.vault 2 } else s))

/-- Whatever command is run, the next state has the queue the command found. The queue is the model's own convention (log
entry 1). (Rests on 17_host_and_mailboxes.md.) -/
def Obligations.CommandsLeaveTheQueue : Prop :=
  ∀ (c : Instr) (s t : State), exec c s = .next t → t.pending = s.pending

/-- For every command and state, exec answers a next state, or it answers the fault outsideBar0 and the command is a
register write, a violating read or a half read at an offset of 64 MiB or more. No command is refused. (Rests on
17_host_and_mailboxes.md.) -/
def Obligations.OnlyOffsetsOutsideBar0Stop : Prop :=
  ∀ (c : Instr) (s : State),
    (∃ t, exec c s = .next t) ∨
    (exec c s = .fault .outsideBar0 ∧
      ((∃ fn offset size value, c = .registerWrite fn offset size value ∧ 64 * 2 ^ 20 ≤ offset) ∨
       (∃ fn offset size, c = .pcieReadViolation fn offset size ∧ 64 * 2 ^ 20 ≤ offset) ∨
       (∃ fn offset, c = .shadowHalfRead fn offset ∧ 64 * 2 ^ 20 ≤ offset)))

/-- In the state after reset, ALERT_N, ROLE and PPS_OUT stand at the levels the rest of the state calls for. (Rests on
20_package_power_and_electrical.md.) -/
def Obligations.OutputsFollowAtReset : Prop :=
  OutputsFollow State.reset

/-- For every state, if ALERT_N, ROLE and PPS_OUT follow the state and the step answers a next state, they follow that
state too: ALERT_N low exactly where R523 says, ROLE high exactly in a live engine that is ACTIVE or SINGLE and not in
safe hold, PPS_OUT low in FREE_RUN. (Rests on 20_package_power_and_electrical.md, 15_pairing_and_failover.md,
17_host_and_mailboxes.md.) -/
def Obligations.StepsKeepOutputsFollowing : Prop :=
  ∀ s t : State, OutputsFollow s → step s = .next t → OutputsFollow t

/-- After every step, ALERT_N is low exactly if the trunk die is held after the third failed boot, the engine is in safe
hold, TAMPERED is set, or a die reads above 105 °C; it is high-impedance otherwise. (Formalises R523.) -/
def Obligations.AlertFollowsItsFourCauses : Prop :=
  ∀ s t : State, step s = .next t →
    (t.boot.alert = true ↔
      (t.boot.held = true ∧ 3 ≤ t.boot.bootFails) ∨ t.err.safeHold = true ∨ t.vault.tampered = true ∨ t.boot.hot ≠ 0)

/-- MB_ENABLE of MB0 or MB1, disabled, by a function whose write is not a violation, below BOOT_STAGE 3, or of MB1 in safe
hold: the next state differs only by the end of the function's read shadow and the outputs settled, ENABLE reads 0,
and nothing is logged as a violation. (Formalises R498.) -/
def Obligations.EarlyEnableIsIgnored : Prop :=
  ∀ (s : State) (fn : Fin 2) (m : Fin 8), m.val < 2 → alive s → (boxOf s.mb m.val).enable = false → mbViol s fn m = none →
    (s.boot.stage < 3 ∨ (s.err.safeHold = true ∧ m = 1)) →
    exec (.mbEnable fn m) s = .next (done s (acc s fn)) ∧
    (boxOf (done s (acc s fn)).mb m.val).enable = false ∧ (done s (acc s fn)).err = s.err

/-- At State.reset, PF0 reads GCTL_ID as 0x01C0_9808_1F6D, GCTL_STATUS as boot stage 1, role 1 and UNSYNCED (R497; its
LIFECYCLE and TAMPERED read as the model's choice of the vault's state, log entry 3), GCTL_SCRATCH as 0, INT_CTRL as
1, the routes of sources 0, 1 and 9 as R441 gives them and that of source 8 as 0, and MB0's control and status words
as 0. (Rests on 19_register_map.md, 17_host_and_mailboxes.md, 01_time_and_the_tick.md.) -/
def Obligations.RegistersAfterReset : Prop :=
  barRead State.reset 0 0x00000 8 = some 0x01C098081F6D ∧
    barRead State.reset 0 0x00018 8 = some (1 + 2 ^ 8 + 2 ^ 11) ∧
    barRead State.reset 0 0x00038 8 = some 0 ∧
    barRead State.reset 0 0x20000 8 = some 1 ∧
    barRead State.reset 0 0x20100 8 = some (2 ^ 9) ∧
    barRead State.reset 0 0x20108 8 = some (2 ^ 9 + 2 ^ 8) ∧
    barRead State.reset 0 0x20148 8 = some (2 ^ 9 + 1) ∧
    barRead State.reset 0 0x20140 8 = some 0 ∧
    barRead State.reset 0 0x10000 8 = some 0

/-- For every command but those of supplies, resets, the vault and the dies' sensors, the recorder's write port, the Tick
and register accesses: in an engine that does not run, exec answers the state as it was, the outputs settled. (Rests
on 20_package_power_and_electrical.md.) -/
def Obligations.AnEngineThatDoesNotRunTakesNoAction : Prop :=
  ∀ (c : Instr) (s : State), actsStopped c = false → running s = false → exec c s = .next (done s s)

/-- While a mailbox's response ring has fewer than 65 free descriptors, a response chain is being written, or 32 of its
commands are PENDING, canTake fails; and where canTake fails, a GMI command's meaning leaves the state as it was.
(Rests on 17_host_and_mailboxes.md.) -/
def Obligations.RequestNotTakenChangesNothing : Prop :=
  (∀ (s : State) (r : Req), canTake s r = true →
      65 ≤ ringFree (boxOf s.mb r.mb.val).rspHead (boxOf s.mb r.mb.val).rspTail ∧
      (boxOf s.mb r.mb.val).rspWait = [] ∧ (boxOf s.mb r.mb.val).pend.length < 32) ∧
    (∀ (ci : CmdInfo) (tbl : Role → Bool) (r : Req) (h : State → Reply) (s : State), canTake s r = false → gmiT ci tbl r h s = s)

/-- The status that answers a taken request before its payload is looked at is that of the first check that fails: header
and chain rules, the TAG of a PENDING command, safe hold, access, lifecycle, BUSY before service, the payload's form,
NOT_ACTIVE; none where all pass. The order of BUSY, form and NOT_ACTIVE is the model's reading (log entry 39). (Rests
on 17_host_and_mailboxes.md, 18_command_reference.md.) -/
def Obligations.RequestChecksInOrder : Prop :=
  ∀ (s : State) (ci : CmdInfo) (tbl : Role → Bool) (r : Req),
    let header := r.hdrOk && !(decide (1 < r.msgs) && !ci.c) && !decide (16 < r.msgs)
    let fresh := !(boxOf s.mb r.mb.val).pend.any (fun p => p.tag == r.tag && p.sess == r.sess)
    let held := s.err.safeHold && !ci.hold
    let life := ci.states.getLsbD (lifeIdx s.vault.life)
    let busy := beforeService s && (ci.w || ci.pflag)
    (header = false ∨ fresh = false → judge s ci tbl r = some .badParam) ∧
    (header = true → fresh = true → held = true ∨ accessOk s ci tbl r = false ∨ life = false →
      judge s ci tbl r = some .notPermitted) ∧
    (header = true → fresh = true → held = false → accessOk s ci tbl r = true → life = true →
      (busy = true → judge s ci tbl r = some .busy) ∧
      (busy = false → r.formOk = false → judge s ci tbl r = some .badParam) ∧
      (busy = false → r.formOk = true → ci.w = true → notActive s = true → judge s ci tbl r = some .notActive) ∧
      (busy = false → r.formOk = true → (ci.w = false ∨ notActive s = false) → judge s ci tbl r = none))

/-- Where a handler's outcome is answered on mailbox 0, 1 or 6, enabled, with no response chain waiting and room in the
ring, with a payload of one message: the response ring gains exactly one message, with the command's code, the
request's TAG and session, the handler's STATUS and payload, and nothing given off afterwards changes that ring.
(Rests on 17_host_and_mailboxes.md.) -/
def Obligations.ResponseCarriesCommandTagAndStatus : Prop :=
  ∀ (ci : CmdInfo) (r : Req) (o : Reply),
    hostBox r.mb.val = true → (boxOf o.s.mb r.mb.val).enable = true → (boxOf o.s.mb r.mb.val).rspWait = [] →
    bodyLen o.body ≤ 4096 → 65 ≤ ringFree (boxOf o.s.mb r.mb.val).rspHead (boxOf o.s.mb r.mb.val).rspTail →
    (boxOf (carried ci r o).mb r.mb.val).rspRing = (boxOf o.s.mb r.mb.val).rspRing ++
      [⟨false, false, false, ci.code, r.tag, r.sess, o.st, 0, false, o.body, descsOf (bodyLen o.body)⟩]

/-- Writing waiting responses into a mailbox's ring: what is in the ring followed by what still waits is what was in the
ring followed by what waited; and a ring that held at most 256 descriptors holds at most 256. (Rests on
17_host_and_mailboxes.md.) -/
def Obligations.ResponseRingKeepsOrderAndRoom : Prop :=
  ∀ (i : Nat) (b : Mailbox) (l : List Msg),
    (rspPump i b l).rspRing ++ (rspPump i b l).rspWait = b.rspRing ++ l ∧
    ((b.rspHead - b.rspTail).toNat ≤ 256 → ((rspPump i b l).rspHead - (rspPump i b l).rspTail).toNat ≤ 256)

/-- An error logged at MC mc: where its class's set is not VALID the set takes it, with COUNT 0, and its log entry is
marked FIRST; where it is VALID the set keeps its error, COUNT rises by one and saturates, and the entry is not
marked; every other class's set is as before; and the log holds at most 4,096 entries if it did before. (Rests on
17_host_and_mailboxes.md.) -/
def Obligations.CaptureSetKeepsTheFirstError : Prop :=
  ∀ (mc : Nat) (e : ErrSt) (r : ErrRep),
    ((capOf e r.cls).valid = false →
      capOf (errLog mc e r).1 r.cls =
        ⟨true, r.addr, r.loc, r.accessor + 128, r.code, r.detail.map (fun v => (v, 1)), mc, 0⟩ ∧
      (errLog mc e r).1.tlog.getLast? =
        some ⟨mc, r.addr, r.loc, r.cls, r.accessor, true, r.code, r.detail.map (fun v => (v, 1))⟩) ∧
    ((capOf e r.cls).valid = true →
      capOf (errLog mc e r).1 r.cls = { capOf e r.cls with count := satInc 32 (capOf e r.cls).count } ∧
      (errLog mc e r).1.tlog.getLast? =
        some ⟨mc, r.addr, r.loc, r.cls, r.accessor, false, r.code, r.detail.map (fun v => (v, 1))⟩) ∧
    (∀ c, c ≠ r.cls → capOf (errLog mc e r).1 c = capOf e c) ∧
    (e.tlog.length ≤ 4096 → (errLog mc e r).1.tlog.length ≤ 4096)

/-- The check that a use fails is the first of: TAMPERED; the handle names no valid key or one that the KEK file cannot
unwrap; the key or an ancestor revoked; master, world, lifecycle, usage, algorithm or target not permitted. Where a
valid key is usable and none fails, the use is allowed. That a key not under the KEK in force counts as missing, and
that TARGETS belongs to step 4, are the model's reading (log entries 84 and 85). (Rests on 06_keys_and_crypto.md.) -/
def Obligations.KeyChecksInOrder : Prop :=
  ∀ (s : State) (h : Word32) (u : KeyReq) (v : KeyView),
    (s.vault.tampered = true → keyJudge s h u = some (.tampered, 1)) ∧
    (s.vault.tampered = false → keyView s h = none → keyJudge s h u = some (.keyMissing, 2)) ∧
    (s.vault.tampered = false → keyView s h = some v →
      let usable := s.keys.ready && decide (s.keys.kek = some v.kek)
      let revoked := revokedChain s v.attr (chainFuel s)
      let permitted := v.attr.masters.getLsbD u.master && v.attr.worlds.getLsbD (b2n u.normal) &&
        v.attr.lifecycle.getLsbD (lifeIdx s.vault.life) && v.attr.usage.getLsbD u.usage && u.algs.contains v.attr.alg &&
        decide (v.attr.targets &&& u.targets = u.targets)
      (usable = false → keyJudge s h u = some (.keyMissing, 2)) ∧
      (usable = true → revoked = true → keyJudge s h u = some (.keyRevoked, 3)) ∧
      (usable = true → revoked = false → permitted = false → keyJudge s h u = some (.keyAttr, 4)) ∧
      (usable = true → revoked = false → permitted = true → keyJudge s h u = none))

/-- A counter c that the window of R140 accepts and takes in is never accepted again, whatever counters are offered to the
window afterwards, in whatever order and however often. (Rests on 05_meter_contexts.md.) -/
def Obligations.NoCounterPassesTheWindowTwice : Prop :=
  ∀ (e : Mct) (c : Nat) (l : List Nat), winJudge e c = .accept →
    winJudge (l.foldl offerCounter (winAccept e c)) c ≠ .accept

/-- For every current ET and every ET64 launch time with nanoseconds below one second: the expanded time reads as that
ET64, and every other time that reads as it lies farther from now, or as far and not later. (Formalises R34.) -/
def Obligations.LaunchTimeIsTheNearest : Prop :=
  ∀ now v : Nat, v < 2 ^ 64 → v % 2 ^ 32 < 1000000000 →
    et64 (expandEt64 now v) = v ∧
    ∀ y, et64 y = v → apart (expandEt64 now v) now < apart y now ∨
      (apart (expandEt64 now v) now = apart y now ∧ y ≤ expandEt64 now v)

/-- A queue whose oldest item has not been touched: the (k+1)-th POP reads its word k, and the last of them removes the
item and leaves the items behind it in place. (Rests on 16_queues_and_dma.md.) -/
def Obligations.PoppedWordsComeInOrder : Prop :=
  ∀ (s : State) (q : Nat) (i : List Nat) (t : List (List Nat)), (qOf s q).items = i :: t → (qOf s q).popped = 0 → i ≠ [] →
    (∀ k, k < i.length → i[k]? = some (qOf (popTimes s q (k + 1)) q).last) ∧
    (qOf (popTimes s q i.length) q).items = t ∧ (qOf (popTimes s q i.length) q).popped = 0

/-- A REGISTER_WRITE or a PCIE_READ_VIOLATION inside BAR0 whose access is a violation answers a next state that agrees
with the old one in every part but interrupts, the trouble log and its captures, the AER counters and shadows, output
levels and free values; the mailboxes, the recorder and the events on the way to ALARM are unchanged too. (Rests on
17_host_and_mailboxes.md, 19_register_map.md.) -/
def Obligations.ViolatingAccessChangesNoWork : Prop :=
  ∀ (s : State) (fn : Fin 2) (offset size kind : Nat) (value : Word64), offset < 64 * 2 ^ 20 →
    (regAccess (acc s fn) fn offset size true = .error kind →
      ∃ t, exec (.registerWrite fn offset size value) s = .next t ∧ SameWork s t ∧ t.mb = s.mb ∧ t.recd = s.recd ∧ t.alarms = s.alarms) ∧
    (regAccess (acc s fn) fn offset size false = .error kind →
      ∃ t, exec (.pcieReadViolation fn offset size) s = .next t ∧ SameWork s t ∧ t.mb = s.mb ∧ t.recd = s.recd ∧ t.alarms = s.alarms)

/-- TIME_GET, TIME_STATUS, REC_STATUS, TROUBLE_READ, CTX_GET, CTX_QUERY, CALENDAR_STATUS, STORE_STATUS, GRAPH_STATUS,
LINK_STATUS, PLC_TONEMAP_GET, PAIR_STATUS, BALANCE_REPORT, PHASE_REPORT, GET_IDENTITY, GET_CAPS, GET_HEALTH and
GET_PARAM answer a next state that agrees with the old one in every part but mailboxes, interrupts, the trouble log,
the recorder's write port, events on the way to ALARM, output levels and free values. (Rests on
18_command_reference.md, 17_host_and_mailboxes.md.) -/
def Obligations.QueriesChangeNoWork : Prop :=
  ∀ (s : State) (r : Req),
    (∃ t, exec (.timeGet r) s = .next t ∧ SameWork s t) ∧
    (∃ t, exec (.timeStatus r) s = .next t ∧ SameWork s t) ∧
    (∃ t, exec (.recStatus r) s = .next t ∧ SameWork s t) ∧
    (∀ (mcx : Word32), ∃ t, exec (.ctxGet r mcx) s = .next t ∧ SameWork s t) ∧
    (∀ (by_ mask : BitVec 8) (link : Word16) (port : BitVec 8) (short : Word16) (eui cursor : Word64), ∃ t, exec (.ctxQuery r by_ mask link port short eui cursor) s = .next t ∧ SameWork s t) ∧
    (∀ (calendar : BitVec 8), ∃ t, exec (.calendarStatus r calendar) s = .next t ∧ SameWork s t) ∧
    (∃ t, exec (.storeStatus r) s = .next t ∧ SameWork s t) ∧
    (∃ t, exec (.graphStatus r) s = .next t ∧ SameWork s t) ∧
    (∀ (link : Word16), ∃ t, exec (.linkStatus r link) s = .next t ∧ SameWork s t) ∧
    (∃ t, exec (.pairStatus r) s = .next t ∧ SameWork s t) ∧
    (∃ t, exec (.getIdentity r) s = .next t ∧ SameWork s t) ∧
    (∃ t, exec (.getCaps r) s = .next t ∧ SameWork s t) ∧
    (∃ t, exec (.getHealth r) s = .next t ∧ SameWork s t) ∧
    (∀ (fromEntry : Word32) (maxCount : Word16), ∃ t, exec (.troubleRead r fromEntry maxCount) s = .next t ∧ SameWork s t) ∧
    (∀ (node : Word16) (flags : BitVec 8) (fromEnd toEnd cursor : Word64), ∃ t, exec (.balanceReport r node flags fromEnd toEnd cursor) s = .next t ∧ SameWork s t) ∧
    (∀ (node : Word16) (flags : BitVec 8) (cursor : Word64), ∃ t, exec (.phaseReport r node flags cursor) s = .next t ∧ SameWork s t) ∧
    (∀ (name : Option ParamId), ∃ t, exec (.getParam r name) s = .next t ∧ SameWork s t) ∧
    (∀ (link : Word16) (port : BitVec 8) (frm upTo : Word16), ∃ t, exec (.plcTonemapGet r link port frm upTo) s = .next t ∧ SameWork s t)

/-- Where ADVANCE_LIFECYCLE answers a next state, the lifecycle is what it was or the end of a transition of the table
from what it was, and every fuse that read blown reads blown. (Rests on 06_keys_and_crypto.md.) -/
def Obligations.LifecycleMovesAlongItsTable : Prop :=
  ∀ (s t : State) (r : Req) (target : BitVec 8) (handle : Word32) (sig : Option Bool),
    exec (.advanceLifecycle r target handle sig) s = .next t →
    (t.vault.life = s.vault.life ∨ (lifeStep s.vault.life t.vault.life).isSome) ∧
    s.vault.fuses &&& t.vault.fuses = s.vault.fuses

/-- For every state and monitor: TAMPER_TRIP answers a next state in which TAMPERED is set, the monitor's bit of the cause
is set and every bit of it that was set, the taproot is gone, every use of every key fails at step 1 with TAMPERED,
and, where the trunk die was powered and not in reset, the KEK file, the meters' session slots and the TLS sessions
are empty. (Rests on 06_keys_and_crypto.md.) -/
def Obligations.TamperTripLeavesNoUsableKey : Prop :=
  ∀ (s : State) (monitor : Fin 8), ∃ t, exec (.tamperTrip monitor) s = .next t ∧
    t.vault.tampered = true ∧ t.vault.tamperCause = s.vault.tamperCause ||| BitVec.ofNat 8 (2 ^ monitor.val) ∧ t.vault.taproot = false ∧
    (∀ h u, keyJudge t h u = some (.tampered, 1)) ∧
    (alive s = true → t.keys.kek = none ∧ t.ctx.sess = [] ∧ t.mb.tls = [])

/-- For an accepted KEY_INVALIDATE of a key that is there and not revoked, from mailbox 0 or of a meter key: the next
state's check of every use of that key fails, at step 2 or 3; at step 3, with KEY_REVOKED, where the KEK file can
unwrap the key. (Rests on 06_keys_and_crypto.md.) -/
def Obligations.AnInvalidatedKeyIsNeverUsed : Prop :=
  ∀ (s : State) (r : Req) (h : Word32), Accepts ciKeyInvalidate noTable r s → (r.mb.val = 0 ∨ 1 ≤ hClass h ∧ hClass h ≤ 3) →
    namedFail (taken s r) h = none →
    ∃ t, exec (.keyInvalidate r h) s = .next t ∧
      (∀ u, keyJudge t h u = some (.keyMissing, 2) ∨ keyJudge t h u = some (.keyRevoked, 3)) ∧
      (∀ v u, keyView t h = some v → t.keys.ready = true → t.keys.kek = some v.kek → keyJudge t h u = some (.keyRevoked, 3))

/-- An accepted CTX_SUSPEND of a PROVISIONED, JOINED or ACTIVE entry answers a next state in which that entry is
SUSPENDED, changed at the current Tick, without a session and with UPDATE_SEQ one higher, and every other entry is as
before; on any other entry it changes none. (Rests on 05_meter_contexts.md.) -/
def Obligations.SuspensionTouchesOneMeter : Prop :=
  ∀ (s : State) (r : Req) (mcx : Word32), Accepts ciCtxSuspend noTable r s → mcx.toNat < mcxCount →
    let e := mctOf s mcx.toNat
    ∃ t, exec (.ctxSuspend r mcx) s = .next t ∧ (∀ n, n ≠ mcx.toNat → mctOf t n = mctOf s n) ∧
      (e.state = .provisioned ∨ e.state = .joined ∨ e.state = .active →
        mctOf t mcx.toNat = { e with state := .suspended, stateTick := s.vault.tick, session := none, updSeq := wrapAdd 32 e.updSeq 1 }) ∧
      (e.state = .free ∨ e.state = .suspended ∨ e.state = .retired → mctOf t mcx.toNat = e)

/-- Granting a member's path adds grants behind those a port holds and changes no other port: all with the PERIOD of
max_grant_period_sf and one OFFSET below it, on slots of the port's CFP, the TX slots strictly increasing from the
meter toward the channel; and, periods being powers of two, none is in force in a superframe in which a grant on the
same slot of a port that shares the slots is. (Rests on 02_plc_links.md.) -/
def Obligations.GrantedSlotsNeverMeet : Prop :=
  ∀ (s : State) (lp m : Nat), (∃ k, prmN s .plcMaxGrantPeriod lp = 2 ^ k) →
    ∃ new o, (plcPortOf (grantMember s lp m) lp).grants = (plcPortOf s lp).grants ++ new ∧
      (∀ q, q ≠ lp → plcPortOf (grantMember s lp m) q = plcPortOf s q) ∧
      (∀ g ∈ new, g.period = prmN s .plcMaxGrantPeriod lp ∧ g.offset = o ∧ o < g.period ∧ g.slot < slotCount s lp) ∧
      ((new.filter (fun g => g.tx)).map (fun g => g.slot)).Pairwise (· < ·) ∧
      (∀ g ∈ new, ∀ q ∈ sharers s lp, ∀ h ∈ (plcPortOf s q).grants, (∃ k, h.period = 2 ^ k) → g.slot = h.slot →
        ∀ sf, ¬(inForce g sf = true ∧ inForce h sf = true))

/-- A condition of a source below 128: where its route is disabled or its pending bit is set nothing changes; else its bit
is set and every other bit is as before, and, with GLOBAL_EN set, one message goes on the routed vector, or waits in
the PBA where the vector is masked; no other vector sends, and none with GLOBAL_EN clear. (Rests on
17_host_and_mailboxes.md.) -/
def Obligations.ARaisedInterruptSendsOneMessage : Prop :=
  ∀ (i : IntSt) (src : Nat), src < 128 →
    let r := routeOf i src
    let k := msixKey r.func r.entry
    ((r.enable = false ∨ i.pend.getLsbD src = true) → irqRaise i src = i) ∧
    (r.enable = true → i.pend.getLsbD src = false →
      (irqRaise i src).pend.getLsbD src = true ∧
      (∀ n, n ≠ src → (irqRaise i src).pend.getLsbD n = i.pend.getLsbD n) ∧
      (∀ n, (irqRaise i src).sent.getD n 0 =
        i.sent.getD n 0 + (if n = k ∧ i.globalEn = true ∧ (i.msix.getD k {}).mask = false then 1 else 0)) ∧
      (i.globalEn = true → (i.msix.getD k {}).mask = true → (irqRaise i src).pba.get? k = some ()))

/-- An async event at a mailbox whose ring has fewer than 65 free descriptors, or in which a FINAL event waits, is not
written: DROPPED rises by one and saturates, EVT_DROPPED is set, the ring is as before; and the first event that is
written after it carries LOST, the one after that not. (Rests on 17_host_and_mailboxes.md.) -/
def Obligations.ADroppedEventIsCountedAndMarked : Prop :=
  ∀ (i : Nat) (b : Mailbox) (m : Msg),
    ((b.finals ≠ [] ∨ ringFree b.evtHead b.evtTail < 65) →
      (asyncPut i b m).evtRing = b.evtRing ∧ (asyncPut i b m).evtHead = b.evtHead ∧
      (asyncPut i b m).dropped = min 65535 (b.dropped + 1) ∧ (asyncPut i b m).evtDropped = true ∧ (asyncPut i b m).lostNext = true) ∧
    (b.finals = [] → 65 ≤ ringFree b.evtHead b.evtTail →
      (asyncPut i b m).evtRing = b.evtRing ++ [{ m with lost := b.lostNext }] ∧ (asyncPut i b m).dropped = b.dropped ∧
      (asyncPut i b m).lostNext = false)

/-- OPEN, PUSH, CLOSE, POP, FLUSH, ENABLE, DISABLE, a write of OWNER and a read of PEAK_CELLS at queue q leave every queue
as it was but q and the queue that q names for completion items. (Rests on 16_queues_and_dma.md.) -/
def Obligations.AQueueAccessTouchesItsQueueOnly : Prop :=
  ∀ (s t : State) (fn : Fin 2) (q : Fin 2048) (v : Word64) (owner : Fin 4) (full : Bool) (n : Nat),
    n ≠ q.val → n ≠ (qOf s q.val).complQueue →
    (exec (.qOpen fn q) s = .next t ∨ exec (.qPush fn q v) s = .next t ∨ exec (.qClose fn q v) s = .next t ∨ exec (.qPop fn q) s = .next t ∨
     exec (.qFlush fn q) s = .next t ∨ exec (.qEnable fn q) s = .next t ∨ exec (.qDisable fn q) s = .next t ∨
     exec (.qOwnerWrite fn q owner) s = .next t ∨ exec (.peakCellsRead fn q full) s = .next t) →
    qOf t n = qOf s n

/-- A record handed to the write port of a recorder that is not stopped either joins the port behind what is there, or,
where its source has written its share of the Tick and the record is none that is always kept, is counted for its
source and in REC_SUPPRESSED, whose sticky bit is set; the counts of other sources are as before. (Rests on
13_event_recorder.md.) -/
def Obligations.RecorderKeepsEachSourcesShare : Prop :=
  ∀ (limit : Nat) (r : RecSt) (x : Rec), r.state ≠ .stopped →
    ((recUnsuppressed x.src x.code = true ∨ r.perSource.getD x.src 0 < limit) →
      (recPush limit r x).port = r.port ++ [x] ∧ (recPush limit r x).suppressed = r.suppressed ∧ (recPush limit r x).overSource = r.overSource) ∧
    (recUnsuppressed x.src x.code = false → limit ≤ r.perSource.getD x.src 0 →
      (recPush limit r x).port = r.port ∧ (recPush limit r x).suppressed = r.suppressed + 1 ∧ (recPush limit r x).stSuppressed = true ∧
      (recPush limit r x).overSource.getD x.src 0 = r.overSource.getD x.src 0 + 1) ∧
    (∀ n, n ≠ x.src → (recPush limit r x).overSource.getD n 0 = r.overSource.getD n 0 ∧
      (recPush limit r x).perSource.getD n 0 = r.perSource.getD n 0)

/-- UPD_CHUNK, UPD_VERIFY and UPD_ACTIVATE from a mailbox that does not hold the lock, and UPD_ABORT from one other than
mailbox 0 that does not, answer a next state in which the update is as it was. (Rests on 14_updates_and_campaigns.md.) -/
def Obligations.TheUpdateLockKeepsOthersOut : Prop :=
  ∀ (s t : State) (r : Req) (index : Word32) (len : Nat), s.upd.holder ≠ r.mb.val →
    (exec (.updChunk r index len) s = .next t ∨ exec (.updVerify r) s = .next t ∨ exec (.updActivate r) s = .next t ∨
     (r.mb.val ≠ 0 ∧ exec (.updAbort r) s = .next t)) →
    t.upd = s.upd

/-- Where GRAFT answers a next state, every vault counter but counter 9, which takes the manifest's sequence number, is at
least what it was. (Rests on 14_updates_and_campaigns.md.) -/
def Obligations.GraftNeverLowersASecurityVersion : Prop :=
  ∀ (s t : State), exec .graft s = .next t → ∀ i, i ≠ 9 → s.vault.counters.getD i 0 ≤ t.vault.counters.getD i 0

/-- Each of these commands answers a next state for every state and operands that meet the conditions written before it,
which speak of the state and the operands alone; the next state is the one its effect makes, the outputs settled and
the queue untouched: POWER_ON, WARDEN_BOOT, MAILBOX_READY, STORE_RESTART, FULL_SERVICE, BOOT_FAILURE, RST_N, PERST_N,
FUNCTION_LEVEL_RESET, VAULT_WATCHDOG, TAMPER_TRIP, HANDLER_WATCHDOG, DOUBLE_FAULT, PFW_N_RETURN, PFW_N_FALL,
REFCLK_LOSS, SUPPLY_EXCURSION. (Rests on 20_package_power_and_electrical.md, 17_host_and_mailboxes.md.) -/
def Obligations.BootAndResetsComplete : Prop :=
  ∀ s : State,
  (∀ (recOk : Bool) (rom : Nat),
    exec (.powerOn recOk rom) s = .next (done s (engineReset 1 true recOk rom s))) ∧
  (∀ loader : Nat, running s → s.vault.bmrExt = 1 →
    exec (.wardenBoot loader) s = .next (done s { s with vault := { s.vault with bmr := Config.extend s.vault.bmr loader, bmrExt := 2 } })) ∧
  (∀ (gamokor microcode : Nat), running s && decide (s.vault.bmrExt = 2) →
    exec (.mailboxReady gamokor microcode) s = .next (done s (mailboxReadyEff gamokor microcode s))) ∧
  (∀ (badPage : Option Nat), running s && decide (s.boot.stage = 4) →
    exec (.storeRestart badPage) s = .next (done s (restartEff badPage s))) ∧
  (running s && decide (s.boot.stage = 5) && !s.err.safeHold →
    exec .fullService s = .next (done s (fullServiceEff s))) ∧
  (running s && decide (s.boot.stage < 3) →
    exec .bootFailure s = .next (done s (bootFailureEff s))) ∧
  (s.boot.powered → s.boot.pfw → exec .rstN s = .next (done s { s with boot := { s.boot with held := true } })) ∧
  (s.boot.powered → s.boot.pfw = false →
    exec .rstN s = .next (done s (warmReset 2 { s with boot := { s.boot with bootFails := 0 } }))) ∧
  (alive s →
    exec .perstN s = .next (done s (perstEff s))) ∧
  (∀ (fn : Fin 2), alive s →
    exec (.functionLevelReset fn) s = .next (done s (flrEff fn s))) ∧
  (running s →
    exec .vaultWatchdog s = .next (done s (warmReset 6 s))) ∧
  (∀ monitor : Fin 8, exec (.tamperTrip monitor) s = .next (done s (tamperTripEff monitor s))) ∧
  (∀ (pc : Word32), running s →
    exec (.handlerWatchdog pc) s = .next (done s (doubleFaultEff 3 pc s))) ∧
  (∀ (memory : Bool) (pc : Word32), running s →
    exec (.doubleFault memory pc) s = .next (done s (doubleFaultEff (if memory then 2 else 1) pc s))) ∧
  (s.boot.powered && s.boot.pfw →
    exec .pfwNReturn s = .next (done s (pfwReturnEff s))) ∧
  (∀ (closeDone stagingDone : Bool), running s →
    exec (.pfwNFall closeDone stagingDone) s = .next (done s (pfwFallEff closeDone stagingDone s))) ∧
  (∀ (closeDone stagingDone : Bool), alive s →
    exec (.refclkLoss closeDone stagingDone) s = .next (done s (refclkLossEff closeDone stagingDone s))) ∧
  (∀ (supply : Fin 13) (closeDone stagingDone : Bool), alive s →
    exec (.supplyExcursion supply closeDone stagingDone) s = .next (done s (supplyExcursionEff supply closeDone stagingDone s)))

/-- Each of these commands answers a next state for every state and operands that meet the conditions written before it,
which speak of the state and the operands alone; the next state is the one its effect makes, the outputs settled and
the queue untouched: HARDWARE_ERROR, IDLE_PAIR_ERROR, PAIR_SELFTEST_DONE, FIRST_INFO_ACK, DIE_TEMPERATURE_ALERT,
DIAG_SELFTEST_DONE, DIAG_LOOPBACK_DONE. (Rests on 17_host_and_mailboxes.md, 20_package_power_and_electrical.md,
18_command_reference.md.) -/
def Obligations.ErrorEventsComplete : Prop :=
  ∀ s : State,
  (∀ (e : ErrRep), running s && decide (1 ≤ e.cls) && decide (e.cls ≤ 0x11) →
    exec (.hardwareError e) s = .next (done s (emitAll s [.trouble e]))) ∧
  (∀ (memory : Bool) (pc : Word32), running s →
    exec (.idlePairError memory pc) s = .next (done s (idlePairErrorEff memory pc s))) ∧
  (∀ (pairB pass : Bool), running s →
    exec (.pairSelftestDone pairB pass) s = .next (done s { s with err := { s.err with
      testMc := if pass then s.time.mc else s.err.testMc
      pairA := if pairB then s.err.pairA else pairAfterTest s.err.pairA pass
      pairB := if pairB then pairAfterTest s.err.pairB pass else s.err.pairB } })) ∧
  (∀ cls : Fin 18, alive s → cls ≠ 0 →
    exec (.firstInfoAck 0 cls) s = .next (done s { acc s 0 with err := { s.err with
      sets := s.err.sets.set cls.val { capOf s.err cls.val with valid := false, count := 0 } } })) ∧
  (∀ (die : Fin 4) (hot : Bool), s.boot.powered →
    exec (.dieTemperatureAlert die hot) s = .next (done s { s with boot := { s.boot with
      hot := if hot then s.boot.hot ||| BitVec.ofNat 4 (2 ^ die.val) else s.boot.hot &&& ~~~BitVec.ofNat 4 (2 ^ die.val) } })) ∧
  (∀ (found : List DiagEntry), running s →
    exec (.diagSelftestDone found) s = .next (done s (emit1 s (.final 0x0F02 .ok ([(found.length, 2), (0, 2)] ++ (found.map diagEntry).flatten))))) ∧
  (∀ (sent received errors maxLat : Word32), running s →
    exec (.diagLoopbackDone sent received errors maxLat) s =
      .next (done s (emit1 s (.final 0x0F03 .ok [(sent.toNat, 4), (received.toNat, 4), (errors.toNat, 4), (maxLat.toNat, 4)]))))

/-- Each of these commands answers a next state for every state and operands that meet the conditions written before it,
which speak of the state and the operands alone; the next state is the one its effect makes, the outputs settled and
the queue untouched: MB_DOORBELL, MB_ENABLE, MB_DISABLE, MB_RSP_TAIL, MB_EVT_TAIL, CHAIN_TIMEOUT, INT_PEND_CLEAR,
REGISTER_WRITE, PCIE_READ_VIOLATION, SHADOW_HALF_READ. (Rests on 17_host_and_mailboxes.md, 19_register_map.md.) -/
def Obligations.HostAccessesComplete : Prop :=
  ∀ s : State,
  (∀ (fn : Fin 2) (m : Fin 8) (producer : Word32), alive s → mbViol s fn m = none →
    exec (.mbDoorbell fn m producer .plain) s =
      .next (done s { acc s fn with mb := mbSet s.mb m.val { boxOf s.mb m.val with reqProd := producer } })) ∧
  (∀ (fn : Fin 2) (m : Fin 8), alive s → mbViol s fn m = none → (boxOf s.mb m.val).enable = false → mayEnable s m →
    exec (.mbEnable fn m) s = .next (done s { acc s fn with mb := mbSet s.mb m.val (boxStart (boxOf s.mb m.val)) })) ∧
  (∀ (fn : Fin 2) (m : Fin 8), alive s → mbViol s fn m = none → (boxOf s.mb m.val).enable = true →
    exec (.mbDisable fn m) s = .next (done s { acc s fn with mb := mbSet s.mb m.val (boxStop (boxOf s.mb m.val)) })) ∧
  (∀ (fn : Fin 2) (m : Fin 8) (index : Word32), alive s → mbViol s fn m = none →
    let b := boxOf s.mb m.val
    let b1 := { b with rspTail := index, rspRing := ringKeep b.rspRing (b.rspHead - index).toNat }
    exec (.mbRspTail fn m index) s =
      .next (done s (mbUpd (acc s fn) m.val (if b.enable then rspPump m.val b1 b.rspWait else b1)))) ∧
  (∀ (fn : Fin 2) (m : Fin 8) (index : Word32), alive s → mbViol s fn m = none →
    let b := boxOf s.mb m.val
    let b1 := { b with evtTail := index, evtRing := ringKeep b.evtRing (b.evtHead - index).toNat }
    exec (.mbEvtTail fn m index) s =
      .next (done s (mbUpd (acc s fn) m.val (if b.enable then evtPump m.val b1 b.finals else b1)))) ∧
  (∀ (m : Fin 8) (tag : Word16) (had : Nat), running s → (boxOf s.mb m.val).reqChain = some (tag, had) →
    exec (.chainTimeout m) s = .next (done s (mbUpd s m.val (rspWrite m.val (mbAlive s.mb m.val 0)
      { boxOf s.mb m.val with reqChain := none, badRequest := true }
      ⟨false, false, false, 0, tag, 0, .badParam, 0, false, [], 1⟩)))) ∧
  (∀ (fn : Fin 2) (mask : Word64), alive s →
    exec (.intPendClear fn 0 mask) s = .next (done s (pendClear (acc s fn) fn 0 mask)) ∧
    exec (.intPendClear fn 1 mask) s = .next (done s (pendClear (acc s fn) fn 64 mask))) ∧
  (∀ (fn : Fin 2) (g : Fin 64) (mask : Word64), alive s →
    exec (.intPendClear fn ⟨g.val + 2, by omega⟩ mask) s = .next (done s (qpendClear (acc s fn) fn g.val mask))) ∧
  (∀ (fn : Fin 2) (offset size : Nat) (value : Word64) (p : BarPlace) (r : RegRow), offset < barSize → alive s →
    regAccess (acc s fn) fn offset size true = .ok (p, r) →
    exec (.registerWrite fn offset size value) s = .next (done s (placeWrite (acc s fn) fn offset size p value
      (mergeReg (BitVec.ofNat 64 r.val) (maskOfAcc offset size) (laneOfAcc offset size value))
      (maskOfAcc offset size) (laneOfAcc offset size value)))) ∧
  (∀ (fn : Fin 2) (offset size kind : Nat), offset < barSize → alive s → regAccess (acc s fn) fn offset size false = .error kind →
    exec (.pcieReadViolation fn offset size) s = .next (done s (violRead (acc s fn) fn offset size kind))) ∧
  (∀ (fn : Fin 2) (offset : Nat), offset < barSize → alive s →
    exec (.shadowHalfRead fn offset) s = .next (done s (readEff fn offset 4 (acc s fn))))

/-- Each of these commands answers a next state for every state and operands that meet the conditions written before it,
which speak of the state and the operands alone; the next state is the one its effect makes, the outputs settled and
the queue untouched: TLS_HANDSHAKE_BEGIN, TLS_HANDSHAKE_DONE, TLS_KEY_UPDATE, TLS_IDLE_EXPIRY, TLS_SESSION_CLOSE,
TUNNEL_GMI_FRAME, TUNNEL_KEEPALIVE, TUNNEL_FRAME_INVALID, SESSION_IDLE_EXPIRY, SESSION_LIFE_EXPIRY, ETH_LINK_CHANGE,
PAUSE_RX, PAUSE_RENEWAL. (Rests on 17_host_and_mailboxes.md, 19_register_map.md.) -/
def Obligations.SessionsAndEthernetComplete : Prop :=
  ∀ s : State,
  (∀ (port : Fin 2) (identity : Word32), running s → egressOk s → notActive s = false → 0 ≤ prm s .tlsCertChain → tlsRoom s.mb →
    exec (.tlsHandshakeBegin port identity) s =
      .next (done s { s with mb := { s.mb with handshakes := s.mb.handshakes ++ [(port, identity.toNat)] } })) ∧
  (∀ (port : Fin 2) (identity anchor : Word32), running s → s.mb.handshakes.contains (port, identity.toNat) → egressOk s →
    notActive s = false →
    exec (.tlsHandshakeDone port identity (some anchor)) s = .next (done s (tlsBind port identity anchor
      { s with mb := { s.mb with handshakes := s.mb.handshakes.erase (port, identity.toNat) } }))) ∧
  (∀ (sess : Nat) (received : Bool), running s →
    exec (.tlsKeyUpdate sess received) s = .next (done s { s with mb := { s.mb with tls := s.mb.tls.modify sess (fun t =>
      { t with keyUpdates := t.keyUpdates + 1, sentRecs := 0, recvRecs := if received then 0 else t.recvRecs }) } })) ∧
  (∀ (sess : Nat), running s →
    exec (.tlsIdleExpiry sess) s = .next (done s (tlsIdleExpiryEff sess s))) ∧
  (∀ (sess : Nat), running s →
    exec (.tlsSessionClose sess) s = .next (done s (tlsClose s sess))) ∧
  (∀ (sess : Nat) (tag : Word16) (ndesc : Nat) (note : ReadyNote) (t : TlsSess), running s → s.mb.tls.get? sess = some t →
    t.outstanding < prmN s .mbTunnelOutstanding →
    let t1 := { t with lastRecNs := s.time.mc, recvRecs := t.recvRecs + 1, outstanding := t.outstanding + 1 }
    exec (.tunnelGmiFrame sess tag ndesc note) s = .next (done s (noteEff
      (arrive { s with mb := { s.mb with tls := s.mb.tls.set sess t1 } } t.mb.val sess tag ndesc) t.mb.val note))) ∧
  (∀ (sess : Nat), running s →
    exec (.tunnelKeepalive sess) s =
      .next (done s ({ s with mb := { s.mb with tls := s.mb.tls.modify sess (fun t => { t with lastRecNs := s.time.mc, recvRecs := t.recvRecs + 1 }) } }))) ∧
  (∀ (sess : Nat) (t : TlsSess), running s → s.mb.tls.get? sess = some t →
    let p := ethPort s.eth t.port.val
    exec (.tunnelFrameInvalid sess) s = .next (done s (tlsClose { s with
      eth := ethSet s.eth t.port.val { p with decodeErrors := p.decodeErrors + 1 }
      mb := { s.mb with alerts := s.mb.alerts.set t.port.val (s.mb.alerts.getD t.port.val 0 + 1) } } sess))) ∧
  (∀ (slot : Fin 16384), running s →
    exec (.sessionIdleExpiry slot) s =
      .next (done s (expireSlot (fun s x => decide (prmN s .ctxMeterIdle * nsPerS ≤ s.time.mc - x.lastTraffic)) slot.val s))) ∧
  (∀ (slot : Fin 16384), running s →
    exec (.sessionLifeExpiry slot) s =
      .next (done s (expireSlot (fun s x => decide (prmN s .ctxMeterLife * nsPerS ≤ s.time.mc - x.opened)) slot.val s))) ∧
  (∀ (port : Fin 4) (lock localFault remoteFault : Bool), running s →
    exec (.ethLinkChange port lock localFault remoteFault) s = .next (done s (ethLinkChangeEff port.val lock localFault remoteFault s))) ∧
  (∀ (port : Fin 4) (f : PauseFrame), running s && decide (prm s .ethSpeed port.val ≠ 0) →
    exec (.pauseRx port f) s = .next (done s (pauseRxEff port.val f s))) ∧
  (∀ (port : Fin 2), running s →
    exec (.pauseRenewal port) s = .next (done s (pauseRenewalEff port.val s)))

/-- Each of these commands answers a next state for every state and operands that meet the conditions written before it,
which speak of the state and the operands alone; the next state is the one its effect makes, the outputs settled and
the queue untouched: TICK_BOUNDARY, TICK_CLOSE, RECORD_WRITE, JOURNAL_DURABLE, STRIPE_PROGRAMMED, TIME_SNAP,
INCR_WRITE, ADJ_LOW_WRITE, ADJ_WRITE, SLEW_EN_WRITE, PPS_OUT_EDGE, RTC_WRITE. (Rests on 01_time_and_the_tick.md,
13_event_recorder.md, 19_register_map.md.) -/
def Obligations.TickAndClocksComplete : Prop :=
  ∀ s : State,
  (∀ (latch : List (Nat × List TickPhase)), mayTick s →
    exec (.tickBoundary latch) s = .next (done s (tickBoundaryEff latch s))) ∧
  (running s →
    exec .tickClose s = .next (done s (tickCloseEff s))) ∧
  (∀ (res : RecWrite), s.boot.powered →
    exec (.recordWrite res) s = .next (done s (recRaise s.recd (recordWriteEff res s)))) ∧
  (running s →
    exec .journalDurable s = .next (done s (reschedule (durableStep s)))) ∧
  (running s →
    exec .stripeProgrammed s = .next (done s (stripeProgrammedEff s))) ∧
  (∀ (fn : Fin 2), alive s →
    exec (.timeSnap fn) s = .next (done s (snapEff (acc s fn) fn))) ∧
  (∀ (reg : Fin 3) (part : RegPart) (value : Word64), alive s → s.time.hostOwner →
    let i := incrWrite (incrOf s.time reg) part value.toNat
    incrAsked (incrOf s.time reg).val part value.toNat = i.val →
    exec (.incrWrite 0 reg part value) s =
      .next (done s { acc s 0 with time := { incrSet s.time reg i with watchdogNs := 0 } })) ∧
  (∀ (reg : Fin 3) (part : RegPart) (value : Word64), alive s → s.time.hostOwner →
    let i := incrWrite (incrOf s.time reg) part value.toNat
    incrAsked (incrOf s.time reg).val part value.toNat ≠ i.val →
    exec (.incrWrite 0 reg part value) s =
      .next (done s (timeTrouble { acc s 0 with time := { incrSet s.time reg i with watchdogNs := 0 } }
        (incrOffset reg + partOff part) (accByte 2 0 true) .badParam reg.val 1))) ∧
  (∀ (d : Dom) (value : Word32), alive s → s.time.hostOwner →
    exec (.adjLowWrite 0 d value) s = .next (done s { acc s 0 with time := latchSet s.time d (some value) })) ∧
  (∀ (d : Dom) (highOnly : Bool) (value : Word64), alive s → s.time.hostOwner →
    exec (.adjWrite 0 d highOnly value) s = .next (done s { acc s 0 with
      time := latchSet (domStep s.time d (adjValue (latchOf s.time d) highOnly value)) d none })) ∧
  (∀ (fn : Fin 2) (value : Word64), alive s →
    exec (.slewEnWrite fn value) s = .next (done s (slewEnWriteEff fn value (acc s fn)))) ∧
  (∀ (rise : Bool), running s →
    exec (.ppsOutEdge rise) s = .next (done s ({ s with boot := { s.boot with ppsHigh := rise && decide (s.time.etState ≠ .freeRun) } }))) ∧
  (running s && decide (s.time.etState = .tracking) && decide (s.vault.life ≠ .blank) →
    exec .rtcWrite s = .next (done s ({ s with vault := { s.vault with rtc := some s.time.et }, time := { s.time with rtcWriteMc := s.time.mc } })))

/-- Each of these commands answers a next state for every state and operands that meet the conditions written before it,
which speak of the state and the operands alone; the next state is the one its effect makes, the outputs settled and
the queue untouched: PTP_SYNC_RX, FOLLOW_UP_RX, PTP_ANNOUNCE_RX, ANNOUNCE_RECEIPT_TIMEOUT, DELAY_REQ_SEND,
PTP_DELAY_RESP_RX, PDELAY_REQ_RX, PDELAY_RESP_RX, PTP_MANAGEMENT_RX, PTP_MASTER_SYNC_SEND, PTP_MASTER_ANNOUNCE_SEND,
PTP_DELAY_REQ_RX, AUTO_HOLDOFF_EXPIRY, HOLDOVER_LIMIT_EXPIRY, HOST_WATCHDOG_EXPIRY. (Rests on
01_time_and_the_tick.md.) -/
def Obligations.PtpComplete : Prop :=
  ∀ s : State,
  (∀ (d : Dom) (m : SyncMsg), running s →
    exec (.ptpSyncRx d m) s = .next (done s (ptpSyncRxEff d m s))) ∧
  (∀ (d : Dom) (master : Word64) (offsetNs : Int), running s →
    exec (.followUpRx d master offsetNs) s = .next (done s (followUpRxEff d master offsetNs s))) ∧
  (∀ (d : Dom) (a : Announce), running s →
    exec (.ptpAnnounceRx d a) s = .next (done s (ptpAnnounceRxEff d a s))) ∧
  (∀ (d : Dom), running s →
    exec (.announceReceiptTimeout d) s = .next (done s (announceReceiptTimeoutEff d s))) ∧
  (∀ d : Dom, running s → (ptpOf s.time d).state ≠ .disabled → prm s .tdProfile (domIdx d) = 1 ∨ (ptpOf s.time d).master.isSome →
    exec (.delayReqSend d) s = .next (done s (ethTx { s with time := ptpSet s.time d { ptpOf s.time d with
      reqOut := true, reqSent := (ptpOf s.time d).reqSent + 1 } } (domPort s d) true))) ∧
  (∀ (d : Dom) (pathNs : Nat), running s →
    exec (.ptpDelayRespRx d pathNs) s = .next (done s (delayDone 0 d pathNs false s))) ∧
  (∀ d : Dom, running s → prm s .tdProfile (domIdx d) = 1 → (ptpOf s.time d).state ≠ .disabled →
    let s1 := ethRx s (domPort s d) true
    exec (.pdelayReqRx d) s = .next (done s (ethTx { s1 with time := ptpSet s.time d { ptpOf s.time d with
      pdelayAnswered := (ptpOf s.time d).pdelayAnswered + 1 } } (domPort s d) true))) ∧
  (∀ (d : Dom) (pathNs : Nat), running s →
    exec (.pdelayRespRx d pathNs) s = .next (done s (delayDone 1 d pathNs true s))) ∧
  (∀ port : Fin 4, running s →
    let s1 := ethRx s port.val false
    exec (.ptpManagementRx port) s = .next (done s { s1 with time := { s.time with
      management := s.time.management.set port.val (s.time.management.getD port.val 0 + 1) } })) ∧
  (running s → egressOk s → prm s .tEthdOneStep = 1 →
    exec .ptpMasterSyncSend s = .next (done s (ethTx { s with time := { s.time with mSyncSeq := s.time.mSyncSeq + 1 } } 3 true))) ∧
  (running s → egressOk s → prm s .tEthdOneStep ≠ 1 →
    let s1 := ethTx { s with time := { s.time with mSyncSeq := s.time.mSyncSeq + 1 } } 3 true
    exec .ptpMasterSyncSend s =
      .next (done s (ethTx { s1 with time := { s1.time with mFollowSeq := s.time.mSyncSeq + 1 } } 3 false))) ∧
  (∀ x : DomPtp, running s → egressOk s → (selDom s).map (ptpOf s.time) = some x →
    exec .ptpMasterAnnounceSend s = .next (done s (ethTx { s with
      freeCtr := s.freeCtr + 1
      time := { s.time with
        mAnnSeq := s.time.mAnnSeq + 1, mAnnClass := masterClass s.time, mAnnGm := x.gmId, mAnnSteps := x.stepsRemoved + 1 } } 3 false))) ∧
  (∀ cell : Fin 1024, running s → egressOk s →
    let s1 := ethRx s 3 true
    exec (.ptpDelayReqRx cell) s =
      .next (done s (ethTx { s1 with time := { s.time with mDelayResp := s.time.mDelayResp + 1 } } 3 false))) ∧
  (running s && decide (prm s .tSelect = 2) && decide ((ptpOf s.time s.time.following).state ≠ .locked) →
    exec .autoHoldoffExpiry s = .next (done s (timeRefresh { s with time := { s.time with holdoffDone := true } }))) ∧
  (running s → s.time.etState = .holdover → s.time.unsynced = false →
    let t := { s.time with unsynced := true }
    exec .holdoverLimitExpiry s =
      .next (done s (timeTrouble (emitAll { s with time := t } [unsyncedEvent t]) 0 (accByte 0 0 false) .timeUnsynced 2 3))) ∧
  (running s && (decide (s.time.ptpA.state = .locked) || decide (s.time.ptpB.state = .locked)) →
    exec .hostWatchdogExpiry s = .next (done s (servoReturn s 2)))

/-- Each of these commands answers a next state for every state and operands that meet the conditions written before it,
which speak of the state and the operands alone; the next state is the one its effect makes, the outputs settled and
the queue untouched: TIME_GET, TIME_CONFIG_DOMAIN, TIME_SELECT, CALENDAR_STEP, TIME_STATUS, SERVO_OWNER. (Rests on
01_time_and_the_tick.md, 18_command_reference.md.) -/
def Obligations.TimeRequestsServed : Prop :=
  ∀ s : State,
  (∀ (r : Req), Accepts ciTimeGet noTable r s →
    exec (.timeGet r) s = .next (done s (carried ciTimeGet r ⟨taken s r, .ok, timeGetBody (taken s r), []⟩))) ∧
  (∀ (r : Req) (domain enable profile port transport number : BitVec 8), Accepts ciTimeConfigDomain noTable r s →
    exec (.timeConfigDomain r domain enable profile port transport number) s =
      .next (done s (carried ciTimeConfigDomain r (timeConfigDomain domain enable profile port transport number (taken s r))))) ∧
  (∀ (r : Req) (select : BitVec 8), Accepts ciTimeSelect noTable r s →
    exec (.timeSelect r select) s = .next (done s (carried ciTimeSelect r (timeSelect select (taken s r))))) ∧
  (∀ (r : Req) (stepNs : Word64), Accepts ciCalendarStep noTable r s →
    exec (.calendarStep r stepNs) s = .next (done s (carried ciCalendarStep r (calendarStep stepNs (taken s r))))) ∧
  (∀ (r : Req), Accepts ciTimeStatus noTable r s →
    exec (.timeStatus r) s = .next (done s (carried ciTimeStatus r ⟨taken s r, .ok, timeStatusBody (taken s r), []⟩))) ∧
  (∀ (r : Req) (owner : BitVec 8), Accepts ciServoOwner noTable r s →
    exec (.servoOwner r owner) s = .next (done s (carried ciServoOwner r (servoOwner owner (taken s r)))))

/-- Each of these commands answers a next state for every state and operands that meet the conditions written before it,
which speak of the state and the operands alone; the next state is the one its effect makes, the outputs settled and
the queue untouched: ZC_CROSSING, ZC_SILENCE, SUPERFRAME_BOUNDARY, BEACON_VERIFY, SLOT_START, LAUNCH_TIME_REACHED.
(Rests on 02_plc_links.md.) -/
def Obligations.PlcScheduleComplete : Prop :=
  ∀ s : State,
  (∀ (det : Fin 4) (et : Nat), running s →
    exec (.zcCrossing det et) s = .next (done s (zcCrossingEff det et s))) ∧
  (∀ (det : Fin 4), running s →
    exec (.zcSilence det) s = .next (done s (zcSilenceEff det s))) ∧
  (∀ (lp : Fin 4112), running s && coord s lp.val && pairTickOf s % prmN s .plcSfTicks lp.val == 0 →
    exec (.superframeBoundary lp) s = .next (done s (superframeEff lp s))) ∧
  (∀ (ch : Fin 16) (ok : Bool) (snr : Int), running s →
    exec (.beaconVerify ch ok snr) s = .next (done s (swapCheck (beaconVerifyEff ch ok snr s)))) ∧
  (∀ (ch : Fin 16) (slot : Nat), running s && coord s (plcLp ch.val) && decide (slot < slotCount s (plcLp ch.val)) →
    exec (.slotStart ch slot) s = .next (done s (slotStartEff ch slot s))) ∧
  (∀ q : Fin 2048, running s → exec (.launchTimeReached (.queue q)) s = .next (done s (qLaunch s q.val))) ∧
  (∀ ch : Fin 16, running s → exec (.launchTimeReached (.beacon ch)) s = .next (done s (beaconLaunch s ch.val)))

/-- Each of these commands answers a next state for every state and operands that meet the conditions written before it,
which speak of the state and the operands alone; the next state is the one its effect makes, the outputs settled and
the queue untouched: PLC_FRAME_RX, PLC_ACK_RX, PLC_NACK_RX, PLC_ACK_TIMEOUT, JOIN_REQ_RX, NEIGHBOUR_REPORT_RX,
TONE_MAP_UPDATE_RX, KEEPALIVE_RX, PLC_COMPAT_FRAME_RX, BEACON_REQUEST_RX, RREQ_RX, TONE_MAP_REQUEST_RX,
LBP_BOOTSTRAP_RX. (Rests on 02_plc_links.md.) -/
def Obligations.PlcFramesComplete : Prop :=
  ∀ s : State,
  (∀ (ch : Fin 16) (f : PlcRx), running s && coord s (plcLp ch.val) →
    exec (.plcFrameRx ch f) s = .next (done s (plcFrameRxEff ch f s))) ∧
  (∀ (ch : Fin 16) (seq : BitVec 8), running s && coord s (plcLp ch.val) →
    exec (.plcAckRx ch seq) s = .next (done s (plcAckRxEff ch seq s))) ∧
  (∀ (ch : Fin 16) (seq reason zoneFault retxSlot : BitVec 8), running s && coord s (plcLp ch.val) →
    exec (.plcNackRx ch seq reason zoneFault retxSlot) s = .next (done s (plcNackRxEff ch seq reason zoneFault retxSlot s))) ∧
  (∀ (ch : Fin 16) (seq : BitVec 8), running s && coord s (plcLp ch.val) →
    exec (.plcAckTimeout ch seq) s = .next (done s (retransmit s (plcLp ch.val) seq 0 none true))) ∧
  (∀ (lp : Fin 4112) (src : Sender) (micOk : Bool) (snr : Int), running s && coord s lp.val →
    exec (.joinReqRx lp src micOk snr) s = .next (done s (joinReqRxEff lp src micOk snr s))) ∧
  (∀ (lp : Fin 4112) (src : Word16) (micOk : Bool) (l : List (Word16 × Int)), running s && coord s lp.val →
    exec (.neighbourReportRx lp src micOk l) s = .next (done s (neighbourReportRxEff lp src micOk l s))) ∧
  (∀ (lp : Fin 4112) (src frm : Word16) (micOk : Bool) (a : TmArg), running s && coord s lp.val →
    exec (.toneMapUpdateRx lp src frm micOk a) s = .next (done s (toneMapUpdateRxEff lp src frm micOk a s))) ∧
  (∀ (lp : Fin 4112) (src : Word16) (micOk : Bool), running s && coord s lp.val →
    exec (.keepaliveRx lp src micOk) s = .next (done s (keepaliveRxEff lp src micOk s))) ∧
  (∀ (ch : Fin 16) (f : PlcRx), running s && plcUp s (plcLp ch.val) →
    exec (.plcCompatFrameRx ch f) s = .next (done s (plcCompatRxEff ch f s))) ∧
  (∀ (ch : Fin 16), running s && plcUp s (plcLp ch.val) →
    exec (.beaconRequestRx ch) s = .next (done s (compatAnswer s (plcLp ch.val)))) ∧
  (∀ (ch : Fin 16) (forEngine : Bool), running s && plcUp s (plcLp ch.val) && forEngine →
    exec (.rreqRx ch forEngine) s = .next (done s (compatAnswer s (plcLp ch.val)))) ∧
  (∀ (ch : Fin 16), running s && plcUp s (plcLp ch.val) →
    exec (.toneMapRequestRx ch) s = .next (done s (compatAnswer s (plcLp ch.val)))) ∧
  (∀ (ch : Fin 16) (eui : Word64) (completes : Bool), running s && plcUp s (plcLp ch.val) →
    exec (.lbpBootstrapRx ch eui completes) s = .next (done s (lbpBootstrapRxEff ch eui completes s)))

/-- Each of these commands answers a next state for every state and operands that meet the conditions written before it,
which speak of the state and the operands alone; the next state is the one its effect makes, the outputs settled and
the queue untouched: TIMESLOT_START, RF_FRAME_RX, RF_ENHANCED_ACK_RX, RF_ACK_TIMEOUT, SIXTOP_RESPONSE_RX,
SIXTOP_REQUEST_RX, IQ_GAP, IQ_STALL, IQ_RESUME. (Rests on 03_rf_links.md.) -/
def Obligations.RfComplete : Prop :=
  ∀ s : State,
  (∀ (port : Fin 4), running s && rfUp s port.val →
    exec (.timeslotStart port) s = .next (done s (timeslotStartEff port s))) ∧
  (∀ (port : Fin 4) (f : RfRx), running s && rfLive s port.val →
    exec (.rfFrameRx port f) s = .next (done s (rfFrameRxEff port f s))) ∧
  (∀ (port : Fin 4) (seq : BitVec 8) (micOk nack : Bool) (offsetNs : Int), running s && rfLive s port.val →
    exec (.rfEnhancedAckRx port seq micOk nack offsetNs) s = .next (done s (rfEnhancedAckRxEff port seq micOk nack offsetNs s))) ∧
  (∀ (port : Fin 4) (seq : BitVec 8) (child : Option (Fin 1048576)), running s && rfLive s port.val →
    exec (.rfAckTimeout port seq child) s = .next (done s (rfAckTimeoutEff port seq child s))) ∧
  (∀ (port : Fin 4) (src : Sender) (micOk ok : Bool), running s && rfLive s port.val →
    exec (.sixtopResponseRx port src micOk ok) s = .next (done s (sixtopResponseRxEff port src micOk ok s))) ∧
  (∀ (port : Fin 4) (src : Sender) (micOk list : Bool), running s && rfLive s port.val →
    exec (.sixtopRequestRx port src micOk list) s = .next (done s (sixtopRequestRxEff port src micOk list s))) ∧
  (∀ (port : Fin 4) (receiving sending : Bool), running s && rfUp s port.val →
    exec (.iqGap port receiving sending) s = .next (done s (iqGapEff port receiving sending s))) ∧
  (∀ (port : Fin 4), running s && rfUp s port.val →
    exec (.iqStall port) s = .next (done s (iqStallEff port s))) ∧
  (∀ (port : Fin 4), running s && rfUp s port.val →
    exec (.iqResume port) s = .next (done s (iqResumeEff port s)))

/-- Each of these commands answers a next state for every state and operands that meet the conditions written before it,
which speak of the state and the operands alone; the next state is the one its effect makes, the outputs settled and
the queue untouched: CELL_HELLO_RX, CELL_STATUS_RX, UP_FRAME_RX, CELL_MEASURE_RX, BACKLOG_BEGIN_RX, BACKLOG_CHUNK_RX,
BACKLOG_END_RX, TIME_ALIGN_RX, CREDIT_RX, CELL_SILENCE, KCL_RTO, BACKLOG_TIMEOUT, BACKLOG_KEEP_EXPIRY,
TIME_ALIGN_SEND, DESCRIPTOR_SEND, CREDIT_SEND. (Rests on 04_remote_cells.md.) -/
def Obligations.CellsComplete : Prop :=
  ∀ s : State,
  (∀ (c : Fin 1024) (h : KclHdr) (b : HelloBody) (a : Admission) (w : KeyView), running s → KclPasses s c.val h true a w →
    exec (.cellHelloRx c h b) s =
      .next (done s (helloEff c.val b (!(cellOf s c.val).upSeen || decide ((cellOf s c.val).upEpoch < h.epoch)) (kclPassed s c.val h a w)))) ∧
  (∀ (c : Fin 1024) (h : KclHdr) (b : CellStatusBody) (a : Admission) (w : KeyView), running s → KclPasses s c.val h false a w → kclUp (kclPassed s c.val h a w) c.val →
    exec (.cellStatusRx c h b) s =
      .next (done s (cellSet (kclPassed s c.val h a w) c.val { cellOf (kclPassed s c.val h a w) c.val with status := some b, ptpState := b.ptpState }))) ∧
  (∀ (c : Fin 1024) (h : KclHdr) (dnum : Word32) (b : UpBody) (a : Admission) (w : KeyView), running s → KclPasses s c.val h false a w →
    exec (.upFrameRx c h dnum b) s = .next (done s (uplink c.val dnum (fun s =>
      admitCell (upHop s c.val b) c.val (.frame (upInFrame (upHop s c.val b) c.val b))) (kclPassed s c.val h a w)))) ∧
  (∀ (c : Fin 1024) (h : KclHdr) (dnum : Word32) (b : MeasBody) (a : Admission) (w : KeyView), running s → KclPasses s c.val h false a w →
    exec (.cellMeasureRx c h dnum b) s = .next (done s (uplink c.val dnum (fun s => admitCell s c.val (.measure c.val b)) (kclPassed s c.val h a w)))) ∧
  (∀ (c : Fin 1024) (h : KclHdr) (dnum id first : Word32) (a : Admission) (w : KeyView), running s → KclPasses s c.val h false a w →
    exec (.backlogBeginRx c h dnum id first) s = .next (done s (uplink c.val dnum (backlogBegin c.val id first) (kclPassed s c.val h a w)))) ∧
  (∀ (c : Fin 1024) (h : KclHdr) (dnum id chunk : Word32) (recs : List UpBody) (a : Admission) (w : KeyView), running s → KclPasses s c.val h false a w →
    exec (.backlogChunkRx c h dnum id chunk recs) s =
      .next (done s (uplink c.val dnum (backlogChunk c.val id chunk.toNat recs) (kclPassed s c.val h a w)))) ∧
  (∀ (c : Fin 1024) (h : KclHdr) (dnum id chunks : Word32) (a : Admission) (w : KeyView), running s → KclPasses s c.val h false a w →
    exec (.backlogEndRx c h dnum id chunks) s = .next (done s (uplink c.val dnum (backlogEnd c.val id chunks.toNat) (kclPassed s c.val h a w)))) ∧
  (∀ (c : Fin 1024) (h : KclHdr) (ptpState : Fin 3) (offsetNs : Int) (a : Admission) (w : KeyView), running s → KclPasses s c.val h false a w → kclUp (kclPassed s c.val h a w) c.val →
    exec (.timeAlignRx c h ptpState offsetNs) s = .next (done s (timeAlignRx c.val ptpState.val offsetNs (kclPassed s c.val h a w)))) ∧
  (∀ (c : Fin 1024) (h : KclHdr) (b : CreditBody), running s →
    exec (.creditRx c h b) s = .next (done s (swapCheck (creditRxEff c h b s)))) ∧
  (∀ (c : Fin 1024), running s →
    exec (.cellSilence c) s = .next (done s (swapCheck (cellSilenceEff c s)))) ∧
  (∀ (c : Fin 1024) (dnum : Word32), running s && kclOn s →
    exec (.kclRto c dnum) s = .next (done s (kclRtoEff c dnum s))) ∧
  (∀ (c : Fin 1024), running s →
    exec (.backlogTimeout c) s = .next (done s (backlogTimeoutEff c s))) ∧
  (∀ (c : Fin 1024) (id : Word32), running s →
    exec (.backlogKeepExpiry c id) s = .next (done s (cellSet s c.val { cellOf s c.val with
      remembered := (cellOf s c.val).remembered.filter (fun r =>
        !(decide (r.1 = id) && decide (prmN s .kclBacklogKeep * nsPerS ≤ s.time.mc - r.2.2))) }))) ∧
  (∀ (c : Fin 1024), running s && kclOn s && decide ((cellOf s c.val).state = .up) →
    exec (.timeAlignSend c) s = .next (done s (sendAlign s c.val))) ∧
  (∀ (c : Fin 1024) (port : Fin 4), running s && kclOn s && decide ((cellOf s c.val).state = .up) && coord s (cellLp c.val port.val) →
    exec (.descriptorSend c port) s = .next (done s (descriptorSendEff c port s))) ∧
  (∀ (c : Fin 1024), running s && kclOn s && decide ((cellOf s c.val).state = .up) && (ackWaits s c.val || limitRises s c.val) →
    exec (.creditSend c) s = .next (done s (creditSendEff c s)))

/-- Each of these commands answers a next state for every state and operands that meet the conditions written before it,
which speak of the state and the operands alone; the next state is the one its effect makes, the outputs settled and
the queue untouched: CTX_PROVISION, CTX_GET, CTX_UPDATE, CTX_SUSPEND, CTX_RETIRE, CTX_BULK_LOAD, CTX_QUERY,
BULK_LOAD_RECORDS. (Rests on 05_meter_contexts.md, 18_command_reference.md.) -/
def Obligations.ContextRequestsServed : Prop :=
  ∀ s : State,
  (∀ (r : Req) (importKek : Word32) (rec : ProvRec), Accepts ciCtxProvision noTable r s →
    exec (.ctxProvision r importKek rec) s = .next (done s (carried ciCtxProvision r (ctxProvision r importKek rec (taken s r))))) ∧
  (∀ (r : Req) (mcx : Word32), Accepts ciCtxGet noTable r s → mcx.toNat < mcxCount →
    exec (.ctxGet r mcx) s = .next (done s (carried ciCtxGet r ⟨taken s r, .ok, mctBody (mctOf (taken s r) mcx.toNat), []⟩))) ∧
  (∀ (r : Req) (mcx updSeq : Word32) (mask cls cal : BitVec 8) (topo : Word16) (feeder flags : BitVec 8), Accepts ciCtxUpdate noTable r s →
    exec (.ctxUpdate r mcx updSeq mask cls cal topo feeder flags) s =
      .next (done s (carried ciCtxUpdate r (ctxUpdate mcx.toNat updSeq mask cls cal topo feeder flags (taken s r))))) ∧
  (∀ (r : Req) (mcx : Word32), Accepts ciCtxSuspend noTable r s →
    exec (.ctxSuspend r mcx) s = .next (done s (carried ciCtxSuspend r (ctxSuspend mcx.toNat (taken s r))))) ∧
  (∀ (r : Req) (mcx flags : Word32), Accepts ciCtxRetire noTable r s →
    exec (.ctxRetire r mcx flags) s = .next (done s (carried ciCtxRetire r (ctxRetire r mcx.toNat flags (taken s r))))) ∧
  (∀ (r : Req) (pkg : Fetch BulkPkg), Accepts ciCtxBulkLoad noTable r s →
    exec (.ctxBulkLoad r pkg) s = .next (done s (carried ciCtxBulkLoad r (ctxBulkLoad r pkg (taken s r))))) ∧
  (∀ (r : Req) (by_ mask : BitVec 8) (link : Word16) (port : BitVec 8) (short : Word16) (eui cursor : Word64), Accepts ciCtxQuery noTable r s →
    exec (.ctxQuery r by_ mask link port short eui cursor) s =
      .next (done s (carried ciCtxQuery r (ctxQuery by_ mask link port short eui cursor (taken s r))))) ∧
  (running s →
    exec .bulkLoadRecords s = .next (done s (bulkLoadRecordsEff s)))

/-- Each of these commands answers a next state for every state and operands that meet the conditions written before it,
which speak of the state and the operands alone; the next state is the one its effect makes, the outputs settled and
the queue untouched: KEY_IMPORT_WRAPPED, KEY_GENERATE, KEY_INVALIDATE, KEY_ROTATE_METER, KEY_ATTR_GET,
KEY_EXPORT_PUBLIC, GET_LIFECYCLE, ADVANCE_LIFECYCLE, QUARANTINE_EXPIRY. (Rests on 06_keys_and_crypto.md,
18_command_reference.md.) -/
def Obligations.KeyRequestsServed : Prop :=
  ∀ s : State,
  (∀ (r : Req) (a : ImportArg), Accepts ciKeyImportWrapped noTable r s →
    exec (.keyImportWrapped r a) s = .next (done s (carried ciKeyImportWrapped r (keyImport r a (taken s r))))) ∧
  (∀ (r : Req) (target : Word32) (a : KeyAttr), Accepts ciKeyGenerate noTable r s →
    exec (.keyGenerate r target a) s = .next (done s (carried ciKeyGenerate r (keyGenerate r target a (taken s r))))) ∧
  (∀ (r : Req) (h : Word32), Accepts ciKeyInvalidate noTable r s →
    exec (.keyInvalidate r h) s = .next (done s (carried ciKeyInvalidate r (keyInvalidate r h (taken s r))))) ∧
  (∀ (r : Req) (mcx : Word32) (mask op : BitVec 8) (kek : Word32) (wUc wAk wBk : Option Wrapped), Accepts ciKeyRotateMeter noTable r s →
    exec (.keyRotateMeter r mcx mask op kek wUc wAk wBk) s =
      .next (done s (carried ciKeyRotateMeter r (keyRotate r mcx.toNat mask op kek [wUc, wAk, wBk] (taken s r))))) ∧
  (∀ (r : Req) (h : Word32), Accepts ciKeyAttrGet noTable r s →
    exec (.keyAttrGet r h) s = .next (done s (carried ciKeyAttrGet r (keyAttrGet r h (taken s r))))) ∧
  (∀ (r : Req) (h : Word32), Accepts ciKeyExportPublic noTable r s →
    exec (.keyExportPublic r h) s = .next (done s (carried ciKeyExportPublic r (keyExportPublic r h (taken s r))))) ∧
  (∀ (r : Req), Accepts ciGetLifecycle noTable r s →
    exec (.getLifecycle r) s = .next (done s (carried ciGetLifecycle r (getLifecycle r (taken s r))))) ∧
  (∀ (r : Req) (target : BitVec 8) (handle : Word32) (sig : Option Bool), Accepts ciAdvanceLifecycle noTable r s →
    exec (.advanceLifecycle r target handle sig) s = .next (done s (carried ciAdvanceLifecycle r (advanceLifecycle r target handle sig (taken s r))))) ∧
  (running s →
    exec .quarantineExpiry s = .next (done s (quarantineExpiryEff s)))

/-- Each of these commands answers a next state for every state and operands that meet the conditions written before it,
which speak of the state and the operands alone; the next state is the one its effect makes, the outputs settled and
the queue untouched: LINK_RX, CELL_RX, DEFRAG, DECRYPT_VERIFY, REPLAY_CHECK, PARSE_APDU, CONTEXT_UPDATE, VALIDATE,
ESTIMATE, BILL_POST, DEMAND, BALANCE_ACCUM, PHASE_CORR, DOWNLINK_BUILD, ENCRYPT, LINK_TX. (Rests on
07_ingestion_graph.md, 02_plc_links.md, 03_rf_links.md, 04_remote_cells.md, 05_meter_contexts.md,
06_keys_and_crypto.md, 08_validation_and_estimation.md, 09_billing.md, 11_energy_balance.md.) -/
def Obligations.NodesComplete : Prop :=
  ∀ s : State,
  (∀ (core : Fin 64) (r : Run) (i : Item) (x : GNode), running s → Dispatched s tLinkRx core.val noLine linkRxItem r i x →
    exec (.linkRx core) s = .next (done s (worked s core.val noLine linkRxItem i x))) ∧
  (∀ (core : Fin 64) (r : Run) (i : Item) (x : GNode), running s → Dispatched s tCellRx core.val noLine cellRxItem r i x →
    exec (.cellRx core) s = .next (done s (worked s core.val noLine cellRxItem i x))) ∧
  (∀ (core : Fin 64) (r : Run) (i : Item) (x : GNode), running s → Dispatched s tDefrag core.val noLine defragItem r i x →
    exec (.defrag core) s = .next (done s (worked s core.val noLine defragItem i x))) ∧
  (∀ (core : Fin 64) (lane : Fin 16) (r : Run) (i : Item) (x : GNode), running s → s.pair.withdrawn.contains lane.val = false → Dispatched s tDecrypt core.val itemLine (decryptItem lane.val) r i x →
    exec (.decryptVerify core lane) s = .next (done s (worked s core.val itemLine (decryptItem lane.val) i x))) ∧
  (∀ (core : Fin 64) (r : Run) (i : Item) (x : GNode), running s → Dispatched s tReplay core.val itemLine replayItem r i x →
    exec (.replayCheck core) s = .next (done s (worked s core.val itemLine replayItem i x))) ∧
  (∀ (core : Fin 64) (r : Run) (i : Item) (x : GNode), running s → Dispatched s tParse core.val noLine parseItem r i x →
    exec (.parseApdu core) s = .next (done s (worked s core.val noLine parseItem i x))) ∧
  (∀ (core : Fin 64) (r : Run) (i : Item) (x : GNode), running s → Dispatched s tCtxUpdate core.val itemLine contextItem r i x →
    exec (.contextUpdate core) s = .next (done s (worked s core.val itemLine contextItem i x))) ∧
  (∀ (core : Fin 64) (r : Run) (i : Item) (x : GNode), running s → Dispatched s tValidate core.val itemLine validateItem r i x →
    exec (.validate core) s = .next (done s (worked s core.val itemLine validateItem i x))) ∧
  (∀ (core : Fin 64) (r : Run) (i : Item) (x : GNode), running s → Dispatched s tEstimate core.val itemLine estimateItem r i x →
    exec (.estimate core) s = .next (done s (worked s core.val itemLine estimateItem i x))) ∧
  (∀ (core : Fin 64) (r : Run) (i : Item) (x : GNode), running s → Dispatched s tBillPost core.val itemLine billItem r i x →
    exec (.billPost core) s = .next (done s (worked s core.val itemLine billItem i x))) ∧
  (∀ (core : Fin 64) (r : Run) (i : Item) (x : GNode), running s → Dispatched s tDemand core.val itemLine demandItem r i x →
    exec (.demand core) s = .next (done s (worked s core.val itemLine demandItem i x))) ∧
  (∀ (core : Fin 64) (r : Run) (i : Item) (x : GNode), running s → Dispatched s tBalance core.val noLine balanceItem r i x →
    exec (.balanceAccum core) s = .next (done s (worked s core.val noLine balanceItem i x))) ∧
  (∀ (core : Fin 64) (r : Run) (i : Item) (x : GNode), running s → Dispatched s tPhaseCorr core.val itemLine phaseCorrItem r i x →
    exec (.phaseCorr core) s = .next (done s (worked s core.val itemLine phaseCorrItem i x))) ∧
  (∀ (core : Fin 64) (r : Run) (i : Item) (x : GNode), running s → Dispatched s tDownBuild core.val itemLine downBuildItem r i x →
    exec (.downlinkBuild core) s = .next (done s (worked s core.val itemLine downBuildItem i x))) ∧
  (∀ (core : Fin 64) (lane : Fin 16) (r : Run) (i : Item) (x : GNode), running s → s.pair.withdrawn.contains lane.val = false → Dispatched s tEncrypt core.val noLine (encryptItem lane.val) r i x →
    exec (.encrypt core lane) s = .next (done s (worked s core.val noLine (encryptItem lane.val) i x))) ∧
  (∀ (core : Fin 64) (r : Run) (i : Item) (x : GNode), running s → Dispatched s tLinkTx core.val noLine linkTxItem r i x →
    exec (.linkTx core) s = .next (done s (worked s core.val noLine linkTxItem i x)))

/-- Each of these commands answers a next state for every state and operands that meet the conditions written before it,
which speak of the state and the operands alone; the next state is the one its effect makes, the outputs settled and
the queue untouched: STORE_APPEND, EXPORT_STREAM, ALARM, CAMPAIGN_TRACK, PORT_RX. (Rests on 07_ingestion_graph.md,
12_ring_store.md, 16_queues_and_dma.md, 14_updates_and_campaigns.md.) -/
def Obligations.SinksComplete : Prop :=
  ∀ s : State,
  (∀ (core : Fin 64) (r : Run) (i : Item) (x : GNode), running s → Dispatched s tStore core.val noLine storeItem r i x →
    exec (.storeAppend (some core)) s = .next (done s (worked s core.val noLine storeItem i x))) ∧
  (running s → exec (.storeAppend none) s = .next (done s (storeAside s))) ∧
  (∀ (core : Fin 64) (r : Run) (i : Item) (x : GNode), running s → Dispatched s tExport core.val noLine exportItem r i x →
    exec (.exportStream (some core)) s = .next (done s (worked s core.val noLine exportItem i x))) ∧
  (running s → exec (.exportStream none) s = .next (done s (exportAside s))) ∧
  (∀ (core : Fin 64) (r : Run) (i : Item) (x : GNode), running s → Dispatched s tAlarm core.val noLine (fun s _ => ⟨s, []⟩) r i x →
    exec (.alarm (some core)) s = .next (done s (worked s core.val noLine (fun s _ => ⟨s, []⟩) i x))) ∧
  (running s → exec (.alarm none) s = .next (done s (alarmAll s))) ∧
  (∀ (core : Fin 64) (r : Run) (i : Item) (x : GNode), running s → Dispatched s tCampaign core.val itemLine trackItem r i x →
    exec (.campaignTrack (some core)) s = .next (done s (worked s core.val itemLine trackItem i x))) ∧
  (running s → campMayRun s → exec (.campaignTrack none) s = .next (done s (campSlots.foldl campDrive s))) ∧
  (∀ (port : Fin 2) (sess : Nat) (mcx : Fin 1048576) (bytes : Nat), running s →
    exec (.portRx port sess mcx bytes) s = .next (done s (portRxEff port sess mcx bytes s)))

/-- Each of these commands answers a next state for every state and operands that meet the conditions written before it,
which speak of the state and the operands alone; the next state is the one its effect makes, the outputs settled and
the queue untouched: CORE_WORK_REQUEST, DISPATCH_END, DISPATCH_BOUND_EXCEEDED, GRAPH_ACTIVATION, GRAPH_DRAIN_END,
JOURNAL_LIMIT_REACHED, EXPORT_STALL, GRAPH_LOAD, GRAPH_STATUS, RULES_LOAD, SCHED_STATS. (Rests on
07_ingestion_graph.md, 18_command_reference.md.) -/
def Obligations.GraphScheduleComplete : Prop :=
  ∀ s : State,
  (∀ (core : Fin 64), running s →
    exec (.coreWorkRequest core) s = .next (done s (coreWorkRequestEff core.val s))) ∧
  (∀ (core : Fin 64), running s →
    exec (.dispatchEnd core) s = .next (done s (dispatchEndEff core.val s))) ∧
  (∀ (core : Fin 64), running s →
    exec (.dispatchBoundExceeded core) s = .next (done s (dispatchBoundEff core.val s))) ∧
  (running s && s.boot.stage = 6 →
    exec .graphActivation s = .next (done s (graphActivationEff s))) ∧
  (running s && s.flow.old.isSome && (drained s || s.flow.drainTicks = 0) →
    exec .graphDrainEnd s = .next (done s (reschedule (endDrain s)))) ∧
  (running s && !s.flow.journalLimit && decide (prmN s .schedJournalLimit * 1024 ≤ s.flow.journalBytes) →
    exec .journalLimitReached s = .next (done s ({ s with flow := { s.flow with journalLimit := true, limitTicks := s.flow.limitTicks + 1 } }))) ∧
  (∀ (exp : Nat) (on : Bool), running s →
    exec (.exportStall exp on) s = .next (done s (exportStallEff exp on s))) ∧
  (∀ (r : Req) (img : Fetch GraphImage), Accepts ciGraphLoad noTable r s →
    exec (.graphLoad r img) s = .next (done s (carried ciGraphLoad r (graphLoad r img (taken s r))))) ∧
  (∀ (r : Req), Accepts ciGraphStatus noTable r s →
    exec (.graphStatus r) s = .next (done s (carried ciGraphStatus r (graphStatus (taken s r))))) ∧
  (∀ (r : Req) (pkg : Fetch RulesPkg), Accepts ciRulesLoad noTable r s →
    exec (.rulesLoad r pkg) s = .next (done s (carried ciRulesLoad r (rulesLoad r pkg (taken s r))))) ∧
  (∀ (r : Req) (firstNode count : Word16), Accepts ciSchedStats noTable r s →
    exec (.schedStats r firstNode count) s = .next (done s (carried ciSchedStats r (schedStats firstNode.toNat count.toNat (taken s r)))))

/-- Each of these commands answers a next state for every state and operands that meet the conditions written before it,
which speak of the state and the operands alone; the next state is the one its effect makes, the outputs settled and
the queue untouched: GAP_SWEEP, CLOSE_SWEEP, SCORING_SWEEP, BALANCE_CUTOFF, TOPOLOGY_ACTIVATION, CALENDAR_LOAD,
CALENDAR_STATUS, BILLING_CLOSE_NOW, ACCESS_TABLE_LOAD, TOPOLOGY_LOAD, BALANCE_REPORT, PHASE_REPORT, SUSPICION_REPORT.
(Rests on 08_validation_and_estimation.md, 09_billing.md, 11_energy_balance.md, 18_command_reference.md.) -/
def Obligations.SweepsAndBillingComplete : Prop :=
  ∀ s : State,
  (running s && serving s →
    exec .gapSweep s = .next (done s (gapSweepEff s))) ∧
  (running s && serving s →
    exec .closeSweep s = .next (done s (closeSweepEff s))) ∧
  (running s && serving s →
    exec .scoringSweep s = .next (done s (scoringSweepEff s))) ∧
  (running s → serving s → exec .balanceCutoff s = .next (done s (balanceCutoffEff s))) ∧
  (running s → serving s = false → standby s → exec .balanceCutoff s = .next (done s (shadowed balanceCutoffEff s))) ∧
  (running s && (serving s || standby s) →
    exec .topologyActivation s = .next (done s (topologyActivationEff s))) ∧
  (∀ (r : Req) (pkg : Fetch CalPkg), Accepts ciCalendarLoad noTable r s →
    exec (.calendarLoad r pkg) s = .next (done s (carried ciCalendarLoad r (calendarLoad r pkg (taken s r))))) ∧
  (∀ (r : Req) (calendar : BitVec 8), Accepts ciCalendarStatus noTable r s →
    exec (.calendarStatus r calendar) s = .next (done s (carried ciCalendarStatus r (calendarStatus calendar.toNat (taken s r))))) ∧
  (∀ (r : Req) (kind : BitVec 8) (ident : Word32), Accepts ciBillingCloseNow noTable r s →
    exec (.billingCloseNow r kind ident) s = .next (done s (carried ciBillingCloseNow r (billingCloseNow kind.toNat ident.toNat (taken s r))))) ∧
  (∀ (r : Req) (pkg : Fetch AccessPkg), Accepts ciAccessTableLoad noTable r s →
    exec (.accessTableLoad r pkg) s = .next (done s (carried ciAccessTableLoad r (accessTableLoad r pkg (taken s r))))) ∧
  (∀ (r : Req) (pkg : Fetch TopoPkg), Accepts ciTopologyLoad noTable r s →
    exec (.topologyLoad r pkg) s = .next (done s (carried ciTopologyLoad r (topologyLoad r pkg (taken s r))))) ∧
  (∀ (r : Req) (node : Word16) (flags : BitVec 8) (fromEnd toEnd cursor : Word64), Accepts ciBalanceReport noTable r s →
    exec (.balanceReport r node flags fromEnd toEnd cursor) s =
      .next (done s (carried ciBalanceReport r (balanceReport node.toNat flags fromEnd.toNat toEnd.toNat cursor.toNat (taken s r))))) ∧
  (∀ (r : Req) (node : Word16) (flags : BitVec 8) (cursor : Word64), Accepts ciPhaseReport noTable r s →
    exec (.phaseReport r node flags cursor) s = .next (done s (carried ciPhaseReport r (phaseReport node.toNat flags cursor.toNat (taken s r))))) ∧
  (∀ (r : Req) (kind minScore : BitVec 8) (node : Word16) (cursor : Word64) (mcxs : List Word32), Accepts ciSuspicionReport noTable r s →
    exec (.suspicionReport r kind minScore node cursor mcxs) s =
      .next (done s (carried ciSuspicionReport r (suspicionReport kind.toNat minScore.toNat node.toNat cursor.toNat mcxs (taken s r)))))

/-- Each of these commands answers a next state for every state and operands that meet the conditions written before it,
which speak of the state and the operands alone; the next state is the one its effect makes, the outputs settled and
the queue untouched: FOLD, UNIT_DEMOTION, GC_START, GC_UNIT_COMMIT, GC_PROGRAM_FAIL, CHECKPOINT_SWEEP_END,
RETENTION_DELETE, RECLAIM, PAGE_UNCORRECTABLE, DIE_LOST, MIGRATION_END. (Rests on 12_ring_store.md.) -/
def Obligations.StoreEventsComplete : Prop :=
  ∀ s : State,
  (∀ (count : Nat), storeUp s && !s.boot.pfw →
    exec (.fold count) s = .next (done s (foldEff count s))) ∧
  (∀ (unit : Nat) (c : CUnit), storeUp s → s.store.units.get? unit = some c → c.slot.isNone → c.lastMc + 24 * hourNs ≤ s.time.mc →
    exec (.unitDemotion unit) s = .next (done s (setStore s (demote s s.store unit)))) ∧
  (storeUp s && !s.boot.pfw →
    exec .gcStart s = .next (done s (gcStartEff s))) ∧
  (storeUp s && !s.boot.pfw →
    exec .gcUnitCommit s = .next (done s (gcUnitCommitEff s))) ∧
  (∀ (die : Fin 4), storeUp s →
    exec (.gcProgramFail die) s = .next (done s (gcProgramFailEff die s))) ∧
  (storeUp s →
    exec .checkpointSweepEnd s = .next (done s (setStore s (hotAdjust (freeSegs { s.store with
      sweep := s.store.sweep + 1, sweepTick := s.vault.tick, sweepBytes := 0, sweepChunks := 0, lastSweepTick := s.vault.tick }))))) ∧
  (storeUp s →
    exec .retentionDelete s = .next (done s (retentionDeleteEff s))) ∧
  (storeUp s && decide (freeMib s.store < prmN s .stReclaimFree * 1024) →
    exec .reclaim s = .next (done s (storeRefresh (reclaimTo (2 * prmN s .stReclaimFree * 1024) 8192 s)))) ∧
  (∀ (slot : Fin 5320) (die : Fin 4) (page : Fin 1536) (second : Bool), storeUp s →
    exec (.pageUncorrectable slot die page second) s = .next (done s (pageUncorrectableEff slot.val die page.val second s))) ∧
  (∀ (die : Fin 4), storeUp s →
    exec (.dieLost die) s = .next (done s (dieLostEff die s))) ∧
  (storeUp s →
    exec .migrationEnd s = .next (done s (setStore s { s.store with migrating := 0 })))

/-- Each of these commands answers a next state for every state and operands that meet the conditions written before it,
which speak of the state and the operands alone; the next state is the one its effect makes, the outputs settled and
the queue untouched: STORE_STATUS, STORE_CONFIGURE, STORE_READ_SERIES, STORE_RETENTION_SET, REC_STATUS, REC_READ,
REC_MARK_SET, REC_MARK_GET, TROUBLE_READ. (Rests on 12_ring_store.md, 13_event_recorder.md, 18_command_reference.md.) -/
def Obligations.StoreRequestsServed : Prop :=
  ∀ s : State,
  (∀ (r : Req), Accepts ciStoreStatus noTable r s →
    exec (.storeStatus r) s =
      .next (done s (carried ciStoreStatus r ⟨taken s r, .ok, storeRegs (taken s r) ++ (classes.map (classBody (taken s r))).flatten, []⟩))) ∧
  (∀ (r : Req) (params : List ParamArg), Accepts ciStoreConfigure noTable r s →
    exec (.storeConfigure r params) s = .next (done s (carried ciStoreConfigure r (storeConfigure params (taken s r))))) ∧
  (∀ (r : Req) (cls : BitVec 8) (mcxLo mcxHi winFrom winTo : Word32) (cursor : Word64), Accepts ciStoreReadSeries noTable r s →
    exec (.storeReadSeries r cls mcxLo mcxHi winFrom winTo cursor) s =
      .next (done s (carried ciStoreReadSeries r (storeReadSeries cls.toNat mcxLo.toNat mcxHi.toNat winFrom.toNat winTo.toNat cursor.toNat (taken s r))))) ∧
  (∀ (r : Req) (cls : BitVec 8) (days floor : Word16), Accepts ciStoreRetentionSet noTable r s →
    exec (.storeRetentionSet r cls days floor) s =
      .next (done s (carried ciStoreRetentionSet r (storeRetentionSet cls.toNat days.toNat floor.toNat (taken s r))))) ∧
  (∀ (r : Req), Accepts (ciRec 0x0A01) noTable r s →
    exec (.recStatus r) s = .next (done s (carried (ciRec 0x0A01) r ⟨taken s r, .ok, recStatusBody (taken s r) r.mb.val, []⟩))) ∧
  (∀ (r : Req) (fromSeq : Word32) (count : BitVec 8), Accepts (ciRec 0x0A02) noTable r s →
    exec (.recRead r fromSeq count) s = .next (done s (carried (ciRec 0x0A02) r (recRead fromSeq.toNat count.toNat (taken s r))))) ∧
  (∀ (r : Req) (slot : BitVec 8) (seq : Word32), Accepts (ciRec 0x0A03) noTable r s →
    exec (.recMarkSet r slot seq) s = .next (done s (carried (ciRec 0x0A03) r (recMarkSet r.mb.val slot.toNat seq.toNat (taken s r))))) ∧
  (∀ (r : Req) (slot : BitVec 8), Accepts (ciRec 0x0A04) noTable r s →
    exec (.recMarkGet r slot) s = .next (done s (carried (ciRec 0x0A04) r (recMarkGet r.mb.val slot.toNat (taken s r))))) ∧
  (∀ (r : Req) (fromEntry : Word32) (maxCount : Word16), Accepts ciTroubleRead noTable r s →
    exec (.troubleRead r fromEntry maxCount) s = .next (done s (carried ciTroubleRead r (troubleRead fromEntry.toNat maxCount.toNat (taken s r)))))

/-- Each of these commands answers a next state for every state and operands that meet the conditions written before it,
which speak of the state and the operands alone; the next state is the one its effect makes, the outputs settled and
the queue untouched: TAP_CROSSING, PREDICTED_CYCLE_START, FADE_END, CHAIN_GAP, CHAIN_GAP_END, SETTLING_END,
TAP_CONFIGURE, CHAIN_SELECT_RESPONSE. (Rests on 10_metrology_chain.md, 18_command_reference.md.) -/
def Obligations.MetrologyComplete : Prop :=
  ∀ s : State,
  (∀ (tap : Fin 16) (et : Nat) (phases : List CyclePhase), running s →
    exec (.tapCrossing tap et phases) s = .next (done s (tapCrossingEff tap et phases s))) ∧
  (∀ (tap : Fin 16) (phases : List CyclePhase), running s →
    exec (.predictedCycleStart tap phases) s = .next (done s (predictedEff tap phases s))) ∧
  (∀ (c : Fin 96), running s && (chOf s c.val).fade.isSome →
    exec (.fadeEnd c) s = .next (done s (chSet s c.val (fadeEnd s.time.mc (chOf s c.val))))) ∧
  (∀ (c : Fin 96) (firstMc : Nat), running s →
    exec (.chainGap c firstMc) s = .next (done s (enterGap s c.val firstMc))) ∧
  (∀ (c : Fin 96) (durNs : Nat), running s → (chOf s c.val).state = .gap →
    let x := chReset (chOf s c.val)
    exec (.chainGapEnd c durNs) s = .next (done s (chSet s c.val { x with
      state := .settling, gapLastNs := durNs, gaps := wrapAdd 32 x.gaps 1, longestGapUs := max x.longestGapUs (durNs / 1000) }))) ∧
  (∀ (c : Fin 96), running s && decide ((chOf s c.val).state = .settling) →
    exec (.settlingEnd c) s = .next (done s (chSet s c.val { chOf s c.val with state := .running }))) ∧
  (∀ (r : Req) (tap : BitVec 8) (params : List ParamArg), Accepts ciTapConfigure noTable r s →
    exec (.tapConfigure r tap params) s = .next (done s (carried ciTapConfigure r (tapConfigure tap.toNat params (taken s r))))) ∧
  (∀ (r : Req) (channels : BitVec 96) (response : BitVec 8) (fadeLen : Word16), Accepts ciChainSelect noTable r s →
    exec (.chainSelectResponse r channels response fadeLen) s =
      .next (done s (carried ciChainSelect r (chainSelect channels response.toNat fadeLen.toNat (taken s r)))))

/-- Each of these commands answers a next state for every state and operands that meet the conditions written before it,
which speak of the state and the operands alone; the next state is the one its effect makes, the outputs settled and
the queue untouched: UPD_LOCK_IDLE_EXPIRY, UPD_VERIFY_DONE, PAIR_B_READY, REWRAP_DONE, BOOT_BANK_WRITTEN, GRAFT,
GRAFT_TIMEOUT, PAIR_A_READY, UPD_BEGIN, UPD_CHUNK, UPD_VERIFY, UPD_ACTIVATE, UPD_ABORT, UPD_STATUS. (Rests on
14_updates_and_campaigns.md, 18_command_reference.md.) -/
def Obligations.UpdatesComplete : Prop :=
  ∀ s : State,
  (running s && (decide (s.upd.phase = .receiving) || decide (s.upd.phase = .staged)) && decide (s.upd.lastMc + prmN s .updLockIdle * nsPerS ≤ s.time.mc) →
    exec .updLockIdleExpiry s = .next (done s (updIdle s))) ∧
  (∀ (fail : Option (Fin 9)) (graph : Option GraphImage) (rules : List RulesPkg), running s →
    exec (.updVerifyDone fail graph rules) s = .next (done s (verifyDone (fail.map Fin.val) graph rules s))) ∧
  (running s → preparing s →
    exec (.pairBReady true) s = .next (done s { s with upd := { s.upd with prepB := true } })) ∧
  (running s → preparing s → exec (.pairBReady false) s = .next (done s (graftFails s))) ∧
  (running s → preparing s → s.upd.rewrapping →
    exec (.rewrapDone true) s = .next (done s { s with
      upd := { s.upd with prepRewrap := true }, keys := { s.keys with rewrapDurable := true } })) ∧
  (running s → preparing s → s.upd.rewrapping → exec (.rewrapDone false) s = .next (done s (graftFails s))) ∧
  (∀ m : Manifest, running s → preparing s → s.upd.man = some m →
    let s1 := writeRec s (some (nextSet s m))
    exec (.bootBankWritten true) s = .next (done s { s1 with upd := { s1.upd with prepBank := true } })) ∧
  (running s → preparing s → exec (.bootBankWritten false) s = .next (done s (graftFails s))) ∧
  (∀ m : Manifest, running s → s.upd.man = some m → s.time.ticking → s.time.mc = s.time.tickStartMc → prepared s →
    s.flow.overrun = false → exec .graft s = .next (done s (graftEff m s))) ∧
  (running s && preparing s && decide (s.upd.startMc + prmN s .updGraftTimeout * nsPerS ≤ s.time.mc) →
    exec .graftTimeout s = .next (done s (graftFails s))) ∧
  (running s && decide (s.upd.phase = .activating) && s.upd.grafted →
    exec .pairAReady s = .next (done s (pairAReadyEff s))) ∧
  (∀ (r : Req) (man : Manifest), Accepts ciUpdBegin noTable r s →
    exec (.updBegin r man) s = .next (done s (carried ciUpdBegin r (updBegin r man (taken s r))))) ∧
  (∀ (r : Req) (chunk : Word32) (len : Nat), Accepts (ciUpd 0x0B02 false) noTable r s →
    exec (.updChunk r chunk len) s = .next (done s (carried (ciUpd 0x0B02 false) r (updHeld r [.receiving] (updChunk chunk.toNat len) (taken s r))))) ∧
  (∀ (r : Req), Accepts (ciUpd 0x0B03 true) noTable r s →
    exec (.updVerify r) s = .next (done s (carried (ciUpd 0x0B03 true) r (updHeld r [.receiving] updVerify (taken s r))))) ∧
  (∀ (r : Req), Accepts (ciUpd 0x0B04 true) noTable r s →
    exec (.updActivate r) s = .next (done s (carried (ciUpd 0x0B04 true) r (updHeld r [.staged] updActivate (taken s r))))) ∧
  (∀ (r : Req), Accepts (ciUpd 0x0B05 false) noTable r s →
    exec (.updAbort r) s = .next (done s (carried (ciUpd 0x0B05 false) r (updAbort r (taken s r))))) ∧
  (∀ (r : Req), Accepts ciUpdStatus noTable r s →
    exec (.updStatus r) s = .next (done s (carried ciUpdStatus r (updStatus (taken s r)))))

/-- Each of these commands answers a next state for every state and operands that meet the conditions written before it,
which speak of the state and the operands alone; the next state is the one its effect makes, the outputs settled and
the queue untouched: CAMP_CREATE, CAMP_START, CAMP_STATUS, CAMP_CANCEL, TARIFF_PUSH, OBJ_GET, OBJ_SET, OBJ_ACTION,
CAMPAIGN_METER_TIMEOUT, CAMPAIGN_ACTIVATION_TIME. (Rests on 14_updates_and_campaigns.md, 18_command_reference.md.) -/
def Obligations.CampaignsComplete : Prop :=
  ∀ s : State,
  (∀ (r : Req) (a : CampArg), Accepts (ciCamp 0x0C01 true true true) (campRight s) r s →
    exec (.campCreate r a) s = .next (done s (carried (ciCamp 0x0C01 true true true) r (campCreate r a (taken s r))))) ∧
  (∀ (r : Req) (slot : BitVec 8), Accepts (ciCamp 0x0C02 true false false) (campRight s) r s →
    exec (.campStart r slot) s = .next (done s (carried (ciCamp 0x0C02 true false false) r (campStart slot.toNat (taken s r))))) ∧
  (∀ (r : Req) (slot : BitVec 8) (cursor : Word64), Accepts (ciCamp 0x0C03 false false false) (campRight s) r s →
    exec (.campStatus r slot cursor) s =
      .next (done s (carried (ciCamp 0x0C03 false false false) r (campStatus slot.toNat cursor.toNat (taken s r))))) ∧
  (∀ (r : Req) (slot : BitVec 8), Accepts (ciCamp 0x0C04 true false false) (campRight s) r s →
    exec (.campCancel r slot) s = .next (done s (carried (ciCamp 0x0C04 true false false) r (campCancel slot.toNat (taken s r))))) ∧
  (∀ (r : Req) (slot : BitVec 8) (targets : Targets) (pkg : CalPkg), Accepts (ciCamp 0x0C05 true true false) (campRight s) r s →
    exec (.tariffPush r slot targets pkg) s =
      .next (done s (carried (ciCamp 0x0C05 true true false) r (tariffPush r slot.toNat targets pkg (taken s r))))) ∧
  (∀ (r : Req) (o : ObjRef) (d : ObjData), Accepts (ciObj 0x0701 false true) (hasRight s o.cls 0) r s →
    exec (.objGet r o d) s = .next (done s (carried (ciObj 0x0701 false true) r (objCmd r 0x0701 0 o (objGet o d) (taken s r))))) ∧
  (∀ (r : Req) (o : ObjRef) (d : ObjData), Accepts (ciObj 0x0702 true true) (hasRight s o.cls 1) r s →
    exec (.objSet r o d) s = .next (done s (carried (ciObj 0x0702 true true) r (objCmd r 0x0702 1 o (objSet o d) (taken s r))))) ∧
  (∀ (r : Req) (o : ObjRef) (d : ObjData), Accepts (ciObj 0x0703 true false) (hasRight s o.cls 2) r s →
    exec (.objAction r o d) s = .next (done s (carried (ciObj 0x0703 true false) r (objCmd r 0x0703 2 o (objAction o) (taken s r))))) ∧
  (∀ (m : Fin 1048576), running s →
    exec (.campaignMeterTimeout m) s = .next (done s (campTimeoutEff m.val s))) ∧
  (∀ (slot : Fin 8), running s && campMayRun s →
    exec (.campaignActivationTime slot) s = .next (done s (activationTimeEff slot.val s)))

/-- Each of these commands answers a next state for every state and operands that meet the conditions written before it,
which speak of the state and the operands alone; the next state is the one its effect makes, the outputs settled and
the queue untouched: HEARTBEAT_SEND, HEARTBEAT_RX, HB_IN_PERIOD, DELTA_RX, RESYNC_CHUNK_RX, PEER_IMAGE_RX,
PEER_GMI_RX, KAT_RUN, SCRUB_PASS. (Rests on 15_pairing_and_failover.md.) -/
def Obligations.PairMessagesComplete : Prop :=
  ∀ s : State,
  (peerOn s →
    exec .heartbeatSend s = .next (done s (setPair (peerTx s) (fun q => { q with hbSent := q.hbSent + 1, hbOut := some (heartbeatOf s) })))) ∧
  (∀ (h : KclHdr) (b : Heartbeat), PeerPasses s h true →
    exec (.heartbeatRx h b) s = .next (done s (heartbeatRx b (peerPassed s h)))) ∧
  (∀ (lenNs highNs : Nat), running s && s.pair.modePair →
    exec (.hbInPeriod lenNs highNs) s = .next (done s (hbInPeriod lenNs highNs s))) ∧
  (∀ (h : KclHdr) (d : Delta), PeerPasses s h false →
    exec (.deltaRx h d) s = .next (done s (deltaRx d (peerPassed s h)))) ∧
  (∀ (h : KclHdr) (e : Option Resync), PeerPasses s h false →
    exec (.resyncChunkRx h e) s = .next (done s (resyncChunkRx e (peerPassed s h)))) ∧
  (∀ (h : KclHdr) (img : PeerImage), PeerPasses s h false →
    exec (.peerImageRx h img) s = .next (done s (peerImageRx img (peerPassed s h)))) ∧
  (∀ (h : KclHdr) (tag : Word16) (ndesc : Nat) (note : ReadyNote), PeerPasses s h false →
    exec (.peerGmiRx h tag ndesc note) s = .next (done s (noteEff (arrive (peerPassed s h) 4 0 tag ndesc) 4 note))) ∧
  (∀ (unit : Fin 20) (pass : Bool), running s →
    exec (.katRun unit pass) s = .next (done s (katRun unit.val pass s))) ∧
  (∀ (corr : Nat) (lost : List Nat), running s →
    exec (.scrubPass corr lost) s = .next (done s (scrubPass corr lost s)))

/-- Each of these commands answers a next state for every state and operands that meet the conditions written before it,
which speak of the state and the operands alone; the next state is the one its effect makes, the outputs settled and
the queue untouched: PATH_SILENCE, PROMOTE_TIMEOUT, DEMOTE_TIMEOUT, BOOT_WAIT_EXPIRY, SWAP_DUE, SWAP_BOUNDARY,
SWAP_VERIFY_END, PAIR_CONFIGURE, PAIR_STATUS, PAIR_SWAP, PAIR_FORCE_ROLE. (Rests on 15_pairing_and_failover.md,
18_command_reference.md.) -/
def Obligations.PairControlComplete : Prop :=
  ∀ s : State,
  (∀ (pin : Bool), running s && s.pair.modePair →
    exec (.pathSilence pin) s = .next (done s (pathSilence pin s))) ∧
  (running s → standby s → bothSilent s 30 → s.pair.inSync → exec .promoteTimeout s = .next (done s (promotePair s false))) ∧
  (running s → standby s → bothSilent s 30 → s.pair.inSync = false → exec .promoteTimeout s = .next (done s (roleTo s .held))) ∧
  (running s && s.pair.modePair && decide (s.pair.role = .active) && s.pair.heardInEpoch && bothSilent s 40 →
    exec .demoteTimeout s = .next (done s (demotePair s .held))) ∧
  (running s → s.pair.modePair → s.pair.role = .starting → s.boot.stage = 6 → s.err.safeHold = false → s.pair.peerRole = none →
    prmN s .pairBootWait * msNs ≤ s.time.mc - s.boot.serviceMc →
    exec .bootWaitExpiry s = .next (done s (if prm s .pairBootSolo = 1 then promotePair s false else roleTo s .held))) ∧
  (swapMay s →
    exec .swapDue s = .next (done s (swapDue s))) ∧
  (swapMay s →
    exec .swapBoundary s = .next (done s (swapBoundary s))) ∧
  (swapMay s →
    exec .swapVerifyEnd s = .next (done s (swapVerifyEnd s))) ∧
  (∀ (r : Req) (op mode : BitVec 8) (key : Word32) (peerId : BitVec 128), Accepts ciPairConfigure noTable r s →
    exec (.pairConfigure r op mode key peerId) s =
      .next (done s (carried ciPairConfigure r (pairConfigure op.toNat mode.toNat key peerId (taken s r))))) ∧
  (∀ (r : Req), Accepts ciPairStatus noTable r s →
    exec (.pairStatus r) s = .next (done s (carried ciPairStatus r ⟨taken s r, .ok, (pairRegs (taken s r)).map (fun v => (v, 8)), []⟩))) ∧
  (∀ (r : Req), Accepts ciPairSwap noTable r s →
    exec (.pairSwap r) s = .next (done s (carried ciPairSwap r (pairSwap (taken s r))))) ∧
  (∀ (r : Req) (role flags : BitVec 8), Accepts ciPairForceRole noTable r s →
    exec (.pairForceRole r role flags) s = .next (done s (carried ciPairForceRole r (pairForceRole role.toNat flags.toNat (taken s r)))))

/-- Each of these commands answers a next state for every state and operands that meet the conditions written before it,
which speak of the state and the operands alone; the next state is the one its effect makes, the outputs settled and
the queue untouched: Q_OPEN, Q_PUSH, Q_CLOSE, Q_POP, Q_FLUSH, Q_ENABLE, Q_DISABLE, Q_OWNER_WRITE, PEAK_CELLS_READ.
(Rests on 16_queues_and_dma.md, 19_register_map.md.) -/
def Obligations.QueuePortsComplete : Prop :=
  ∀ s : State,
  (∀ (fn : Fin 2) (q : Fin 2048), alive s → portViol s fn q.val = none →
    exec (.qOpen fn q) s = .next (done s (qSettled (qOpen (acc s fn) q.val fn.val) q.val))) ∧
  (∀ (fn : Fin 2) (q : Fin 2048) (value : Word64), alive s → portViol s fn q.val = none →
    exec (.qPush fn q value) s = .next (done s (qSettled (qPush (acc s fn) q.val fn.val value.toNat) q.val))) ∧
  (∀ (fn : Fin 2) (q : Fin 2048) (value : Word64), alive s → portViol s fn q.val = none →
    exec (.qClose fn q value) s = .next (done s (qSettled (qClose (acc s fn) q.val fn.val value.toNat) q.val))) ∧
  (∀ (fn : Fin 2) (q : Fin 2048), alive s → portViol s fn q.val = none →
    exec (.qPop fn q) s = .next (done s (qSettled (qPop (acc s fn) q.val) q.val))) ∧
  (∀ (fn : Fin 2) (q : Fin 2048), alive s → portViol s fn q.val = none →
    exec (.qFlush fn q) s = .next (done s (qPut (acc s fn) q.val (qFlushed (qOf s q.val))))) ∧
  (∀ (fn : Fin 2) (q : Fin 2048), alive s → portViol s fn q.val = none → (qOf s q.val).enable = false →
    exec (.qEnable fn q) s = .next (done s (qPut (acc s fn) q.val { qOf s q.val with enable := true, last := 0 }))) ∧
  (∀ (fn : Fin 2) (q : Fin 2048), alive s → portViol s fn q.val = none →
    exec (.qDisable fn q) s = .next (done s (qPut (acc s fn) q.val { qFlushed (qOf s q.val) with enable := false }))) ∧
  (∀ (q : Fin 2048) (owner : Fin 4) (w : QOwner), alive s → qEngine s q.val = false → (qOf s q.val).enable = false →
    ownerOf owner.val = some w →
    exec (.qOwnerWrite 0 q owner) s = .next (done s (qPut (acc s 0) q.val { qOf s q.val with owner := w }))) ∧
  (∀ (fn : Fin 2) (q : Fin 2048), alive s → qReadViol s fn q.val = none →
    exec (.peakCellsRead fn q true) s = .next (done s (clearPeak (acc s fn) q.val)) ∧
    exec (.peakCellsRead fn q false) s = .next (done s (shadowSet (clearPeak (acc s fn) q.val) fn
      ⟨qBase q.val + 24, BitVec.ofNat 32 (qOf s q.val).level⟩)))

/-- Each of these commands answers a next state for every state and operands that meet the conditions written before it,
which speak of the state and the operands alone; the next state is the one its effect makes, the outputs settled and
the queue untouched: DMA_START, DMA_RESTART, DMA_ABORT, DMA_CR_BASE_WRITE, DMA_CR_TAIL_WRITE, DMA_DESCRIPTOR_DONE,
DMA_FAULT. (Rests on 16_queues_and_dma.md.) -/
def Obligations.DmaComplete : Prop :=
  ∀ s : State,
  (∀ (fn : Fin 2) (n : Fin 32), alive s → dmaViol fn n.val = none → (dmaOf s n.val).state = .idle →
    exec (.dmaStart fn n) s = .next (done s (dmaSet (acc s fn) n.val { dmaOf s n.val with
      state := .running, bytes := 0, descCount := 0, index := 0, descBytes := 0, descFlushed := false, waiting := [], waits := false }))) ∧
  (∀ (fn : Fin 2) (n : Fin 32), alive s → dmaViol fn n.val = none →
    exec (.dmaRestart fn n) s = .next (done s (dmaRestart n.val (acc s fn)))) ∧
  (∀ (fn : Fin 2) (n : Fin 32), alive s → dmaViol fn n.val = none →
    exec (.dmaAbort fn n) s = .next (done s (dmaAbort n.val (acc s fn)))) ∧
  (∀ (fn : Fin 2) (n : Fin 32) (value : Word64), alive s → dmaViol fn n.val = none →
    exec (.dmaCrBaseWrite fn n value) s = .next (done s (dmaCrBase n.val value.toNat (acc s fn)))) ∧
  (∀ (fn : Fin 2) (n : Fin 32) (value : Word32), alive s → dmaViol fn n.val = none →
    exec (.dmaCrTailWrite fn n value) s = .next (done s (dmaCrTail n.val value (acc s fn)))) ∧
  (∀ (n : Fin 32) (d : DmaDesc) (items : List (List Nat)), running s && decide ((dmaOf s n.val).state = .running) →
    exec (.dmaDescriptorDone n d items) s = .next (done s (dmaDescriptorDoneEff n.val d items s))) ∧
  (∀ (n : Fin 32) (code : Status) (dir : Fin 4) (addr offset : Nat) (descId : Word16), running s && decide ((dmaOf s n.val).state = .running) →
    exec (.dmaFault n code dir addr offset descId) s = .next (done s (dmaHalt s n.val code dir.val addr offset descId.toNat false)))

/-- Each of these commands answers a next state for every state and operands that meet the conditions written before it,
which speak of the state and the operands alone; the next state is the one its effect makes, the outputs settled and
the queue untouched: GET_IDENTITY, GET_CAPS, GET_HEALTH, SET_PARAM, GET_PARAM, RESET_ENGINE, EXPORT_OPEN,
EXPORT_CLOSE, EXPORT_STATUS, POWER_DOMAIN_SET, DIAG_SELFTEST, DIAG_LOOPBACK. (Rests on 18_command_reference.md,
17_host_and_mailboxes.md, 20_package_power_and_electrical.md.) -/
def Obligations.DeviceRequestsServed : Prop :=
  ∀ s : State,
  (∀ (r : Req), Accepts (ciIdentity 0x0101) noTable r s →
    exec (.getIdentity r) s = .next (done s (carried (ciIdentity 0x0101) r (getIdentity (taken s r))))) ∧
  (∀ (r : Req), Accepts (ciIdentity 0x0102) noTable r s →
    exec (.getCaps r) s = .next (done s (carried (ciIdentity 0x0102) r (getCaps (taken s r))))) ∧
  (∀ (r : Req), Accepts (ciIdentity 0x0103) noTable r s →
    exec (.getHealth r) s = .next (done s (carried (ciIdentity 0x0103) r (getHealth (taken s r))))) ∧
  (∀ (r : Req) (p : ParamArg), Accepts ciSetParam noTable r s →
    exec (.setParam r p) s = .next (done s (carried ciSetParam r (setParam r p (taken s r))))) ∧
  (∀ (r : Req) (name : Option ParamId), Accepts ciGetParam noTable r s →
    exec (.getParam r name) s = .next (done s (carried ciGetParam r (getParam name (taken s r))))) ∧
  (∀ (r : Req) (flags : Word32) (closeDone stagingDone : Bool), running s = true → Accepts ciResetEngine noTable r s →
    exec (.resetEngine r flags closeDone stagingDone) s =
      .next (done s (resetIfDue closeDone stagingDone (carried ciResetEngine r (resetEngine flags (taken s r)))))) ∧
  (∀ (r : Req) (classes mode : BitVec 8) (mcxLo mcxHi winFrom winTo : Word32), Accepts ciExportOpen noTable r s →
    exec (.exportOpen r classes mode mcxLo mcxHi winFrom winTo) s =
      .next (done s (carried ciExportOpen r (exportOpen r classes.toNat mode.toNat mcxLo.toNat mcxHi.toNat winFrom.toNat winTo.toNat (taken s r))))) ∧
  (∀ (r : Req) (id : Word32), Accepts ciExportClose noTable r s →
    exec (.exportClose r id) s = .next (done s (carried ciExportClose r (exportClose r id.toNat (taken s r))))) ∧
  (∀ (r : Req) (id : Word32), Accepts ciExportStatus noTable r s →
    exec (.exportStatus r id) s = .next (done s (carried ciExportStatus r (exportStatus id.toNat (taken s r))))) ∧
  (∀ (r : Req) (domain on : BitVec 8), Accepts ciPowerDomainSet noTable r s →
    exec (.powerDomainSet r domain on) s = .next (done s (carried ciPowerDomainSet r (powerDomainSet domain.toNat on.toNat (taken s r))))) ∧
  (∀ (r : Req) (scope : Word32), Accepts ciDiagSelftest noTable r s →
    exec (.diagSelftest r scope) s = .next (done s (carried ciDiagSelftest r (diagSelftest scope (taken s r))))) ∧
  (∀ (r : Req) (target : Word16) (mode : BitVec 8) (frames : Word32), Accepts ciDiagLoopback noTable r s →
    exec (.diagLoopback r target mode frames) s =
      .next (done s (carried ciDiagLoopback r (diagLoopback target.toNat mode.toNat (taken s r)))))

/-- Each of these commands answers a next state for every state and operands that meet the conditions written before it,
which speak of the state and the operands alone; the next state is the one its effect makes, the outputs settled and
the queue untouched: LINK_CONFIGURE, LINK_STATUS, LINK_LOCK_GROUP, PLC_TONEMAP_GET, RF_SCHEDULE_SET, CELL_ADMIT,
CELL_RELEASE. (Rests on 02_plc_links.md, 03_rf_links.md, 04_remote_cells.md, 18_command_reference.md.) -/
def Obligations.LinkRequestsServed : Prop :=
  ∀ s : State,
  (∀ (r : Req) (link : Word16) (port : BitVec 8) (params : List ParamArg), Accepts ciLinkConfigure noTable r s →
    exec (.linkConfigure r link port params) s = .next (done s (carried ciLinkConfigure r (linkConfigure link.toNat port.toNat params (taken s r))))) ∧
  (∀ (r : Req) (link : Word16), Accepts ciLinkStatus noTable r s →
    exec (.linkStatus r link) s = .next (done s (carried ciLinkStatus r (linkStatus link.toNat (taken s r))))) ∧
  (∀ (r : Req) (group count : BitVec 8) (channels : List (BitVec 8)), Accepts ciLinkLockGroup noTable r s →
    exec (.linkLockGroup r group count channels) s =
      .next (done s (carried ciLinkLockGroup r (linkLockGroup group.toNat count.toNat channels (taken s r))))) ∧
  (∀ (r : Req) (link : Word16) (port : BitVec 8) (frm upTo : Word16), Accepts ciPlcTonemapGet noTable r s →
    exec (.plcTonemapGet r link port frm upTo) s =
      .next (done s (carried ciPlcTonemapGet r (plcTonemapGet link.toNat port.toNat frm.toNat upTo.toNat (taken s r))))) ∧
  (∀ (r : Req) (port : BitVec 8) (tsUs : Word32) (sfLen : Word16) (hop : List (BitVec 8)), Accepts ciRfScheduleSet noTable r s →
    exec (.rfScheduleSet r port tsUs sfLen hop) s =
      .next (done s (carried ciRfScheduleSet r (rfScheduleSet port.toNat tsUs.toNat sfLen.toNat hop (taken s r))))) ∧
  (∀ (r : Req) (cell : Word16) (ports bands : BitVec 8) (key : Word32) (addr : Nat) (flags : BitVec 8), Accepts ciCellAdmit noTable r s →
    exec (.cellAdmit r cell ports bands key addr flags) s =
      .next (done s (carried ciCellAdmit r (cellAdmit r cell.toNat ports.toNat bands.toNat key addr flags.toNat (taken s r))))) ∧
  (∀ (r : Req) (cell : Word16), Accepts ciCellRelease noTable r s →
    exec (.cellRelease r cell) s = .next (done s (carried ciCellRelease r (cellRelease cell.toNat (taken s r)))))

end
end

