-- ==== Sys2Proof/Laws/State.lean ====
section
/-! SUPPORT. What the updates of the state leave: one lemma per field of the state per update. -/

namespace Sys2Proof.Machine
open Sys2Proof

/-! ### The outputs settle, and a command ends -/

@[simp] theorem settle_p (s : State) : (settle s).p = s.p := rfl
@[simp] theorem settle_vault (s : State) : (settle s).vault = s.vault := rfl
@[simp] theorem settle_time (s : State) : (settle s).time = s.time := rfl
@[simp] theorem settle_mb (s : State) : (settle s).mb = s.mb := rfl
@[simp] theorem settle_irq (s : State) : (settle s).irq = s.irq := rfl
@[simp] theorem settle_err (s : State) : (settle s).err = s.err := rfl
@[simp] theorem settle_recd (s : State) : (settle s).recd = s.recd := rfl
@[simp] theorem settle_reg (s : State) : (settle s).reg = s.reg := rfl
@[simp] theorem settle_eth (s : State) : (settle s).eth = s.eth := rfl
@[simp] theorem settle_plc (s : State) : (settle s).plc = s.plc := rfl
@[simp] theorem settle_rf (s : State) : (settle s).rf = s.rf := rfl
@[simp] theorem settle_cell (s : State) : (settle s).cell = s.cell := rfl
@[simp] theorem settle_ctx (s : State) : (settle s).ctx = s.ctx := rfl
@[simp] theorem settle_val (s : State) : (settle s).val = s.val := rfl
@[simp] theorem settle_keys (s : State) : (settle s).keys = s.keys := rfl
@[simp] theorem settle_quar (s : State) : (settle s).quar = s.quar := rfl
@[simp] theorem settle_flow (s : State) : (settle s).flow = s.flow := rfl
@[simp] theorem settle_bill (s : State) : (settle s).bill = s.bill := rfl
@[simp] theorem settle_bal (s : State) : (settle s).bal = s.bal := rfl
@[simp] theorem settle_metro (s : State) : (settle s).metro = s.metro := rfl
@[simp] theorem settle_store (s : State) : (settle s).store = s.store := rfl
@[simp] theorem settle_q (s : State) : (settle s).q = s.q := rfl
@[simp] theorem settle_dma (s : State) : (settle s).dma = s.dma := rfl
@[simp] theorem settle_upd (s : State) : (settle s).upd = s.upd := rfl
@[simp] theorem settle_campBlocks (s : State) : (settle s).campBlocks = s.campBlocks := rfl
@[simp] theorem settle_pendParams (s : State) : (settle s).pendParams = s.pendParams := rfl
@[simp] theorem settle_alarms (s : State) : (settle s).alarms = s.alarms := rfl
@[simp] theorem settle_freeCtr (s : State) : (settle s).freeCtr = s.freeCtr := rfl
@[simp] theorem settle_pending (s : State) : (settle s).pending = s.pending := rfl
@[simp] theorem settle_boot (s : State) : (settle s).boot = { s.boot with alert := alertNow s, ppsHigh := ppsNow s } := rfl
@[simp] theorem settle_pair (s : State) : (settle s).pair = { s.pair with rolePin := roleHigh s } := rfl

@[simp] theorem done_p (s x : State) : (done s x).p = x.p := rfl
@[simp] theorem done_vault (s x : State) : (done s x).vault = x.vault := rfl
@[simp] theorem done_time (s x : State) : (done s x).time = x.time := rfl
@[simp] theorem done_mb (s x : State) : (done s x).mb = x.mb := rfl
@[simp] theorem done_irq (s x : State) : (done s x).irq = x.irq := rfl
@[simp] theorem done_err (s x : State) : (done s x).err = x.err := rfl
@[simp] theorem done_recd (s x : State) : (done s x).recd = x.recd := rfl
@[simp] theorem done_reg (s x : State) : (done s x).reg = x.reg := rfl
@[simp] theorem done_eth (s x : State) : (done s x).eth = x.eth := rfl
@[simp] theorem done_plc (s x : State) : (done s x).plc = x.plc := rfl
@[simp] theorem done_rf (s x : State) : (done s x).rf = x.rf := rfl
@[simp] theorem done_cell (s x : State) : (done s x).cell = x.cell := rfl
@[simp] theorem done_ctx (s x : State) : (done s x).ctx = x.ctx := rfl
@[simp] theorem done_val (s x : State) : (done s x).val = x.val := rfl
@[simp] theorem done_keys (s x : State) : (done s x).keys = x.keys := rfl
@[simp] theorem done_quar (s x : State) : (done s x).quar = x.quar := rfl
@[simp] theorem done_flow (s x : State) : (done s x).flow = x.flow := rfl
@[simp] theorem done_bill (s x : State) : (done s x).bill = x.bill := rfl
@[simp] theorem done_bal (s x : State) : (done s x).bal = x.bal := rfl
@[simp] theorem done_metro (s x : State) : (done s x).metro = x.metro := rfl
@[simp] theorem done_store (s x : State) : (done s x).store = x.store := rfl
@[simp] theorem done_q (s x : State) : (done s x).q = x.q := rfl
@[simp] theorem done_dma (s x : State) : (done s x).dma = x.dma := rfl
@[simp] theorem done_upd (s x : State) : (done s x).upd = x.upd := rfl
@[simp] theorem done_campBlocks (s x : State) : (done s x).campBlocks = x.campBlocks := rfl
@[simp] theorem done_pendParams (s x : State) : (done s x).pendParams = x.pendParams := rfl
@[simp] theorem done_alarms (s x : State) : (done s x).alarms = x.alarms := rfl
@[simp] theorem done_freeCtr (s x : State) : (done s x).freeCtr = x.freeCtr := rfl
@[simp] theorem done_pending (s x : State) : (done s x).pending = s.pending := rfl
@[simp] theorem done_boot (s x : State) : (done s x).boot = { x.boot with alert := alertNow x, ppsHigh := ppsNow x } := rfl
@[simp] theorem done_pair (s x : State) : (done s x).pair = { x.pair with rolePin := roleHigh x } := rfl

/-- Every meaning ends so. -/
theorem finish_eq (s x : State) : finish s x = .next (done s x) := rfl

theorem finish_next {s x t : State} (h : finish s x = .next t) : t = done s x := by
  cases h; rfl

/-! ### Taking a request -/

@[simp] theorem takeReq_p (s : State) (r : Req) : (takeReq s r).p = s.p := rfl
@[simp] theorem takeReq_vault (s : State) (r : Req) : (takeReq s r).vault = s.vault := rfl
@[simp] theorem takeReq_boot (s : State) (r : Req) : (takeReq s r).boot = s.boot := rfl
@[simp] theorem takeReq_time (s : State) (r : Req) : (takeReq s r).time = s.time := rfl
@[simp] theorem takeReq_irq (s : State) (r : Req) : (takeReq s r).irq = s.irq := rfl
@[simp] theorem takeReq_err (s : State) (r : Req) : (takeReq s r).err = s.err := rfl
@[simp] theorem takeReq_recd (s : State) (r : Req) : (takeReq s r).recd = s.recd := rfl
@[simp] theorem takeReq_reg (s : State) (r : Req) : (takeReq s r).reg = s.reg := rfl
@[simp] theorem takeReq_eth (s : State) (r : Req) : (takeReq s r).eth = s.eth := rfl
@[simp] theorem takeReq_pair (s : State) (r : Req) : (takeReq s r).pair = s.pair := rfl
@[simp] theorem takeReq_plc (s : State) (r : Req) : (takeReq s r).plc = s.plc := rfl
@[simp] theorem takeReq_rf (s : State) (r : Req) : (takeReq s r).rf = s.rf := rfl
@[simp] theorem takeReq_cell (s : State) (r : Req) : (takeReq s r).cell = s.cell := rfl
@[simp] theorem takeReq_ctx (s : State) (r : Req) : (takeReq s r).ctx = s.ctx := rfl
@[simp] theorem takeReq_val (s : State) (r : Req) : (takeReq s r).val = s.val := rfl
@[simp] theorem takeReq_keys (s : State) (r : Req) : (takeReq s r).keys = s.keys := rfl
@[simp] theorem takeReq_quar (s : State) (r : Req) : (takeReq s r).quar = s.quar := rfl
@[simp] theorem takeReq_flow (s : State) (r : Req) : (takeReq s r).flow = s.flow := rfl
@[simp] theorem takeReq_bill (s : State) (r : Req) : (takeReq s r).bill = s.bill := rfl
@[simp] theorem takeReq_bal (s : State) (r : Req) : (takeReq s r).bal = s.bal := rfl
@[simp] theorem takeReq_metro (s : State) (r : Req) : (takeReq s r).metro = s.metro := rfl
@[simp] theorem takeReq_store (s : State) (r : Req) : (takeReq s r).store = s.store := rfl
@[simp] theorem takeReq_q (s : State) (r : Req) : (takeReq s r).q = s.q := rfl
@[simp] theorem takeReq_dma (s : State) (r : Req) : (takeReq s r).dma = s.dma := rfl
@[simp] theorem takeReq_upd (s : State) (r : Req) : (takeReq s r).upd = s.upd := rfl
@[simp] theorem takeReq_campBlocks (s : State) (r : Req) : (takeReq s r).campBlocks = s.campBlocks := rfl
@[simp] theorem takeReq_pendParams (s : State) (r : Req) : (takeReq s r).pendParams = s.pendParams := rfl
@[simp] theorem takeReq_alarms (s : State) (r : Req) : (takeReq s r).alarms = s.alarms := rfl
@[simp] theorem takeReq_freeCtr (s : State) (r : Req) : (takeReq s r).freeCtr = s.freeCtr := rfl
@[simp] theorem takeReq_pending (s : State) (r : Req) : (takeReq s r).pending = s.pending := rfl

/-! ### A mailbox is put back: only the mailboxes and the interrupts change -/

@[simp] theorem mbUpd_p (s : State) (i : Nat) (b : Mailbox) : (mbUpd s i b).p = s.p := by
  unfold mbUpd; dsimp only; split <;> rfl
@[simp] theorem mbUpd_vault (s : State) (i : Nat) (b : Mailbox) : (mbUpd s i b).vault = s.vault := by
  unfold mbUpd; dsimp only; split <;> rfl
@[simp] theorem mbUpd_boot (s : State) (i : Nat) (b : Mailbox) : (mbUpd s i b).boot = s.boot := by
  unfold mbUpd; dsimp only; split <;> rfl
@[simp] theorem mbUpd_time (s : State) (i : Nat) (b : Mailbox) : (mbUpd s i b).time = s.time := by
  unfold mbUpd; dsimp only; split <;> rfl
@[simp] theorem mbUpd_err (s : State) (i : Nat) (b : Mailbox) : (mbUpd s i b).err = s.err := by
  unfold mbUpd; dsimp only; split <;> rfl
@[simp] theorem mbUpd_recd (s : State) (i : Nat) (b : Mailbox) : (mbUpd s i b).recd = s.recd := by
  unfold mbUpd; dsimp only; split <;> rfl
@[simp] theorem mbUpd_reg (s : State) (i : Nat) (b : Mailbox) : (mbUpd s i b).reg = s.reg := by
  unfold mbUpd; dsimp only; split <;> rfl
@[simp] theorem mbUpd_eth (s : State) (i : Nat) (b : Mailbox) : (mbUpd s i b).eth = s.eth := by
  unfold mbUpd; dsimp only; split <;> rfl
@[simp] theorem mbUpd_pair (s : State) (i : Nat) (b : Mailbox) : (mbUpd s i b).pair = s.pair := by
  unfold mbUpd; dsimp only; split <;> rfl
@[simp] theorem mbUpd_plc (s : State) (i : Nat) (b : Mailbox) : (mbUpd s i b).plc = s.plc := by
  unfold mbUpd; dsimp only; split <;> rfl
@[simp] theorem mbUpd_rf (s : State) (i : Nat) (b : Mailbox) : (mbUpd s i b).rf = s.rf := by
  unfold mbUpd; dsimp only; split <;> rfl
@[simp] theorem mbUpd_cell (s : State) (i : Nat) (b : Mailbox) : (mbUpd s i b).cell = s.cell := by
  unfold mbUpd; dsimp only; split <;> rfl
@[simp] theorem mbUpd_ctx (s : State) (i : Nat) (b : Mailbox) : (mbUpd s i b).ctx = s.ctx := by
  unfold mbUpd; dsimp only; split <;> rfl
@[simp] theorem mbUpd_val (s : State) (i : Nat) (b : Mailbox) : (mbUpd s i b).val = s.val := by
  unfold mbUpd; dsimp only; split <;> rfl
@[simp] theorem mbUpd_keys (s : State) (i : Nat) (b : Mailbox) : (mbUpd s i b).keys = s.keys := by
  unfold mbUpd; dsimp only; split <;> rfl
@[simp] theorem mbUpd_quar (s : State) (i : Nat) (b : Mailbox) : (mbUpd s i b).quar = s.quar := by
  unfold mbUpd; dsimp only; split <;> rfl
@[simp] theorem mbUpd_flow (s : State) (i : Nat) (b : Mailbox) : (mbUpd s i b).flow = s.flow := by
  unfold mbUpd; dsimp only; split <;> rfl
@[simp] theorem mbUpd_bill (s : State) (i : Nat) (b : Mailbox) : (mbUpd s i b).bill = s.bill := by
  unfold mbUpd; dsimp only; split <;> rfl
@[simp] theorem mbUpd_bal (s : State) (i : Nat) (b : Mailbox) : (mbUpd s i b).bal = s.bal := by
  unfold mbUpd; dsimp only; split <;> rfl
@[simp] theorem mbUpd_metro (s : State) (i : Nat) (b : Mailbox) : (mbUpd s i b).metro = s.metro := by
  unfold mbUpd; dsimp only; split <;> rfl
@[simp] theorem mbUpd_store (s : State) (i : Nat) (b : Mailbox) : (mbUpd s i b).store = s.store := by
  unfold mbUpd; dsimp only; split <;> rfl
@[simp] theorem mbUpd_q (s : State) (i : Nat) (b : Mailbox) : (mbUpd s i b).q = s.q := by
  unfold mbUpd; dsimp only; split <;> rfl
@[simp] theorem mbUpd_dma (s : State) (i : Nat) (b : Mailbox) : (mbUpd s i b).dma = s.dma := by
  unfold mbUpd; dsimp only; split <;> rfl
@[simp] theorem mbUpd_upd (s : State) (i : Nat) (b : Mailbox) : (mbUpd s i b).upd = s.upd := by
  unfold mbUpd; dsimp only; split <;> rfl
@[simp] theorem mbUpd_campBlocks (s : State) (i : Nat) (b : Mailbox) : (mbUpd s i b).campBlocks = s.campBlocks := by
  unfold mbUpd; dsimp only; split <;> rfl
@[simp] theorem mbUpd_pendParams (s : State) (i : Nat) (b : Mailbox) : (mbUpd s i b).pendParams = s.pendParams := by
  unfold mbUpd; dsimp only; split <;> rfl
@[simp] theorem mbUpd_alarms (s : State) (i : Nat) (b : Mailbox) : (mbUpd s i b).alarms = s.alarms := by
  unfold mbUpd; dsimp only; split <;> rfl
@[simp] theorem mbUpd_freeCtr (s : State) (i : Nat) (b : Mailbox) : (mbUpd s i b).freeCtr = s.freeCtr := by
  unfold mbUpd; dsimp only; split <;> rfl
@[simp] theorem mbUpd_pending (s : State) (i : Nat) (b : Mailbox) : (mbUpd s i b).pending = s.pending := by
  unfold mbUpd; dsimp only; split <;> rfl
@[simp] theorem mbUpd_mb (s : State) (i : Nat) (b : Mailbox) : (mbUpd s i b).mb = mbSet s.mb i b := by
  unfold mbUpd; dsimp only; split <;> rfl

/-! ### An access of a function ends its shadow -/

@[simp] theorem acc_p (s : State) (fn : Fin 2) : (acc s fn).p = s.p := rfl
@[simp] theorem acc_vault (s : State) (fn : Fin 2) : (acc s fn).vault = s.vault := rfl
@[simp] theorem acc_boot (s : State) (fn : Fin 2) : (acc s fn).boot = s.boot := rfl
@[simp] theorem acc_time (s : State) (fn : Fin 2) : (acc s fn).time = s.time := rfl
@[simp] theorem acc_mb (s : State) (fn : Fin 2) : (acc s fn).mb = s.mb := rfl
@[simp] theorem acc_irq (s : State) (fn : Fin 2) : (acc s fn).irq = s.irq := rfl
@[simp] theorem acc_err (s : State) (fn : Fin 2) : (acc s fn).err = s.err := rfl
@[simp] theorem acc_recd (s : State) (fn : Fin 2) : (acc s fn).recd = s.recd := rfl
@[simp] theorem acc_eth (s : State) (fn : Fin 2) : (acc s fn).eth = s.eth := rfl
@[simp] theorem acc_pair (s : State) (fn : Fin 2) : (acc s fn).pair = s.pair := rfl
@[simp] theorem acc_plc (s : State) (fn : Fin 2) : (acc s fn).plc = s.plc := rfl
@[simp] theorem acc_rf (s : State) (fn : Fin 2) : (acc s fn).rf = s.rf := rfl
@[simp] theorem acc_cell (s : State) (fn : Fin 2) : (acc s fn).cell = s.cell := rfl
@[simp] theorem acc_ctx (s : State) (fn : Fin 2) : (acc s fn).ctx = s.ctx := rfl
@[simp] theorem acc_val (s : State) (fn : Fin 2) : (acc s fn).val = s.val := rfl
@[simp] theorem acc_keys (s : State) (fn : Fin 2) : (acc s fn).keys = s.keys := rfl
@[simp] theorem acc_quar (s : State) (fn : Fin 2) : (acc s fn).quar = s.quar := rfl
@[simp] theorem acc_flow (s : State) (fn : Fin 2) : (acc s fn).flow = s.flow := rfl
@[simp] theorem acc_bill (s : State) (fn : Fin 2) : (acc s fn).bill = s.bill := rfl
@[simp] theorem acc_bal (s : State) (fn : Fin 2) : (acc s fn).bal = s.bal := rfl
@[simp] theorem acc_metro (s : State) (fn : Fin 2) : (acc s fn).metro = s.metro := rfl
@[simp] theorem acc_store (s : State) (fn : Fin 2) : (acc s fn).store = s.store := rfl
@[simp] theorem acc_q (s : State) (fn : Fin 2) : (acc s fn).q = s.q := rfl
@[simp] theorem acc_dma (s : State) (fn : Fin 2) : (acc s fn).dma = s.dma := rfl
@[simp] theorem acc_upd (s : State) (fn : Fin 2) : (acc s fn).upd = s.upd := rfl
@[simp] theorem acc_campBlocks (s : State) (fn : Fin 2) : (acc s fn).campBlocks = s.campBlocks := rfl
@[simp] theorem acc_pendParams (s : State) (fn : Fin 2) : (acc s fn).pendParams = s.pendParams := rfl
@[simp] theorem acc_alarms (s : State) (fn : Fin 2) : (acc s fn).alarms = s.alarms := rfl
@[simp] theorem acc_freeCtr (s : State) (fn : Fin 2) : (acc s fn).freeCtr = s.freeCtr := rfl
@[simp] theorem acc_pending (s : State) (fn : Fin 2) : (acc s fn).pending = s.pending := rfl

end Sys2Proof.Machine
end

