-- ==== Sys2Proof/Laws/Emit.lean ====
section
/-! SUPPORT. What giving off and answering leave: the one lemma per field that later proofs cite instead of unfolding them. -/

namespace Sys2Proof.Machine
open Sys2Proof

/-! ### Async events and FINAL events -/

@[simp] theorem postAsync_p (m : BitVec 8) (x : Msg) (l : List Nat) (s : State) : (postAsync s m x l).p = s.p := by
  induction l generalizing s with
  | nil => rfl
  | cons i t ih => simp only [postAsync]; rw [ih]; split <;> simp
@[simp] theorem postFinal_p (s : State) (c : Nat) (st : Status) (b : Body) : (postFinal s c st b).p = s.p := by
  unfold postFinal; split
  · unfold postFinalAt; dsimp only; split
    · simp
    · split <;> simp
  · rfl
@[simp] theorem postAsync_vault (m : BitVec 8) (x : Msg) (l : List Nat) (s : State) : (postAsync s m x l).vault = s.vault := by
  induction l generalizing s with
  | nil => rfl
  | cons i t ih => simp only [postAsync]; rw [ih]; split <;> simp
@[simp] theorem postFinal_vault (s : State) (c : Nat) (st : Status) (b : Body) : (postFinal s c st b).vault = s.vault := by
  unfold postFinal; split
  · unfold postFinalAt; dsimp only; split
    · simp
    · split <;> simp
  · rfl
@[simp] theorem postAsync_boot (m : BitVec 8) (x : Msg) (l : List Nat) (s : State) : (postAsync s m x l).boot = s.boot := by
  induction l generalizing s with
  | nil => rfl
  | cons i t ih => simp only [postAsync]; rw [ih]; split <;> simp
@[simp] theorem postFinal_boot (s : State) (c : Nat) (st : Status) (b : Body) : (postFinal s c st b).boot = s.boot := by
  unfold postFinal; split
  · unfold postFinalAt; dsimp only; split
    · simp
    · split <;> simp
  · rfl
@[simp] theorem postAsync_time (m : BitVec 8) (x : Msg) (l : List Nat) (s : State) : (postAsync s m x l).time = s.time := by
  induction l generalizing s with
  | nil => rfl
  | cons i t ih => simp only [postAsync]; rw [ih]; split <;> simp
@[simp] theorem postFinal_time (s : State) (c : Nat) (st : Status) (b : Body) : (postFinal s c st b).time = s.time := by
  unfold postFinal; split
  · unfold postFinalAt; dsimp only; split
    · simp
    · split <;> simp
  · rfl
@[simp] theorem postAsync_err (m : BitVec 8) (x : Msg) (l : List Nat) (s : State) : (postAsync s m x l).err = s.err := by
  induction l generalizing s with
  | nil => rfl
  | cons i t ih => simp only [postAsync]; rw [ih]; split <;> simp
@[simp] theorem postFinal_err (s : State) (c : Nat) (st : Status) (b : Body) : (postFinal s c st b).err = s.err := by
  unfold postFinal; split
  · unfold postFinalAt; dsimp only; split
    · simp
    · split <;> simp
  · rfl
@[simp] theorem postAsync_recd (m : BitVec 8) (x : Msg) (l : List Nat) (s : State) : (postAsync s m x l).recd = s.recd := by
  induction l generalizing s with
  | nil => rfl
  | cons i t ih => simp only [postAsync]; rw [ih]; split <;> simp
@[simp] theorem postFinal_recd (s : State) (c : Nat) (st : Status) (b : Body) : (postFinal s c st b).recd = s.recd := by
  unfold postFinal; split
  · unfold postFinalAt; dsimp only; split
    · simp
    · split <;> simp
  · rfl
@[simp] theorem postAsync_reg (m : BitVec 8) (x : Msg) (l : List Nat) (s : State) : (postAsync s m x l).reg = s.reg := by
  induction l generalizing s with
  | nil => rfl
  | cons i t ih => simp only [postAsync]; rw [ih]; split <;> simp
@[simp] theorem postFinal_reg (s : State) (c : Nat) (st : Status) (b : Body) : (postFinal s c st b).reg = s.reg := by
  unfold postFinal; split
  · unfold postFinalAt; dsimp only; split
    · simp
    · split <;> simp
  · rfl
@[simp] theorem postAsync_eth (m : BitVec 8) (x : Msg) (l : List Nat) (s : State) : (postAsync s m x l).eth = s.eth := by
  induction l generalizing s with
  | nil => rfl
  | cons i t ih => simp only [postAsync]; rw [ih]; split <;> simp
@[simp] theorem postFinal_eth (s : State) (c : Nat) (st : Status) (b : Body) : (postFinal s c st b).eth = s.eth := by
  unfold postFinal; split
  · unfold postFinalAt; dsimp only; split
    · simp
    · split <;> simp
  · rfl
@[simp] theorem postAsync_pair (m : BitVec 8) (x : Msg) (l : List Nat) (s : State) : (postAsync s m x l).pair = s.pair := by
  induction l generalizing s with
  | nil => rfl
  | cons i t ih => simp only [postAsync]; rw [ih]; split <;> simp
@[simp] theorem postFinal_pair (s : State) (c : Nat) (st : Status) (b : Body) : (postFinal s c st b).pair = s.pair := by
  unfold postFinal; split
  · unfold postFinalAt; dsimp only; split
    · simp
    · split <;> simp
  · rfl
@[simp] theorem postAsync_plc (m : BitVec 8) (x : Msg) (l : List Nat) (s : State) : (postAsync s m x l).plc = s.plc := by
  induction l generalizing s with
  | nil => rfl
  | cons i t ih => simp only [postAsync]; rw [ih]; split <;> simp
@[simp] theorem postFinal_plc (s : State) (c : Nat) (st : Status) (b : Body) : (postFinal s c st b).plc = s.plc := by
  unfold postFinal; split
  · unfold postFinalAt; dsimp only; split
    · simp
    · split <;> simp
  · rfl
@[simp] theorem postAsync_rf (m : BitVec 8) (x : Msg) (l : List Nat) (s : State) : (postAsync s m x l).rf = s.rf := by
  induction l generalizing s with
  | nil => rfl
  | cons i t ih => simp only [postAsync]; rw [ih]; split <;> simp
@[simp] theorem postFinal_rf (s : State) (c : Nat) (st : Status) (b : Body) : (postFinal s c st b).rf = s.rf := by
  unfold postFinal; split
  · unfold postFinalAt; dsimp only; split
    · simp
    · split <;> simp
  · rfl
@[simp] theorem postAsync_cell (m : BitVec 8) (x : Msg) (l : List Nat) (s : State) : (postAsync s m x l).cell = s.cell := by
  induction l generalizing s with
  | nil => rfl
  | cons i t ih => simp only [postAsync]; rw [ih]; split <;> simp
@[simp] theorem postFinal_cell (s : State) (c : Nat) (st : Status) (b : Body) : (postFinal s c st b).cell = s.cell := by
  unfold postFinal; split
  · unfold postFinalAt; dsimp only; split
    · simp
    · split <;> simp
  · rfl
@[simp] theorem postAsync_ctx (m : BitVec 8) (x : Msg) (l : List Nat) (s : State) : (postAsync s m x l).ctx = s.ctx := by
  induction l generalizing s with
  | nil => rfl
  | cons i t ih => simp only [postAsync]; rw [ih]; split <;> simp
@[simp] theorem postFinal_ctx (s : State) (c : Nat) (st : Status) (b : Body) : (postFinal s c st b).ctx = s.ctx := by
  unfold postFinal; split
  · unfold postFinalAt; dsimp only; split
    · simp
    · split <;> simp
  · rfl
@[simp] theorem postAsync_val (m : BitVec 8) (x : Msg) (l : List Nat) (s : State) : (postAsync s m x l).val = s.val := by
  induction l generalizing s with
  | nil => rfl
  | cons i t ih => simp only [postAsync]; rw [ih]; split <;> simp
@[simp] theorem postFinal_val (s : State) (c : Nat) (st : Status) (b : Body) : (postFinal s c st b).val = s.val := by
  unfold postFinal; split
  · unfold postFinalAt; dsimp only; split
    · simp
    · split <;> simp
  · rfl
@[simp] theorem postAsync_keys (m : BitVec 8) (x : Msg) (l : List Nat) (s : State) : (postAsync s m x l).keys = s.keys := by
  induction l generalizing s with
  | nil => rfl
  | cons i t ih => simp only [postAsync]; rw [ih]; split <;> simp
@[simp] theorem postFinal_keys (s : State) (c : Nat) (st : Status) (b : Body) : (postFinal s c st b).keys = s.keys := by
  unfold postFinal; split
  · unfold postFinalAt; dsimp only; split
    · simp
    · split <;> simp
  · rfl
@[simp] theorem postAsync_quar (m : BitVec 8) (x : Msg) (l : List Nat) (s : State) : (postAsync s m x l).quar = s.quar := by
  induction l generalizing s with
  | nil => rfl
  | cons i t ih => simp only [postAsync]; rw [ih]; split <;> simp
@[simp] theorem postFinal_quar (s : State) (c : Nat) (st : Status) (b : Body) : (postFinal s c st b).quar = s.quar := by
  unfold postFinal; split
  · unfold postFinalAt; dsimp only; split
    · simp
    · split <;> simp
  · rfl
@[simp] theorem postAsync_flow (m : BitVec 8) (x : Msg) (l : List Nat) (s : State) : (postAsync s m x l).flow = s.flow := by
  induction l generalizing s with
  | nil => rfl
  | cons i t ih => simp only [postAsync]; rw [ih]; split <;> simp
@[simp] theorem postFinal_flow (s : State) (c : Nat) (st : Status) (b : Body) : (postFinal s c st b).flow = s.flow := by
  unfold postFinal; split
  · unfold postFinalAt; dsimp only; split
    · simp
    · split <;> simp
  · rfl
@[simp] theorem postAsync_bill (m : BitVec 8) (x : Msg) (l : List Nat) (s : State) : (postAsync s m x l).bill = s.bill := by
  induction l generalizing s with
  | nil => rfl
  | cons i t ih => simp only [postAsync]; rw [ih]; split <;> simp
@[simp] theorem postFinal_bill (s : State) (c : Nat) (st : Status) (b : Body) : (postFinal s c st b).bill = s.bill := by
  unfold postFinal; split
  · unfold postFinalAt; dsimp only; split
    · simp
    · split <;> simp
  · rfl
@[simp] theorem postAsync_bal (m : BitVec 8) (x : Msg) (l : List Nat) (s : State) : (postAsync s m x l).bal = s.bal := by
  induction l generalizing s with
  | nil => rfl
  | cons i t ih => simp only [postAsync]; rw [ih]; split <;> simp
@[simp] theorem postFinal_bal (s : State) (c : Nat) (st : Status) (b : Body) : (postFinal s c st b).bal = s.bal := by
  unfold postFinal; split
  · unfold postFinalAt; dsimp only; split
    · simp
    · split <;> simp
  · rfl
@[simp] theorem postAsync_metro (m : BitVec 8) (x : Msg) (l : List Nat) (s : State) : (postAsync s m x l).metro = s.metro := by
  induction l generalizing s with
  | nil => rfl
  | cons i t ih => simp only [postAsync]; rw [ih]; split <;> simp
@[simp] theorem postFinal_metro (s : State) (c : Nat) (st : Status) (b : Body) : (postFinal s c st b).metro = s.metro := by
  unfold postFinal; split
  · unfold postFinalAt; dsimp only; split
    · simp
    · split <;> simp
  · rfl
@[simp] theorem postAsync_store (m : BitVec 8) (x : Msg) (l : List Nat) (s : State) : (postAsync s m x l).store = s.store := by
  induction l generalizing s with
  | nil => rfl
  | cons i t ih => simp only [postAsync]; rw [ih]; split <;> simp
@[simp] theorem postFinal_store (s : State) (c : Nat) (st : Status) (b : Body) : (postFinal s c st b).store = s.store := by
  unfold postFinal; split
  · unfold postFinalAt; dsimp only; split
    · simp
    · split <;> simp
  · rfl
@[simp] theorem postAsync_q (m : BitVec 8) (x : Msg) (l : List Nat) (s : State) : (postAsync s m x l).q = s.q := by
  induction l generalizing s with
  | nil => rfl
  | cons i t ih => simp only [postAsync]; rw [ih]; split <;> simp
@[simp] theorem postFinal_q (s : State) (c : Nat) (st : Status) (b : Body) : (postFinal s c st b).q = s.q := by
  unfold postFinal; split
  · unfold postFinalAt; dsimp only; split
    · simp
    · split <;> simp
  · rfl
@[simp] theorem postAsync_dma (m : BitVec 8) (x : Msg) (l : List Nat) (s : State) : (postAsync s m x l).dma = s.dma := by
  induction l generalizing s with
  | nil => rfl
  | cons i t ih => simp only [postAsync]; rw [ih]; split <;> simp
@[simp] theorem postFinal_dma (s : State) (c : Nat) (st : Status) (b : Body) : (postFinal s c st b).dma = s.dma := by
  unfold postFinal; split
  · unfold postFinalAt; dsimp only; split
    · simp
    · split <;> simp
  · rfl
@[simp] theorem postAsync_upd (m : BitVec 8) (x : Msg) (l : List Nat) (s : State) : (postAsync s m x l).upd = s.upd := by
  induction l generalizing s with
  | nil => rfl
  | cons i t ih => simp only [postAsync]; rw [ih]; split <;> simp
@[simp] theorem postFinal_upd (s : State) (c : Nat) (st : Status) (b : Body) : (postFinal s c st b).upd = s.upd := by
  unfold postFinal; split
  · unfold postFinalAt; dsimp only; split
    · simp
    · split <;> simp
  · rfl
@[simp] theorem postAsync_campBlocks (m : BitVec 8) (x : Msg) (l : List Nat) (s : State) : (postAsync s m x l).campBlocks = s.campBlocks := by
  induction l generalizing s with
  | nil => rfl
  | cons i t ih => simp only [postAsync]; rw [ih]; split <;> simp
@[simp] theorem postFinal_campBlocks (s : State) (c : Nat) (st : Status) (b : Body) : (postFinal s c st b).campBlocks = s.campBlocks := by
  unfold postFinal; split
  · unfold postFinalAt; dsimp only; split
    · simp
    · split <;> simp
  · rfl
@[simp] theorem postAsync_pendParams (m : BitVec 8) (x : Msg) (l : List Nat) (s : State) : (postAsync s m x l).pendParams = s.pendParams := by
  induction l generalizing s with
  | nil => rfl
  | cons i t ih => simp only [postAsync]; rw [ih]; split <;> simp
@[simp] theorem postFinal_pendParams (s : State) (c : Nat) (st : Status) (b : Body) : (postFinal s c st b).pendParams = s.pendParams := by
  unfold postFinal; split
  · unfold postFinalAt; dsimp only; split
    · simp
    · split <;> simp
  · rfl
@[simp] theorem postAsync_alarms (m : BitVec 8) (x : Msg) (l : List Nat) (s : State) : (postAsync s m x l).alarms = s.alarms := by
  induction l generalizing s with
  | nil => rfl
  | cons i t ih => simp only [postAsync]; rw [ih]; split <;> simp
@[simp] theorem postFinal_alarms (s : State) (c : Nat) (st : Status) (b : Body) : (postFinal s c st b).alarms = s.alarms := by
  unfold postFinal; split
  · unfold postFinalAt; dsimp only; split
    · simp
    · split <;> simp
  · rfl
@[simp] theorem postAsync_freeCtr (m : BitVec 8) (x : Msg) (l : List Nat) (s : State) : (postAsync s m x l).freeCtr = s.freeCtr := by
  induction l generalizing s with
  | nil => rfl
  | cons i t ih => simp only [postAsync]; rw [ih]; split <;> simp
@[simp] theorem postFinal_freeCtr (s : State) (c : Nat) (st : Status) (b : Body) : (postFinal s c st b).freeCtr = s.freeCtr := by
  unfold postFinal; split
  · unfold postFinalAt; dsimp only; split
    · simp
    · split <;> simp
  · rfl
@[simp] theorem postAsync_pending (m : BitVec 8) (x : Msg) (l : List Nat) (s : State) : (postAsync s m x l).pending = s.pending := by
  induction l generalizing s with
  | nil => rfl
  | cons i t ih => simp only [postAsync]; rw [ih]; split <;> simp
@[simp] theorem postFinal_pending (s : State) (c : Nat) (st : Status) (b : Body) : (postFinal s c st b).pending = s.pending := by
  unfold postFinal; split
  · unfold postFinalAt; dsimp only; split
    · simp
    · split <;> simp
  · rfl

/-! ### Recorder interrupts -/

@[simp] theorem recRaise_p (o : RecSt) (s : State) : (recRaise o s).p = s.p := by
  unfold recRaise; split <;> rfl
@[simp] theorem recRaise_vault (o : RecSt) (s : State) : (recRaise o s).vault = s.vault := by
  unfold recRaise; split <;> rfl
@[simp] theorem recRaise_boot (o : RecSt) (s : State) : (recRaise o s).boot = s.boot := by
  unfold recRaise; split <;> rfl
@[simp] theorem recRaise_time (o : RecSt) (s : State) : (recRaise o s).time = s.time := by
  unfold recRaise; split <;> rfl
@[simp] theorem recRaise_mb (o : RecSt) (s : State) : (recRaise o s).mb = s.mb := by
  unfold recRaise; split <;> rfl
@[simp] theorem recRaise_err (o : RecSt) (s : State) : (recRaise o s).err = s.err := by
  unfold recRaise; split <;> rfl
@[simp] theorem recRaise_recd (o : RecSt) (s : State) : (recRaise o s).recd = s.recd := by
  unfold recRaise; split <;> rfl
@[simp] theorem recRaise_reg (o : RecSt) (s : State) : (recRaise o s).reg = s.reg := by
  unfold recRaise; split <;> rfl
@[simp] theorem recRaise_eth (o : RecSt) (s : State) : (recRaise o s).eth = s.eth := by
  unfold recRaise; split <;> rfl
@[simp] theorem recRaise_pair (o : RecSt) (s : State) : (recRaise o s).pair = s.pair := by
  unfold recRaise; split <;> rfl
@[simp] theorem recRaise_plc (o : RecSt) (s : State) : (recRaise o s).plc = s.plc := by
  unfold recRaise; split <;> rfl
@[simp] theorem recRaise_rf (o : RecSt) (s : State) : (recRaise o s).rf = s.rf := by
  unfold recRaise; split <;> rfl
@[simp] theorem recRaise_cell (o : RecSt) (s : State) : (recRaise o s).cell = s.cell := by
  unfold recRaise; split <;> rfl
@[simp] theorem recRaise_ctx (o : RecSt) (s : State) : (recRaise o s).ctx = s.ctx := by
  unfold recRaise; split <;> rfl
@[simp] theorem recRaise_val (o : RecSt) (s : State) : (recRaise o s).val = s.val := by
  unfold recRaise; split <;> rfl
@[simp] theorem recRaise_keys (o : RecSt) (s : State) : (recRaise o s).keys = s.keys := by
  unfold recRaise; split <;> rfl
@[simp] theorem recRaise_quar (o : RecSt) (s : State) : (recRaise o s).quar = s.quar := by
  unfold recRaise; split <;> rfl
@[simp] theorem recRaise_flow (o : RecSt) (s : State) : (recRaise o s).flow = s.flow := by
  unfold recRaise; split <;> rfl
@[simp] theorem recRaise_bill (o : RecSt) (s : State) : (recRaise o s).bill = s.bill := by
  unfold recRaise; split <;> rfl
@[simp] theorem recRaise_bal (o : RecSt) (s : State) : (recRaise o s).bal = s.bal := by
  unfold recRaise; split <;> rfl
@[simp] theorem recRaise_metro (o : RecSt) (s : State) : (recRaise o s).metro = s.metro := by
  unfold recRaise; split <;> rfl
@[simp] theorem recRaise_store (o : RecSt) (s : State) : (recRaise o s).store = s.store := by
  unfold recRaise; split <;> rfl
@[simp] theorem recRaise_q (o : RecSt) (s : State) : (recRaise o s).q = s.q := by
  unfold recRaise; split <;> rfl
@[simp] theorem recRaise_dma (o : RecSt) (s : State) : (recRaise o s).dma = s.dma := by
  unfold recRaise; split <;> rfl
@[simp] theorem recRaise_upd (o : RecSt) (s : State) : (recRaise o s).upd = s.upd := by
  unfold recRaise; split <;> rfl
@[simp] theorem recRaise_campBlocks (o : RecSt) (s : State) : (recRaise o s).campBlocks = s.campBlocks := by
  unfold recRaise; split <;> rfl
@[simp] theorem recRaise_pendParams (o : RecSt) (s : State) : (recRaise o s).pendParams = s.pendParams := by
  unfold recRaise; split <;> rfl
@[simp] theorem recRaise_alarms (o : RecSt) (s : State) : (recRaise o s).alarms = s.alarms := by
  unfold recRaise; split <;> rfl
@[simp] theorem recRaise_freeCtr (o : RecSt) (s : State) : (recRaise o s).freeCtr = s.freeCtr := by
  unfold recRaise; split <;> rfl
@[simp] theorem recRaise_pending (o : RecSt) (s : State) : (recRaise o s).pending = s.pending := by
  unfold recRaise; split <;> rfl

/-! ### One thing given off, and all of them -/

@[simp] theorem emit1_p (s : State) (e : Emit) : (emit1 s e).p = s.p := by
  cases e <;> simp only [emit1] <;> (repeat' split) <;> first | rfl | simp
@[simp] theorem emitAll_p (l : List Emit) (s : State) : (emitAll s l).p = s.p := by
  induction l generalizing s with
  | nil => rfl
  | cons e t ih => simp only [emitAll]; rw [ih]; simp
@[simp] theorem emit1_vault (s : State) (e : Emit) : (emit1 s e).vault = s.vault := by
  cases e <;> simp only [emit1] <;> (repeat' split) <;> first | rfl | simp
@[simp] theorem emitAll_vault (l : List Emit) (s : State) : (emitAll s l).vault = s.vault := by
  induction l generalizing s with
  | nil => rfl
  | cons e t ih => simp only [emitAll]; rw [ih]; simp
@[simp] theorem emit1_boot (s : State) (e : Emit) : (emit1 s e).boot = s.boot := by
  cases e <;> simp only [emit1] <;> (repeat' split) <;> first | rfl | simp
@[simp] theorem emitAll_boot (l : List Emit) (s : State) : (emitAll s l).boot = s.boot := by
  induction l generalizing s with
  | nil => rfl
  | cons e t ih => simp only [emitAll]; rw [ih]; simp
@[simp] theorem emit1_time (s : State) (e : Emit) : (emit1 s e).time = s.time := by
  cases e <;> simp only [emit1] <;> (repeat' split) <;> first | rfl | simp
@[simp] theorem emitAll_time (l : List Emit) (s : State) : (emitAll s l).time = s.time := by
  induction l generalizing s with
  | nil => rfl
  | cons e t ih => simp only [emitAll]; rw [ih]; simp
@[simp] theorem emit1_reg (s : State) (e : Emit) : (emit1 s e).reg = s.reg := by
  cases e <;> simp only [emit1] <;> (repeat' split) <;> first | rfl | simp
@[simp] theorem emitAll_reg (l : List Emit) (s : State) : (emitAll s l).reg = s.reg := by
  induction l generalizing s with
  | nil => rfl
  | cons e t ih => simp only [emitAll]; rw [ih]; simp
@[simp] theorem emit1_eth (s : State) (e : Emit) : (emit1 s e).eth = s.eth := by
  cases e <;> simp only [emit1] <;> (repeat' split) <;> first | rfl | simp
@[simp] theorem emitAll_eth (l : List Emit) (s : State) : (emitAll s l).eth = s.eth := by
  induction l generalizing s with
  | nil => rfl
  | cons e t ih => simp only [emitAll]; rw [ih]; simp
@[simp] theorem emit1_pair (s : State) (e : Emit) : (emit1 s e).pair = s.pair := by
  cases e <;> simp only [emit1] <;> (repeat' split) <;> first | rfl | simp
@[simp] theorem emitAll_pair (l : List Emit) (s : State) : (emitAll s l).pair = s.pair := by
  induction l generalizing s with
  | nil => rfl
  | cons e t ih => simp only [emitAll]; rw [ih]; simp
@[simp] theorem emit1_plc (s : State) (e : Emit) : (emit1 s e).plc = s.plc := by
  cases e <;> simp only [emit1] <;> (repeat' split) <;> first | rfl | simp
@[simp] theorem emitAll_plc (l : List Emit) (s : State) : (emitAll s l).plc = s.plc := by
  induction l generalizing s with
  | nil => rfl
  | cons e t ih => simp only [emitAll]; rw [ih]; simp
@[simp] theorem emit1_rf (s : State) (e : Emit) : (emit1 s e).rf = s.rf := by
  cases e <;> simp only [emit1] <;> (repeat' split) <;> first | rfl | simp
@[simp] theorem emitAll_rf (l : List Emit) (s : State) : (emitAll s l).rf = s.rf := by
  induction l generalizing s with
  | nil => rfl
  | cons e t ih => simp only [emitAll]; rw [ih]; simp
@[simp] theorem emit1_cell (s : State) (e : Emit) : (emit1 s e).cell = s.cell := by
  cases e <;> simp only [emit1] <;> (repeat' split) <;> first | rfl | simp
@[simp] theorem emitAll_cell (l : List Emit) (s : State) : (emitAll s l).cell = s.cell := by
  induction l generalizing s with
  | nil => rfl
  | cons e t ih => simp only [emitAll]; rw [ih]; simp
@[simp] theorem emit1_ctx (s : State) (e : Emit) : (emit1 s e).ctx = s.ctx := by
  cases e <;> simp only [emit1] <;> (repeat' split) <;> first | rfl | simp
@[simp] theorem emitAll_ctx (l : List Emit) (s : State) : (emitAll s l).ctx = s.ctx := by
  induction l generalizing s with
  | nil => rfl
  | cons e t ih => simp only [emitAll]; rw [ih]; simp
@[simp] theorem emit1_val (s : State) (e : Emit) : (emit1 s e).val = s.val := by
  cases e <;> simp only [emit1] <;> (repeat' split) <;> first | rfl | simp
@[simp] theorem emitAll_val (l : List Emit) (s : State) : (emitAll s l).val = s.val := by
  induction l generalizing s with
  | nil => rfl
  | cons e t ih => simp only [emitAll]; rw [ih]; simp
@[simp] theorem emit1_keys (s : State) (e : Emit) : (emit1 s e).keys = s.keys := by
  cases e <;> simp only [emit1] <;> (repeat' split) <;> first | rfl | simp
@[simp] theorem emitAll_keys (l : List Emit) (s : State) : (emitAll s l).keys = s.keys := by
  induction l generalizing s with
  | nil => rfl
  | cons e t ih => simp only [emitAll]; rw [ih]; simp
@[simp] theorem emit1_quar (s : State) (e : Emit) : (emit1 s e).quar = s.quar := by
  cases e <;> simp only [emit1] <;> (repeat' split) <;> first | rfl | simp
@[simp] theorem emitAll_quar (l : List Emit) (s : State) : (emitAll s l).quar = s.quar := by
  induction l generalizing s with
  | nil => rfl
  | cons e t ih => simp only [emitAll]; rw [ih]; simp
@[simp] theorem emit1_flow (s : State) (e : Emit) : (emit1 s e).flow = s.flow := by
  cases e <;> simp only [emit1] <;> (repeat' split) <;> first | rfl | simp
@[simp] theorem emitAll_flow (l : List Emit) (s : State) : (emitAll s l).flow = s.flow := by
  induction l generalizing s with
  | nil => rfl
  | cons e t ih => simp only [emitAll]; rw [ih]; simp
@[simp] theorem emit1_bill (s : State) (e : Emit) : (emit1 s e).bill = s.bill := by
  cases e <;> simp only [emit1] <;> (repeat' split) <;> first | rfl | simp
@[simp] theorem emitAll_bill (l : List Emit) (s : State) : (emitAll s l).bill = s.bill := by
  induction l generalizing s with
  | nil => rfl
  | cons e t ih => simp only [emitAll]; rw [ih]; simp
@[simp] theorem emit1_bal (s : State) (e : Emit) : (emit1 s e).bal = s.bal := by
  cases e <;> simp only [emit1] <;> (repeat' split) <;> first | rfl | simp
@[simp] theorem emitAll_bal (l : List Emit) (s : State) : (emitAll s l).bal = s.bal := by
  induction l generalizing s with
  | nil => rfl
  | cons e t ih => simp only [emitAll]; rw [ih]; simp
@[simp] theorem emit1_metro (s : State) (e : Emit) : (emit1 s e).metro = s.metro := by
  cases e <;> simp only [emit1] <;> (repeat' split) <;> first | rfl | simp
@[simp] theorem emitAll_metro (l : List Emit) (s : State) : (emitAll s l).metro = s.metro := by
  induction l generalizing s with
  | nil => rfl
  | cons e t ih => simp only [emitAll]; rw [ih]; simp
@[simp] theorem emit1_store (s : State) (e : Emit) : (emit1 s e).store = s.store := by
  cases e <;> simp only [emit1] <;> (repeat' split) <;> first | rfl | simp
@[simp] theorem emitAll_store (l : List Emit) (s : State) : (emitAll s l).store = s.store := by
  induction l generalizing s with
  | nil => rfl
  | cons e t ih => simp only [emitAll]; rw [ih]; simp
@[simp] theorem emit1_q (s : State) (e : Emit) : (emit1 s e).q = s.q := by
  cases e <;> simp only [emit1] <;> (repeat' split) <;> first | rfl | simp
@[simp] theorem emitAll_q (l : List Emit) (s : State) : (emitAll s l).q = s.q := by
  induction l generalizing s with
  | nil => rfl
  | cons e t ih => simp only [emitAll]; rw [ih]; simp
@[simp] theorem emit1_dma (s : State) (e : Emit) : (emit1 s e).dma = s.dma := by
  cases e <;> simp only [emit1] <;> (repeat' split) <;> first | rfl | simp
@[simp] theorem emitAll_dma (l : List Emit) (s : State) : (emitAll s l).dma = s.dma := by
  induction l generalizing s with
  | nil => rfl
  | cons e t ih => simp only [emitAll]; rw [ih]; simp
@[simp] theorem emit1_upd (s : State) (e : Emit) : (emit1 s e).upd = s.upd := by
  cases e <;> simp only [emit1] <;> (repeat' split) <;> first | rfl | simp
@[simp] theorem emitAll_upd (l : List Emit) (s : State) : (emitAll s l).upd = s.upd := by
  induction l generalizing s with
  | nil => rfl
  | cons e t ih => simp only [emitAll]; rw [ih]; simp
@[simp] theorem emit1_campBlocks (s : State) (e : Emit) : (emit1 s e).campBlocks = s.campBlocks := by
  cases e <;> simp only [emit1] <;> (repeat' split) <;> first | rfl | simp
@[simp] theorem emitAll_campBlocks (l : List Emit) (s : State) : (emitAll s l).campBlocks = s.campBlocks := by
  induction l generalizing s with
  | nil => rfl
  | cons e t ih => simp only [emitAll]; rw [ih]; simp
@[simp] theorem emit1_pendParams (s : State) (e : Emit) : (emit1 s e).pendParams = s.pendParams := by
  cases e <;> simp only [emit1] <;> (repeat' split) <;> first | rfl | simp
@[simp] theorem emitAll_pendParams (l : List Emit) (s : State) : (emitAll s l).pendParams = s.pendParams := by
  induction l generalizing s with
  | nil => rfl
  | cons e t ih => simp only [emitAll]; rw [ih]; simp
@[simp] theorem emit1_pending (s : State) (e : Emit) : (emit1 s e).pending = s.pending := by
  cases e <;> simp only [emit1] <;> (repeat' split) <;> first | rfl | simp
@[simp] theorem emitAll_pending (l : List Emit) (s : State) : (emitAll s l).pending = s.pending := by
  induction l generalizing s with
  | nil => rfl
  | cons e t ih => simp only [emitAll]; rw [ih]; simp

/-! ### Breaking a chain, taking and answering a request -/

@[simp] theorem breakChain_p (s : State) (i : Nat) (t : Word16) (st : Status) : (breakChain s i t st).p = s.p := by
  unfold breakChain; dsimp only; split
  · split <;> simp
  · rfl
@[simp] theorem taken_p (s : State) (r : Req) : (taken s r).p = s.p := by simp [taken]
@[simp] theorem answer_p (s : State) (r : Req) (c : Nat) (st : Status) (b : Body) : (answer s r c st b).p = s.p := by simp [answer]
@[simp] theorem breakChain_vault (s : State) (i : Nat) (t : Word16) (st : Status) : (breakChain s i t st).vault = s.vault := by
  unfold breakChain; dsimp only; split
  · split <;> simp
  · rfl
@[simp] theorem taken_vault (s : State) (r : Req) : (taken s r).vault = s.vault := by simp [taken]
@[simp] theorem answer_vault (s : State) (r : Req) (c : Nat) (st : Status) (b : Body) : (answer s r c st b).vault = s.vault := by simp [answer]
@[simp] theorem breakChain_boot (s : State) (i : Nat) (t : Word16) (st : Status) : (breakChain s i t st).boot = s.boot := by
  unfold breakChain; dsimp only; split
  · split <;> simp
  · rfl
@[simp] theorem taken_boot (s : State) (r : Req) : (taken s r).boot = s.boot := by simp [taken]
@[simp] theorem answer_boot (s : State) (r : Req) (c : Nat) (st : Status) (b : Body) : (answer s r c st b).boot = s.boot := by simp [answer]
@[simp] theorem breakChain_time (s : State) (i : Nat) (t : Word16) (st : Status) : (breakChain s i t st).time = s.time := by
  unfold breakChain; dsimp only; split
  · split <;> simp
  · rfl
@[simp] theorem taken_time (s : State) (r : Req) : (taken s r).time = s.time := by simp [taken]
@[simp] theorem answer_time (s : State) (r : Req) (c : Nat) (st : Status) (b : Body) : (answer s r c st b).time = s.time := by simp [answer]
@[simp] theorem breakChain_err (s : State) (i : Nat) (t : Word16) (st : Status) : (breakChain s i t st).err = s.err := by
  unfold breakChain; dsimp only; split
  · split <;> simp
  · rfl
@[simp] theorem taken_err (s : State) (r : Req) : (taken s r).err = s.err := by simp [taken]
@[simp] theorem answer_err (s : State) (r : Req) (c : Nat) (st : Status) (b : Body) : (answer s r c st b).err = s.err := by simp [answer]
@[simp] theorem breakChain_recd (s : State) (i : Nat) (t : Word16) (st : Status) : (breakChain s i t st).recd = s.recd := by
  unfold breakChain; dsimp only; split
  · split <;> simp
  · rfl
@[simp] theorem taken_recd (s : State) (r : Req) : (taken s r).recd = s.recd := by simp [taken]
@[simp] theorem answer_recd (s : State) (r : Req) (c : Nat) (st : Status) (b : Body) : (answer s r c st b).recd = s.recd := by simp [answer]
@[simp] theorem breakChain_reg (s : State) (i : Nat) (t : Word16) (st : Status) : (breakChain s i t st).reg = s.reg := by
  unfold breakChain; dsimp only; split
  · split <;> simp
  · rfl
@[simp] theorem taken_reg (s : State) (r : Req) : (taken s r).reg = s.reg := by simp [taken]
@[simp] theorem answer_reg (s : State) (r : Req) (c : Nat) (st : Status) (b : Body) : (answer s r c st b).reg = s.reg := by simp [answer]
@[simp] theorem breakChain_eth (s : State) (i : Nat) (t : Word16) (st : Status) : (breakChain s i t st).eth = s.eth := by
  unfold breakChain; dsimp only; split
  · split <;> simp
  · rfl
@[simp] theorem taken_eth (s : State) (r : Req) : (taken s r).eth = s.eth := by simp [taken]
@[simp] theorem answer_eth (s : State) (r : Req) (c : Nat) (st : Status) (b : Body) : (answer s r c st b).eth = s.eth := by simp [answer]
@[simp] theorem breakChain_pair (s : State) (i : Nat) (t : Word16) (st : Status) : (breakChain s i t st).pair = s.pair := by
  unfold breakChain; dsimp only; split
  · split <;> simp
  · rfl
@[simp] theorem taken_pair (s : State) (r : Req) : (taken s r).pair = s.pair := by simp [taken]
@[simp] theorem answer_pair (s : State) (r : Req) (c : Nat) (st : Status) (b : Body) : (answer s r c st b).pair = s.pair := by simp [answer]
@[simp] theorem breakChain_plc (s : State) (i : Nat) (t : Word16) (st : Status) : (breakChain s i t st).plc = s.plc := by
  unfold breakChain; dsimp only; split
  · split <;> simp
  · rfl
@[simp] theorem taken_plc (s : State) (r : Req) : (taken s r).plc = s.plc := by simp [taken]
@[simp] theorem answer_plc (s : State) (r : Req) (c : Nat) (st : Status) (b : Body) : (answer s r c st b).plc = s.plc := by simp [answer]
@[simp] theorem breakChain_rf (s : State) (i : Nat) (t : Word16) (st : Status) : (breakChain s i t st).rf = s.rf := by
  unfold breakChain; dsimp only; split
  · split <;> simp
  · rfl
@[simp] theorem taken_rf (s : State) (r : Req) : (taken s r).rf = s.rf := by simp [taken]
@[simp] theorem answer_rf (s : State) (r : Req) (c : Nat) (st : Status) (b : Body) : (answer s r c st b).rf = s.rf := by simp [answer]
@[simp] theorem breakChain_cell (s : State) (i : Nat) (t : Word16) (st : Status) : (breakChain s i t st).cell = s.cell := by
  unfold breakChain; dsimp only; split
  · split <;> simp
  · rfl
@[simp] theorem taken_cell (s : State) (r : Req) : (taken s r).cell = s.cell := by simp [taken]
@[simp] theorem answer_cell (s : State) (r : Req) (c : Nat) (st : Status) (b : Body) : (answer s r c st b).cell = s.cell := by simp [answer]
@[simp] theorem breakChain_ctx (s : State) (i : Nat) (t : Word16) (st : Status) : (breakChain s i t st).ctx = s.ctx := by
  unfold breakChain; dsimp only; split
  · split <;> simp
  · rfl
@[simp] theorem taken_ctx (s : State) (r : Req) : (taken s r).ctx = s.ctx := by simp [taken]
@[simp] theorem answer_ctx (s : State) (r : Req) (c : Nat) (st : Status) (b : Body) : (answer s r c st b).ctx = s.ctx := by simp [answer]
@[simp] theorem breakChain_val (s : State) (i : Nat) (t : Word16) (st : Status) : (breakChain s i t st).val = s.val := by
  unfold breakChain; dsimp only; split
  · split <;> simp
  · rfl
@[simp] theorem taken_val (s : State) (r : Req) : (taken s r).val = s.val := by simp [taken]
@[simp] theorem answer_val (s : State) (r : Req) (c : Nat) (st : Status) (b : Body) : (answer s r c st b).val = s.val := by simp [answer]
@[simp] theorem breakChain_keys (s : State) (i : Nat) (t : Word16) (st : Status) : (breakChain s i t st).keys = s.keys := by
  unfold breakChain; dsimp only; split
  · split <;> simp
  · rfl
@[simp] theorem taken_keys (s : State) (r : Req) : (taken s r).keys = s.keys := by simp [taken]
@[simp] theorem answer_keys (s : State) (r : Req) (c : Nat) (st : Status) (b : Body) : (answer s r c st b).keys = s.keys := by simp [answer]
@[simp] theorem breakChain_quar (s : State) (i : Nat) (t : Word16) (st : Status) : (breakChain s i t st).quar = s.quar := by
  unfold breakChain; dsimp only; split
  · split <;> simp
  · rfl
@[simp] theorem taken_quar (s : State) (r : Req) : (taken s r).quar = s.quar := by simp [taken]
@[simp] theorem answer_quar (s : State) (r : Req) (c : Nat) (st : Status) (b : Body) : (answer s r c st b).quar = s.quar := by simp [answer]
@[simp] theorem breakChain_flow (s : State) (i : Nat) (t : Word16) (st : Status) : (breakChain s i t st).flow = s.flow := by
  unfold breakChain; dsimp only; split
  · split <;> simp
  · rfl
@[simp] theorem taken_flow (s : State) (r : Req) : (taken s r).flow = s.flow := by simp [taken]
@[simp] theorem answer_flow (s : State) (r : Req) (c : Nat) (st : Status) (b : Body) : (answer s r c st b).flow = s.flow := by simp [answer]
@[simp] theorem breakChain_bill (s : State) (i : Nat) (t : Word16) (st : Status) : (breakChain s i t st).bill = s.bill := by
  unfold breakChain; dsimp only; split
  · split <;> simp
  · rfl
@[simp] theorem taken_bill (s : State) (r : Req) : (taken s r).bill = s.bill := by simp [taken]
@[simp] theorem answer_bill (s : State) (r : Req) (c : Nat) (st : Status) (b : Body) : (answer s r c st b).bill = s.bill := by simp [answer]
@[simp] theorem breakChain_bal (s : State) (i : Nat) (t : Word16) (st : Status) : (breakChain s i t st).bal = s.bal := by
  unfold breakChain; dsimp only; split
  · split <;> simp
  · rfl
@[simp] theorem taken_bal (s : State) (r : Req) : (taken s r).bal = s.bal := by simp [taken]
@[simp] theorem answer_bal (s : State) (r : Req) (c : Nat) (st : Status) (b : Body) : (answer s r c st b).bal = s.bal := by simp [answer]
@[simp] theorem breakChain_metro (s : State) (i : Nat) (t : Word16) (st : Status) : (breakChain s i t st).metro = s.metro := by
  unfold breakChain; dsimp only; split
  · split <;> simp
  · rfl
@[simp] theorem taken_metro (s : State) (r : Req) : (taken s r).metro = s.metro := by simp [taken]
@[simp] theorem answer_metro (s : State) (r : Req) (c : Nat) (st : Status) (b : Body) : (answer s r c st b).metro = s.metro := by simp [answer]
@[simp] theorem breakChain_store (s : State) (i : Nat) (t : Word16) (st : Status) : (breakChain s i t st).store = s.store := by
  unfold breakChain; dsimp only; split
  · split <;> simp
  · rfl
@[simp] theorem taken_store (s : State) (r : Req) : (taken s r).store = s.store := by simp [taken]
@[simp] theorem answer_store (s : State) (r : Req) (c : Nat) (st : Status) (b : Body) : (answer s r c st b).store = s.store := by simp [answer]
@[simp] theorem breakChain_q (s : State) (i : Nat) (t : Word16) (st : Status) : (breakChain s i t st).q = s.q := by
  unfold breakChain; dsimp only; split
  · split <;> simp
  · rfl
@[simp] theorem taken_q (s : State) (r : Req) : (taken s r).q = s.q := by simp [taken]
@[simp] theorem answer_q (s : State) (r : Req) (c : Nat) (st : Status) (b : Body) : (answer s r c st b).q = s.q := by simp [answer]
@[simp] theorem breakChain_dma (s : State) (i : Nat) (t : Word16) (st : Status) : (breakChain s i t st).dma = s.dma := by
  unfold breakChain; dsimp only; split
  · split <;> simp
  · rfl
@[simp] theorem taken_dma (s : State) (r : Req) : (taken s r).dma = s.dma := by simp [taken]
@[simp] theorem answer_dma (s : State) (r : Req) (c : Nat) (st : Status) (b : Body) : (answer s r c st b).dma = s.dma := by simp [answer]
@[simp] theorem breakChain_upd (s : State) (i : Nat) (t : Word16) (st : Status) : (breakChain s i t st).upd = s.upd := by
  unfold breakChain; dsimp only; split
  · split <;> simp
  · rfl
@[simp] theorem taken_upd (s : State) (r : Req) : (taken s r).upd = s.upd := by simp [taken]
@[simp] theorem answer_upd (s : State) (r : Req) (c : Nat) (st : Status) (b : Body) : (answer s r c st b).upd = s.upd := by simp [answer]
@[simp] theorem breakChain_campBlocks (s : State) (i : Nat) (t : Word16) (st : Status) : (breakChain s i t st).campBlocks = s.campBlocks := by
  unfold breakChain; dsimp only; split
  · split <;> simp
  · rfl
@[simp] theorem taken_campBlocks (s : State) (r : Req) : (taken s r).campBlocks = s.campBlocks := by simp [taken]
@[simp] theorem answer_campBlocks (s : State) (r : Req) (c : Nat) (st : Status) (b : Body) : (answer s r c st b).campBlocks = s.campBlocks := by simp [answer]
@[simp] theorem breakChain_pendParams (s : State) (i : Nat) (t : Word16) (st : Status) : (breakChain s i t st).pendParams = s.pendParams := by
  unfold breakChain; dsimp only; split
  · split <;> simp
  · rfl
@[simp] theorem taken_pendParams (s : State) (r : Req) : (taken s r).pendParams = s.pendParams := by simp [taken]
@[simp] theorem answer_pendParams (s : State) (r : Req) (c : Nat) (st : Status) (b : Body) : (answer s r c st b).pendParams = s.pendParams := by simp [answer]
@[simp] theorem breakChain_alarms (s : State) (i : Nat) (t : Word16) (st : Status) : (breakChain s i t st).alarms = s.alarms := by
  unfold breakChain; dsimp only; split
  · split <;> simp
  · rfl
@[simp] theorem taken_alarms (s : State) (r : Req) : (taken s r).alarms = s.alarms := by simp [taken]
@[simp] theorem answer_alarms (s : State) (r : Req) (c : Nat) (st : Status) (b : Body) : (answer s r c st b).alarms = s.alarms := by simp [answer]
@[simp] theorem breakChain_freeCtr (s : State) (i : Nat) (t : Word16) (st : Status) : (breakChain s i t st).freeCtr = s.freeCtr := by
  unfold breakChain; dsimp only; split
  · split <;> simp
  · rfl
@[simp] theorem taken_freeCtr (s : State) (r : Req) : (taken s r).freeCtr = s.freeCtr := by simp [taken]
@[simp] theorem answer_freeCtr (s : State) (r : Req) (c : Nat) (st : Status) (b : Body) : (answer s r c st b).freeCtr = s.freeCtr := by simp [answer]
@[simp] theorem breakChain_pending (s : State) (i : Nat) (t : Word16) (st : Status) : (breakChain s i t st).pending = s.pending := by
  unfold breakChain; dsimp only; split
  · split <;> simp
  · rfl
@[simp] theorem taken_pending (s : State) (r : Req) : (taken s r).pending = s.pending := by simp [taken]
@[simp] theorem answer_pending (s : State) (r : Req) (c : Nat) (st : Status) (b : Body) : (answer s r c st b).pending = s.pending := by simp [answer]
@[simp] theorem served_p (ci : CmdInfo) (r : Req) (o : Reply) : (carried ci r o).p = o.s.p := by simp [carried]
@[simp] theorem served_vault (ci : CmdInfo) (r : Req) (o : Reply) : (carried ci r o).vault = o.s.vault := by simp [carried]
@[simp] theorem served_boot (ci : CmdInfo) (r : Req) (o : Reply) : (carried ci r o).boot = o.s.boot := by simp [carried]
@[simp] theorem served_time (ci : CmdInfo) (r : Req) (o : Reply) : (carried ci r o).time = o.s.time := by simp [carried]
@[simp] theorem served_reg (ci : CmdInfo) (r : Req) (o : Reply) : (carried ci r o).reg = o.s.reg := by simp [carried]
@[simp] theorem served_eth (ci : CmdInfo) (r : Req) (o : Reply) : (carried ci r o).eth = o.s.eth := by simp [carried]
@[simp] theorem served_pair (ci : CmdInfo) (r : Req) (o : Reply) : (carried ci r o).pair = o.s.pair := by simp [carried]
@[simp] theorem served_plc (ci : CmdInfo) (r : Req) (o : Reply) : (carried ci r o).plc = o.s.plc := by simp [carried]
@[simp] theorem served_rf (ci : CmdInfo) (r : Req) (o : Reply) : (carried ci r o).rf = o.s.rf := by simp [carried]
@[simp] theorem served_cell (ci : CmdInfo) (r : Req) (o : Reply) : (carried ci r o).cell = o.s.cell := by simp [carried]
@[simp] theorem served_ctx (ci : CmdInfo) (r : Req) (o : Reply) : (carried ci r o).ctx = o.s.ctx := by simp [carried]
@[simp] theorem served_val (ci : CmdInfo) (r : Req) (o : Reply) : (carried ci r o).val = o.s.val := by simp [carried]
@[simp] theorem served_keys (ci : CmdInfo) (r : Req) (o : Reply) : (carried ci r o).keys = o.s.keys := by simp [carried]
@[simp] theorem served_quar (ci : CmdInfo) (r : Req) (o : Reply) : (carried ci r o).quar = o.s.quar := by simp [carried]
@[simp] theorem served_flow (ci : CmdInfo) (r : Req) (o : Reply) : (carried ci r o).flow = o.s.flow := by simp [carried]
@[simp] theorem served_bill (ci : CmdInfo) (r : Req) (o : Reply) : (carried ci r o).bill = o.s.bill := by simp [carried]
@[simp] theorem served_bal (ci : CmdInfo) (r : Req) (o : Reply) : (carried ci r o).bal = o.s.bal := by simp [carried]
@[simp] theorem served_metro (ci : CmdInfo) (r : Req) (o : Reply) : (carried ci r o).metro = o.s.metro := by simp [carried]
@[simp] theorem served_store (ci : CmdInfo) (r : Req) (o : Reply) : (carried ci r o).store = o.s.store := by simp [carried]
@[simp] theorem served_q (ci : CmdInfo) (r : Req) (o : Reply) : (carried ci r o).q = o.s.q := by simp [carried]
@[simp] theorem served_dma (ci : CmdInfo) (r : Req) (o : Reply) : (carried ci r o).dma = o.s.dma := by simp [carried]
@[simp] theorem served_upd (ci : CmdInfo) (r : Req) (o : Reply) : (carried ci r o).upd = o.s.upd := by simp [carried]
@[simp] theorem served_campBlocks (ci : CmdInfo) (r : Req) (o : Reply) : (carried ci r o).campBlocks = o.s.campBlocks := by simp [carried]
@[simp] theorem served_pendParams (ci : CmdInfo) (r : Req) (o : Reply) : (carried ci r o).pendParams = o.s.pendParams := by simp [carried]
@[simp] theorem served_pending (ci : CmdInfo) (r : Req) (o : Reply) : (carried ci r o).pending = o.s.pending := by simp [carried]

/-! ### A GMI command -/

/-- A GMI command is not taken, is turned away by the rules of R457, or runs its handler. -/
theorem gmiT_cases (ci : CmdInfo) (tbl : Role → Bool) (r : Req) (h : State → Reply) (s : State) :
    gmiT ci tbl r h s = s ∨
    (∃ st, judge (taken s r) ci tbl r = some st ∧
      gmiT ci tbl r h s = answer (emitAll (taken s r) (roleViolation (taken s r) ci tbl r)) r ci.code st []) ∨
    (Accepts ci tbl r s ∧ gmiT ci tbl r h s = carried ci r (h (taken s r))) := by
  unfold gmiT
  split
  · rename_i ht
    dsimp only
    split
    · rename_i st hj; exact .inr (.inl ⟨st, hj, rfl⟩)
    · rename_i hj; exact .inr (.inr ⟨⟨ht, hj⟩, rfl⟩)
  · exact .inl rfl

/-- An accepted request is carried by its handler. -/
theorem gmiT_served {ci : CmdInfo} {tbl : Role → Bool} {r : Req} {h : State → Reply} {s : State} (a : Accepts ci tbl r s) :
    gmiT ci tbl r h s = carried ci r (h (taken s r)) := by
  unfold gmiT; rw [if_pos a.take]; dsimp only; rw [show judge (takeReq (breakChain s r.mb.val r.tag .badParam) r) ci tbl r = none from a.rules]; rfl

end Sys2Proof.Machine
end

