-- ==== Sys2Proof/Laws/Runs.lean ====
section
/-! SUPPORT. How a meaning ends in a next state: one lemma for each shape of meaning. -/

namespace Sys2Proof.Machine
open Sys2Proof

/-- A meaning whose condition holds answers the state its effect makes. -/
theorem finish_if {c : Prop} [Decidable c] {s a b : State} (h : c) : finish s (if c then a else b) = .next (done s a) := by
  rw [if_pos h]; rfl

/-- A meaning whose condition fails leaves the state, but for outputs that had not followed it. -/
theorem finish_if_not {c : Prop} [Decidable c] {s a b : State} (h : ¬c) : finish s (if c then a else b) = .next (done s b) := by
  rw [if_neg h]; rfl

/-- An accepted request without T. -/
theorem finish_gmi {ci : CmdInfo} {r : Req} {h : State → Reply} {s : State} (a : Accepts ci noTable r s) :
    finish s (gmi ci r h s) = .next (done s (carried ci r (h (taken s r)))) := by
  have : gmi ci r h s = gmiT ci noTable r h s := rfl
  rw [this, gmiT_served a]; rfl

/-- An accepted request of a command with T. -/
theorem finish_gmiT {ci : CmdInfo} {tbl : Role → Bool} {r : Req} {h : State → Reply} {s : State} (a : Accepts ci tbl r s) :
    finish s (gmiT ci tbl r h s) = .next (done s (carried ci r (h (taken s r)))) := by
  rw [gmiT_served a]; rfl

/-- A request that the engine does not take changes nothing. -/
theorem gmiT_not_taken {ci : CmdInfo} {tbl : Role → Bool} {r : Req} {h : State → Reply} {s : State} (n : canTake s r = false) :
    gmiT ci tbl r h s = s := by
  unfold gmiT; simp [n]

/-- A dispatched item is worked off. -/
theorem nodeWork_worked {s : State} {t core : Nat} {line : Item → Option Nat} {f : State → Item → NodeOut} {r : Run} {i : Item}
    {x : GNode} (d : Dispatched s t core line f r i x) : nodeWork t core line f s = worked s core line f i x := by
  have hr := d.room
  unfold nodeWork
  rw [d.work]
  simp only [d.node]
  unfold worked
  cases hl : line i with
  | none => simp only [onLine, hl] at hr ⊢; rw [if_pos hr]
  | some m =>
    simp only [onLine, hl] at hr ⊢
    rw [if_neg (by rw [d.free m hl]; exact Bool.false_ne_true), if_pos hr]

/-- A cell's message that passes reaches its handler. -/
theorem kclRx_passes {s : State} {c : Nat} {h : KclHdr} {hello : Bool} {a : Admission} {w : KeyView} (f : Bool → State → State)
    (p : KclPasses s c h hello a w) :
    kclRx c h hello f s =
      f (!(cellOf s c).upSeen || decide ((cellOf s c).upEpoch < h.epoch)) (kclPassed s c h a w) := by
  unfold kclRx
  rw [p.link, p.admitted]
  simp [p.window, p.usable, p.key, p.tag, kclPassed]

/-- A peer frame that passes reaches its handler. -/
theorem peerRx_passes {s : State} {h : KclHdr} {first : Bool} (f : State → State) (p : PeerPasses s h first) :
    peerRx h first f s = f (peerPassed s h) := by
  unfold peerRx
  rw [p.link]
  simp [p.window, peerPassed]

end Sys2Proof.Machine
end

