-- ==== Sys2Proof/Laws/Tables.lean ====
section
/-! SUPPORT. The laws of sparse tables: reading after writing. -/

namespace Sys2Proof.Tbl
open Sys2Proof

variable {α : Type}

@[simp] theorem get?_set_self (t : Tbl α) (i : Nat) (v : α) : (t.set i v).get? i = some v := by
  induction t with
  | nil => simp [set, get?]
  | cons e t ih =>
    obtain ⟨k, w⟩ := e
    simp only [set]
    split
    · simp [get?]
    · split
      · simp [get?]
      · rename_i h _; simp [get?, h, ih]

theorem get?_set_ne (t : Tbl α) {i j : Nat} (v : α) (h : j ≠ i) : (t.set i v).get? j = t.get? j := by
  induction t with
  | nil => simp [set, get?, h]
  | cons e t ih =>
    obtain ⟨k, w⟩ := e
    simp only [set]
    split
    · rename_i hk; subst hk; simp [get?, h]
    · split
      · simp [get?, h]
      · simp only [get?]; split
        · rfl
        · exact ih

@[simp] theorem getD_set_self (t : Tbl α) (i : Nat) (v d : α) : (t.set i v).getD i d = v := by simp [getD]

theorem getD_set_ne (t : Tbl α) {i j : Nat} (v d : α) (h : j ≠ i) : (t.set i v).getD j d = t.getD j d := by
  simp [getD, get?_set_ne t v h]

/-- A key written twice holds the later value. -/
@[simp] theorem set_set (t : Tbl α) (i : Nat) (v w : α) : (t.set i v).set i w = t.set i w := by
  induction t with
  | nil => simp [set]
  | cons e t ih =>
    obtain ⟨k, x⟩ := e
    simp only [set]
    split
    · simp [set]
    · split
      · simp [set]
      · rename_i h1 h2; simp [set, h1, h2, ih]

end Sys2Proof.Tbl
end

