-- ==== Sys2Proof/WellFormed.lean ====
section
/-! DEFINITION. Which commands are well formed: each number within the width its field, register or message has in the manual,
each request within the layout of R444. The block answers an ill-formed payload by rule; what is refused here is no command. -/

namespace Sys2Proof
open Sys2Proof.Machine

/-- A number of at most `w` bits. -/
def fits (w n : Nat) : Bool := decide (n < 2 ^ w)

/-- A signed number of at most `w` bits. -/
def fitsInt (w : Nat) (i : Int) : Bool := decide (-(2 ^ (w - 1) : Int) ≤ i) && decide (i < (2 ^ (w - 1) : Int))

/-- A request (R442, R444): a session only on mailboxes 2, 3 and 5, and 1 to 65 descriptors for each message. -/
def Req.wf (r : Req) : Bool :=
  (r.sess == 0 || r.mb == 2 || r.mb == 3 || r.mb == 5) && decide (1 ≤ r.msgs) && decide (r.msgs ≤ r.ndesc) &&
  decide (r.ndesc ≤ 65 * r.msgs)

def ReadyNote.wf : ReadyNote → Bool
  | .plain => true
  | .unknownCommand r => r.wf
  | .chainPart _ ndesc => decide (1 ≤ ndesc)

def Fetch.wf {α : Type} (p : α → Bool) : Fetch α → Bool
  | .got x => p x
  | .fault _ => true

/-- A value of a PARAM (R468): 64 bits unless it is a byte string. -/
def ParamArg.wf (p : ParamArg) : Bool :=
  match p.value.ty with
  | .bytes => decide (-1 ≤ p.value.val)
  | _ => decide (-(2 ^ 63) ≤ p.value.val) && decide (p.value.val < 2 ^ 64)

/-- ALG of R164 is one byte. -/
def KeyAttr.wf (a : KeyAttr) : Bool := fits 8 a.alg

/-- R478: EPH_LEN and WRAP_LEN are 16-bit fields. -/
def ImportArg.wf (a : ImportArg) : Bool := a.attr.wf && fits 16 a.ephLen && fits 16 a.wrapLen

def BulkPkg.wf (p : BulkPkg) : Bool := fits 32 p.firstRecord

def CalPkg.wf (p : CalPkg) : Bool :=
  fits 8 p.calendar && fitsInt 16 p.body.stdOffsetMin && fits 8 p.body.closeMode && fits 8 p.body.closeDay && fits 8 p.body.closeHour &&
  fits 8 p.body.closeMin && fits 16 p.body.closeWaitMin

/-- R291's widths. -/
def TopoNode.wf (n : TopoNode) : Bool :=
  fits 12 n.node && n.parent.all (fits 16) && fits 8 n.kind && fits 8 n.phase && fits 8 n.source && fits 8 n.srcPhase &&
  fits 16 n.srcId && fits 32 n.kI2r && fits 32 n.kFixed && fits 32 n.absThresh && fits 16 n.relThresh && fits 8 n.m && fits 8 n.k &&
  fits 16 n.minCoverage

def TopoPkg.wf (p : TopoPkg) : Bool := p.nodes.all TopoNode.wf

/-- The widths of R192's records: at most four edges each way. -/
def GNode.wf (n : GNode) : Bool :=
  fits 16 n.node && fits 8 n.type && fits 8 n.priority && fits 8 n.batchMax && fits 8 n.maxPar && fits 32 n.budgetUs &&
  decide (n.inEdges.length ≤ 4) && decide (n.outEdges.length ≤ 4) && fits 16 n.bind && fits 16 n.ruleRef

def GEdge.wf (e : GEdge) : Bool :=
  fits 16 e.edge && e.producer.all (fits 16) && fits 16 e.consumer && fits 16 e.capCells && fits 16 e.xoff && fits 16 e.xon && fits 16 e.reserve

def GraphImage.wf (g : GraphImage) : Bool := g.nodes.all GNode.wf && g.edges.all GEdge.wf

/-- R208, R209: SECURITY_VERSION and the class table. -/
def RulesPkg.wf (p : RulesPkg) : Bool :=
  fits 32 p.secVersion && fits 8 p.table.interval && fits 8 p.table.regDigits && fits 8 p.table.gapWait && fits 32 p.table.maxRateW &&
  fits 32 p.table.sumTolWh && fits 16 p.table.sumTolPpt && fits 8 p.table.spikeKx4 && fits 8 p.table.spikeMinN

/-- R369: the widths of a part entry and of the manifest's header. -/
def PartEntry.wf (p : PartEntry) : Bool :=
  fits 8 p.type && fits 32 p.version && fits 32 p.secVersion && fits 32 p.size && fits 64 p.offset && fits 384 p.hash && fits 384 p.bootHash

def Manifest.wf (m : Manifest) : Bool :=
  fits 64 m.seq && fits 128 m.scope && fits 16 m.handoverMin && fits 16 m.handoverMax && fits 32 m.streamLen && m.parts.all PartEntry.wf

/-- R486. -/
def CampArg.wf (a : CampArg) : Bool := fits 8 a.slot && fits 8 a.src && fits 16 a.blockSize && fits 384 a.hash && fits 64 a.activate

/-- R481: SCOPE, CLASS, the six bytes of OBIS and ATTR. -/
def ObjRef.wf (o : ObjRef) : Bool :=
  fits 8 o.scope && fits 32 o.id && fits 16 o.cls && (o.obis.length == 6) && o.obis.all (fits 8) && fits 8 o.attr

/-- SNR of a zone (0 to 7) and tone group in 1/256 dB (R66, R119). -/
def snrWf (l : List (Nat × Nat × Int)) : Bool := l.all (fun x => decide (x.1 < 8) && fits 8 x.2.1 && fitsInt 16 x.2.2)

def PlcRx.wf (f : PlcRx) : Bool := snrWf f.snr && fits 64 f.stamp
def RfRx.wf (f : RfRx) : Bool := fits 8 f.keyIndex && fits 64 f.stamp
def UpBody.wf (b : UpBody) : Bool := fits 64 b.rxEt && snrWf b.snr
def TmArg.wf (a : TmArg) : Bool := a.maps.all (fun m => fits 8 m.1 && fits 8 m.2.1)

/-- R119: END_NS is 64 bits, INTERVAL_S 16. -/
def MeasBody.wf (b : MeasBody) : Bool := fits 64 b.endNs && fits 16 b.intervalS
def CellStatusBody.wf (b : CellStatusBody) : Bool := fits 8 b.ptpState && fitsInt 16 b.temp && decide (b.ports.length ≤ 4)
/-- R110: PORTS is a byte. -/
def HelloBody.wf (b : HelloBody) : Bool := fits 8 b.ports && fits 32 b.downBuf
def Announce.wf (a : Announce) : Bool := fits 8 a.clockClass && fits 16 a.steps && fits 16 a.utcOffset
def SyncMsg.wf (m : SyncMsg) : Bool := fitsInt 8 m.logInterval && fits 64 m.rxNs
/-- R395. -/
def Heartbeat.wf (b : Heartbeat) : Bool :=
  fits 8 b.role && fits 32 b.roleEpoch && fits 64 b.pairTick && fits 64 b.deltaAck && fits 32 b.manifest
/-- R428. -/
def DmaDesc.wf (d : DmaDesc) : Bool :=
  fits 64 d.src && fits 64 d.dst && fits 32 d.length && fits 2 d.srcSpace && fits 2 d.dstSpace && fits 16 d.descId && fits 64 d.next

/-- R461: CLASS and accessor are bytes, ADDR 64 bits, LOCATION 48 bits. -/
def ErrRep.wf (e : ErrRep) : Bool := fits 8 e.cls && fits 64 e.addr && fits 48 e.loc && fits 8 e.accessor && e.detail.all (fits 8)

/-- R436, R438: an access lies in BAR0 and has 1 to 4,096 bytes. -/
def accessWf (offset size : Nat) : Bool := decide (offset < 64 * 2 ^ 20) && decide (1 ≤ size) && decide (size ≤ 4096)

/-- Which commands are well formed. -/
def Instr.wf : Instr → Bool
  | .powerOn _ _ => true
  | .wardenBoot _ => true
  | .mailboxReady _ _ => true
  | .storeRestart _ => true
  | .fullService => true
  | .pfwNFall _ _ => true
  | .pfwNReturn => true
  | .refclkLoss _ _ => true
  | .supplyExcursion _ _ _ => true
  | .rstN => true
  | .perstN => true
  | .functionLevelReset _ => true
  | .tamperTrip _ => true
  | .vaultWatchdog => true
  | .bootFailure => true
  | .hardwareError e => e.wf
  | .handlerWatchdog _ => true
  | .doubleFault _ _ => true
  | .idlePairError _ _ => true
  | .pairSelftestDone _ _ => true
  | .firstInfoAck _ _ => true
  | .tickBoundary _ => true
  | .tickClose => true
  | .timeSnap _ => true
  | .incrWrite _ _ _ _ => true
  | .adjLowWrite _ _ _ => true
  | .adjWrite _ _ _ _ => true
  | .slewEnWrite _ _ => true
  | .ptpSyncRx _ m => m.wf
  | .ptpAnnounceRx _ a => a.wf
  | .announceReceiptTimeout _ => true
  | .ptpDelayRespRx _ pathNs => fits 64 pathNs
  | .pdelayReqRx _ => true
  | .pdelayRespRx _ pathNs => fits 64 pathNs
  | .ptpManagementRx _ => true
  | .ptpMasterSyncSend => true
  | .ptpMasterAnnounceSend => true
  | .ptpDelayReqRx _ => true
  | .autoHoldoffExpiry => true
  | .holdoverLimitExpiry => true
  | .hostWatchdogExpiry => true
  | .rtcWrite => true
  | .launchTimeReached _ => true
  | .zcCrossing _ et => fits 64 et
  | .zcSilence _ => true
  | .superframeBoundary _ => true
  | .beaconVerify _ _ snr => fitsInt 64 snr
  | .slotStart _ slot => fits 16 slot
  | .plcFrameRx _ f => f.wf
  | .plcAckRx _ _ => true
  | .plcNackRx _ _ _ _ _ => true
  | .plcAckTimeout _ _ => true
  | .joinReqRx _ _ _ snr => fitsInt 64 snr
  | .neighbourReportRx _ _ _ _ => true
  | .toneMapUpdateRx _ _ _ _ a => a.wf
  | .keepaliveRx _ _ _ => true
  | .plcCompatFrameRx _ f => f.wf
  | .beaconRequestRx _ => true
  | .rreqRx _ _ => true
  | .toneMapRequestRx _ => true
  | .lbpBootstrapRx _ _ _ => true
  | .timeslotStart _ => true
  | .rfFrameRx _ f => f.wf
  | .rfEnhancedAckRx _ _ _ _ offsetNs => fitsInt 64 offsetNs
  | .rfAckTimeout _ _ _ => true
  | .sixtopResponseRx _ _ _ _ => true
  | .sixtopRequestRx _ _ _ _ => true
  | .iqGap _ _ _ => true
  | .iqStall _ => true
  | .iqResume _ => true
  | .cellHelloRx _ _ b => b.wf
  | .cellStatusRx _ _ b => b.wf
  | .upFrameRx _ _ _ b => b.wf
  | .cellMeasureRx _ _ _ b => b.wf
  | .backlogBeginRx _ _ _ _ _ => true
  | .backlogChunkRx _ _ _ _ _ recs => recs.all UpBody.wf
  | .backlogEndRx _ _ _ _ _ => true
  | .timeAlignRx _ _ _ offsetNs => fitsInt 64 offsetNs
  | .creditRx _ _ _ => true
  | .cellSilence _ => true
  | .kclRto _ _ => true
  | .backlogTimeout _ => true
  | .backlogKeepExpiry _ _ => true
  | .timeAlignSend _ => true
  | .descriptorSend _ _ => true
  | .creditSend _ => true
  | .sessionIdleExpiry _ => true
  | .sessionLifeExpiry _ => true
  | .tlsIdleExpiry _ => true
  | .bulkLoadRecords => true
  | .quarantineExpiry => true
  | .coreWorkRequest _ => true
  | .dispatchEnd _ => true
  | .dispatchBoundExceeded _ => true
  | .graphActivation => true
  | .graphDrainEnd => true
  | .journalLimitReached => true
  | .exportStall _ _ => true
  | .linkRx _ => true
  | .cellRx _ => true
  | .portRx _ _ _ bytes => fits 16 bytes
  | .defrag _ => true
  | .decryptVerify _ _ => true
  | .replayCheck _ => true
  | .parseApdu _ => true
  | .contextUpdate _ => true
  | .validate _ => true
  | .estimate _ => true
  | .gapSweep => true
  | .billPost _ => true
  | .demand _ => true
  | .closeSweep => true
  | .balanceAccum _ => true
  | .balanceCutoff => true
  | .topologyActivation => true
  | .phaseCorr _ => true
  | .scoringSweep => true
  | .storeAppend _ => true
  | .exportStream _ => true
  | .alarm _ => true
  | .campaignTrack _ => true
  | .campaignMeterTimeout _ => true
  | .downlinkBuild _ => true
  | .encrypt _ _ => true
  | .linkTx _ => true
  | .tapCrossing _ et _ => fits 64 et
  | .fadeEnd _ => true
  | .chainGap _ firstMc => fits 64 firstMc
  | .chainGapEnd _ durNs => fits 64 durNs
  | .settlingEnd _ => true
  | .journalDurable => true
  | .fold _ => true
  | .unitDemotion _ => true
  | .gcStart => true
  | .gcUnitCommit => true
  | .gcProgramFail _ => true
  | .checkpointSweepEnd => true
  | .retentionDelete => true
  | .reclaim => true
  | .pageUncorrectable _ _ _ _ => true
  | .dieLost _ => true
  | .migrationEnd => true
  | .recordWrite _ => true
  | .heartbeatSend => true
  | .heartbeatRx _ b => b.wf
  | .hbInPeriod _ _ => true
  | .pathSilence _ => true
  | .promoteTimeout => true
  | .demoteTimeout => true
  | .deltaRx _ _ => true
  | .resyncChunkRx _ _ => true
  | .peerImageRx _ _ => true
  | .peerGmiRx _ _ ndesc note => decide (1 ≤ ndesc) && note.wf
  | .bootWaitExpiry => true
  | .swapDue => true
  | .swapBoundary => true
  | .swapVerifyEnd => true
  | .katRun _ _ => true
  | .scrubPass corr _ => fits 32 corr
  | .updLockIdleExpiry => true
  | .updVerifyDone _ graph rules => graph.all GraphImage.wf && rules.all RulesPkg.wf
  | .pairBReady _ => true
  | .rewrapDone _ => true
  | .bootBankWritten _ => true
  | .graft => true
  | .graftTimeout => true
  | .pairAReady => true
  | .mbDoorbell _ _ _ note => note.wf
  | .mbEnable _ _ => true
  | .mbDisable _ _ => true
  | .mbRspTail _ _ _ => true
  | .mbEvtTail _ _ _ => true
  | .chainTimeout _ => true
  | .tlsHandshakeDone _ _ _ => true
  | .tlsSessionClose _ => true
  | .tlsKeyUpdate _ _ => true
  | .tunnelGmiFrame _ _ ndesc note => decide (1 ≤ ndesc) && note.wf
  | .tunnelKeepalive _ => true
  | .tunnelFrameInvalid _ => true
  | .intPendClear _ _ _ => true
  | .registerWrite _ offset size _ => accessWf offset size
  | .pcieReadViolation _ offset size => accessWf offset size
  | .shadowHalfRead _ offset => accessWf offset 4
  | .qOpen _ _ => true
  | .qPush _ _ _ => true
  | .qClose _ _ _ => true
  | .qPop _ _ => true
  | .qFlush _ _ => true
  | .qEnable _ _ => true
  | .qDisable _ _ => true
  | .qOwnerWrite _ _ _ => true
  | .peakCellsRead _ _ _ => true
  | .dmaStart _ _ => true
  | .dmaRestart _ _ => true
  | .dmaAbort _ _ => true
  | .dmaCrBaseWrite _ _ _ => true
  | .dmaCrTailWrite _ _ _ => true
  | .dmaDescriptorDone _ d items => d.wf && items.all (fun b => b.all (fits 64))
  | .dmaFault _ _ _ addr offset _ => fits 64 addr && fits 64 offset
  | .ethLinkChange _ _ _ _ => true
  | .pauseRx _ _ => true
  | .getIdentity r => r.wf
  | .getCaps r => r.wf
  | .getHealth r => r.wf
  | .setParam r p => r.wf && p.wf
  | .getParam r _ => r.wf
  | .resetEngine r _ _ _ => r.wf
  | .getLifecycle r => r.wf
  | .advanceLifecycle r _ _ _ => r.wf
  | .timeGet r => r.wf
  | .timeConfigDomain r _ _ _ _ _ _ => r.wf
  | .timeSelect r _ => r.wf
  | .calendarStep r _ => r.wf
  | .timeStatus r => r.wf
  | .servoOwner r _ => r.wf
  | .linkConfigure r _ _ params => r.wf && params.all ParamArg.wf
  | .linkStatus r _ => r.wf
  | .linkLockGroup r _ _ _ => r.wf
  | .plcTonemapGet r _ _ _ _ => r.wf
  | .rfScheduleSet r _ _ _ _ => r.wf
  | .cellAdmit r _ _ _ _ addr _ => r.wf && fits 64 addr
  | .cellRelease r _ => r.wf
  | .ctxProvision r _ _ => r.wf
  | .ctxGet r _ => r.wf
  | .ctxUpdate r _ _ _ _ _ _ _ _ => r.wf
  | .ctxSuspend r _ => r.wf
  | .ctxRetire r _ _ => r.wf
  | .ctxBulkLoad r pkg => r.wf && pkg.wf BulkPkg.wf
  | .ctxQuery r _ _ _ _ _ _ _ => r.wf
  | .keyImportWrapped r a => r.wf && a.wf
  | .keyGenerate r _ a => r.wf && a.wf
  | .keyInvalidate r _ => r.wf
  | .keyRotateMeter r _ _ _ _ _ _ _ => r.wf
  | .keyAttrGet r _ => r.wf
  | .keyExportPublic r _ => r.wf
  | .graphLoad r img => r.wf && img.wf GraphImage.wf
  | .graphStatus r => r.wf
  | .rulesLoad r pkg => r.wf && pkg.wf RulesPkg.wf
  | .schedStats r _ _ => r.wf
  | .objGet r o _ => r.wf && o.wf
  | .objSet r o _ => r.wf && o.wf
  | .objAction r o _ => r.wf && o.wf
  | .calendarLoad r pkg => r.wf && pkg.wf CalPkg.wf
  | .calendarStatus r _ => r.wf
  | .billingCloseNow r _ _ => r.wf
  | .accessTableLoad r _ => r.wf
  | .tapConfigure r _ params => r.wf && params.all ParamArg.wf
  | .chainSelectResponse r _ _ _ => r.wf
  | .topologyLoad r pkg => r.wf && pkg.wf TopoPkg.wf
  | .balanceReport r _ _ _ _ _ => r.wf
  | .phaseReport r _ _ _ => r.wf
  | .suspicionReport r _ _ _ _ _ => r.wf
  | .storeStatus r => r.wf
  | .storeConfigure r params => r.wf && params.all ParamArg.wf
  | .storeReadSeries r _ _ _ _ _ _ => r.wf
  | .storeRetentionSet r _ _ _ => r.wf
  | .recStatus r => r.wf
  | .recRead r _ _ => r.wf
  | .recMarkSet r _ _ => r.wf
  | .recMarkGet r _ => r.wf
  | .troubleRead r _ _ => r.wf
  | .updBegin r man => r.wf && man.wf
  | .updChunk r _ len => r.wf && fits 16 len
  | .updVerify r => r.wf
  | .updActivate r => r.wf
  | .updAbort r => r.wf
  | .updStatus r => r.wf
  | .campCreate r a => r.wf && a.wf
  | .campStart r _ => r.wf
  | .campStatus r _ _ => r.wf
  | .campCancel r _ => r.wf
  | .tariffPush r _ _ pkg => r.wf && pkg.wf
  | .pairConfigure r _ _ _ _ => r.wf
  | .pairStatus r => r.wf
  | .pairSwap r => r.wf
  | .pairForceRole r _ _ => r.wf
  | .exportOpen r _ _ _ _ _ _ => r.wf
  | .exportClose r _ => r.wf
  | .exportStatus r _ => r.wf
  | .powerDomainSet r _ _ => r.wf
  | .diagSelftest r _ => r.wf
  | .diagLoopback r _ _ _ => r.wf
  | .predictedCycleStart _ _ => true
  | .tlsHandshakeBegin _ _ => true
  | .delayReqSend _ => true
  | .followUpRx _ _ offsetNs => fitsInt 64 offsetNs
  | .pauseRenewal _ => true
  | .dieTemperatureAlert _ _ => true
  | .diagSelftestDone _ => true
  | .diagLoopbackDone _ _ _ _ => true
  | .campaignActivationTime _ => true
  | .stripeProgrammed => true
  | .ppsOutEdge _ => true

end Sys2Proof
end

