-- ==== Sys2Proof/Tests/Slice0.lean ====
section
/-! SUPPORT. Tests: what well-formedness refuses, and for each statement for the provers states and operands that meet what it
assumes. -/

namespace Sys2Proof.Tests
open Sys2Proof Sys2Proof.Machine

/-! ### Well-formedness: each check refuses an ill-formed term -/

def req : Req := { mb := 0, tag := 7 }
def apdu : Apdu := {}
def appFrame : AppFrame := { sender := .short 1, counter := 1, genUc := 1, genAk := 1, tagOk := true, apdu := apdu }
def trailer : Trailer := { handle := 0xB0000005, sigOk := true }
def attr : KeyAttr := { masters := 0xFF, worlds := 3, lifecycle := 0x1F, usage := 0x7F, alg := 2, valid := true, targets := 0xFFFF }

theorem test_wf_request :
    req.wf = true ∧ ({ req with sess := 3 } : Req).wf = false ∧ ({ req with msgs := 0 } : Req).wf = false ∧
    ({ req with msgs := 2 } : Req).wf = false ∧ ({ req with ndesc := 66 } : Req).wf = false := by decide

theorem test_wf_ready_note :
    (ReadyNote.chainPart 1 0).wf = false ∧ (ReadyNote.unknownCommand { req with msgs := 0 }).wf = false ∧ ReadyNote.plain.wf = true := by
  decide

theorem test_wf_param :
    ParamArg.wf ⟨none, ⟨.bytes, -2⟩⟩ = false ∧ ParamArg.wf ⟨none, ⟨.integer, 2 ^ 64⟩⟩ = false ∧
    ParamArg.wf ⟨none, ⟨.integer, -(2 ^ 63) - 1⟩⟩ = false ∧ ParamArg.wf ⟨none, ⟨.integer, 5⟩⟩ = true := by decide

def importArg : ImportArg := { target := 0x40000001, unwrap := 0xA0000001, attr := attr, ephLen := 0, wrapLen := 40, wrapped := ⟨1, true⟩ }

theorem test_wf_keys :
    ({ attr with alg := 256 } : KeyAttr).wf = false ∧ importArg.wf = true ∧ ({ importArg with ephLen := 65536 } : ImportArg).wf = false ∧
    ({ importArg with wrapLen := 65536 } : ImportArg).wf = false := by decide

def bulkPkg : BulkPkg := ⟨true, 0, 0, 0, []⟩
def calPkg : CalPkg := { headerOk := true, calendar := 0, loadActive := true, manual := false, name := 1, activate := ⟨2030, 1, 1, 0, 0, 0⟩, body := {}, unusedOk := true, trailer := trailer }

theorem test_wf_packages :
    ({ bulkPkg with firstRecord := 2 ^ 32 } : BulkPkg).wf = false ∧ calPkg.wf = true ∧ ({ calPkg with calendar := 256 } : CalPkg).wf = false ∧
    ({ calPkg with body := { stdOffsetMin := 32768 } } : CalPkg).wf = false ∧ ({ calPkg with body := { closeMode := 256 } } : CalPkg).wf = false ∧
    ({ calPkg with body := { closeDay := 256 } } : CalPkg).wf = false ∧ ({ calPkg with body := { closeHour := 256 } } : CalPkg).wf = false ∧
    ({ calPkg with body := { closeMin := 256 } } : CalPkg).wf = false ∧ ({ calPkg with body := { closeWaitMin := 65536 } } : CalPkg).wf = false := by
  decide

def topoNode : TopoNode := ⟨1, none, 0, 0, 0, 0, 0, true, false, 0, 0, 0, 0, 1, 1, 0⟩
def topoPkg (n : TopoNode) : TopoPkg := { headerOk := true, topologyId := 1, interval := 15, nodes := [n], reservedOk := true, trailer := trailer }

theorem test_wf_topology :
    (topoPkg topoNode).wf = true ∧ (topoPkg { topoNode with node := 4096 }).wf = false ∧ (topoPkg { topoNode with parent := some 65536 }).wf = false ∧
    (topoPkg { topoNode with kind := 256 }).wf = false ∧ (topoPkg { topoNode with phase := 256 }).wf = false ∧
    (topoPkg { topoNode with source := 256 }).wf = false ∧ (topoPkg { topoNode with srcPhase := 256 }).wf = false ∧
    (topoPkg { topoNode with srcId := 65536 }).wf = false ∧ (topoPkg { topoNode with kI2r := 2 ^ 32 }).wf = false ∧
    (topoPkg { topoNode with kFixed := 2 ^ 32 }).wf = false ∧ (topoPkg { topoNode with absThresh := 2 ^ 32 }).wf = false ∧
    (topoPkg { topoNode with relThresh := 65536 }).wf = false ∧ (topoPkg { topoNode with m := 256 }).wf = false ∧
    (topoPkg { topoNode with k := 256 }).wf = false ∧ (topoPkg { topoNode with minCoverage := 65536 }).wf = false := by decide

def gnode (t : Nat) : GNode := ⟨3, t, 1, 0xFF, 8, 4, 100, [0], [], 0, 0⟩
def gedge : GEdge := ⟨1, none, 3, false, false, false, 64, 48, 16, 8⟩
def image (n : GNode) (e : GEdge) : GraphImage := { formatOk := true, graphId := 1, secVersion := 1, budgetTotal := 64, nodes := [n], edges := [e], rules := [], trailer := trailer }

theorem test_wf_graph_nodes :
    (image (gnode 1) gedge).wf = true ∧ ({ gnode 1 with node := 65536 } : GNode).wf = false ∧ (gnode 256).wf = false ∧
    ({ gnode 1 with priority := 256 } : GNode).wf = false ∧ ({ gnode 1 with batchMax := 256 } : GNode).wf = false ∧
    ({ gnode 1 with maxPar := 256 } : GNode).wf = false ∧ ({ gnode 1 with budgetUs := 2 ^ 32 } : GNode).wf = false ∧
    ({ gnode 1 with inEdges := [1, 2, 3, 4, 5] } : GNode).wf = false ∧ ({ gnode 1 with outEdges := [1, 2, 3, 4, 5] } : GNode).wf = false ∧
    ({ gnode 1 with bind := 65536 } : GNode).wf = false ∧ ({ gnode 1 with ruleRef := 65536 } : GNode).wf = false := by decide

theorem test_wf_graph_edges :
    ({ gedge with edge := 65536 } : GEdge).wf = false ∧ ({ gedge with producer := some 65536 } : GEdge).wf = false ∧
    ({ gedge with consumer := 65536 } : GEdge).wf = false ∧ ({ gedge with capCells := 65536 } : GEdge).wf = false ∧
    ({ gedge with xoff := 65536 } : GEdge).wf = false ∧ ({ gedge with xon := 65536 } : GEdge).wf = false ∧
    ({ gedge with reserve := 65536 } : GEdge).wf = false := by decide

def rules (t : ClassTable) : RulesPkg := { headerOk := true, rulesId := 1, cls := 0, secVersion := 1, trailer := trailer, reservedOk := true, table := t }

theorem test_wf_rules :
    (rules {}).wf = true ∧ ({ rules {} with secVersion := 2 ^ 32 } : RulesPkg).wf = false ∧ (rules { interval := 256 }).wf = false ∧
    (rules { regDigits := 256 }).wf = false ∧ (rules { gapWait := 256 }).wf = false ∧ (rules { maxRateW := 2 ^ 32 }).wf = false ∧
    (rules { sumTolWh := 2 ^ 32 }).wf = false ∧ (rules { sumTolPpt := 65536 }).wf = false ∧ (rules { spikeKx4 := 256 }).wf = false ∧
    (rules { spikeMinN := 256 }).wf = false := by decide

def part : PartEntry := ⟨2, 1, 1, 100, 0, 5, 6⟩
def manifest (p : PartEntry) : Manifest := { formatOk := true, sigOk := true, countersign := none, seq := 1, scope := 0, transitKek := 0xA0000001, cekOk := true, handoverMin := 1, handoverMax := 1, streamLen := 100, parts := [p] }

theorem test_wf_manifest :
    (manifest part).wf = true ∧ ({ manifest part with seq := 2 ^ 64 } : Manifest).wf = false ∧ ({ manifest part with scope := 2 ^ 128 } : Manifest).wf = false ∧
    ({ manifest part with handoverMin := 65536 } : Manifest).wf = false ∧ ({ manifest part with handoverMax := 65536 } : Manifest).wf = false ∧
    ({ manifest part with streamLen := 2 ^ 32 } : Manifest).wf = false ∧ (manifest { part with type := 256 }).wf = false ∧
    (manifest { part with version := 2 ^ 32 }).wf = false ∧ (manifest { part with secVersion := 2 ^ 32 }).wf = false ∧
    (manifest { part with size := 2 ^ 32 }).wf = false ∧ (manifest { part with offset := 2 ^ 64 }).wf = false ∧
    (manifest { part with hash := 2 ^ 192 * 2 ^ 192 }).wf = false ∧ (manifest { part with bootHash := 2 ^ 192 * 2 ^ 192 }).wf = false := by decide

def campArg : CampArg := { slot := 0, src := 0, blockSize := 128, fetch := .got (5, 1024), hash := 5, activate := 0, imageId := 1, idLen := 1, targets := .classes 1 }
def objRef : ObjRef := { scope := 0, id := 0, cls := 8, obis := [0, 0, 1, 0, 0, 255], attr := 2 }

theorem test_wf_campaigns_and_objects :
    campArg.wf = true ∧ ({ campArg with slot := 256 } : CampArg).wf = false ∧ ({ campArg with src := 256 } : CampArg).wf = false ∧
    ({ campArg with blockSize := 65536 } : CampArg).wf = false ∧ ({ campArg with hash := 2 ^ 192 * 2 ^ 192 } : CampArg).wf = false ∧
    ({ campArg with activate := 2 ^ 64 } : CampArg).wf = false ∧ objRef.wf = true ∧ ({ objRef with scope := 256 } : ObjRef).wf = false ∧
    ({ objRef with id := 2 ^ 32 } : ObjRef).wf = false ∧ ({ objRef with cls := 65536 } : ObjRef).wf = false ∧
    ({ objRef with obis := [0, 0, 1, 0, 0] } : ObjRef).wf = false ∧ ({ objRef with obis := [0, 0, 256, 0, 0, 255] } : ObjRef).wf = false ∧
    ({ objRef with attr := 256 } : ObjRef).wf = false := by decide

def plcRx : PlcRx := { src := 1, seq := 1, decodeOk := true, stamp := 0, frame := appFrame }
def rfRx : RfRx := { fcsOk := true, filterOk := true, src := .short 1, keyIndex := 0, fc := 1, seq := 1, micOk := true, stamp := 0, frame := appFrame }
def upBody : UpBody := { port := 0, rxEt := 0, src := 1, frame := appFrame }

theorem test_wf_frames :
    plcRx.wf = true ∧ ({ plcRx with snr := [(8, 0, 0)] } : PlcRx).wf = false ∧ ({ plcRx with snr := [(0, 256, 0)] } : PlcRx).wf = false ∧
    ({ plcRx with snr := [(0, 0, 32768)] } : PlcRx).wf = false ∧ ({ plcRx with stamp := 2 ^ 64 } : PlcRx).wf = false ∧
    rfRx.wf = true ∧ ({ rfRx with keyIndex := 256 } : RfRx).wf = false ∧ ({ rfRx with stamp := 2 ^ 64 } : RfRx).wf = false ∧
    upBody.wf = true ∧ ({ upBody with rxEt := 2 ^ 64 } : UpBody).wf = false ∧ ({ upBody with snr := [(8, 0, 0)] } : UpBody).wf = false ∧
    TmArg.wf ⟨[(256, 0, 0)], 0, 0⟩ = false ∧ TmArg.wf ⟨[(0, 256, 0)], 0, 0⟩ = false := by decide

def statusBody : CellStatusBody := { state := 2, ptpState := 1, temp := 25, offsetNs := 0, bufUsed := 0, bufFree := 100, lost := 0, ports := [] }
def helloBody : HelloBody := { eui := 1, fw := 1, ports := 1, bands := 1, backlogPending := false, measureFitted := false, ptpLocked := true, nextUpDnum := 0, downBuf := 65536 }
def measBody : MeasBody := ⟨0, 60, none, none, none, false, false⟩

theorem test_wf_cells :
    measBody.wf = true ∧ ({ measBody with endNs := 2 ^ 64 } : MeasBody).wf = false ∧ ({ measBody with intervalS := 65536 } : MeasBody).wf = false ∧
    statusBody.wf = true ∧ ({ statusBody with ptpState := 256 } : CellStatusBody).wf = false ∧
    ({ statusBody with temp := 32768 } : CellStatusBody).wf = false ∧
    ({ statusBody with ports := List.replicate 5 ⟨0, 0, true, false⟩ } : CellStatusBody).wf = false ∧
    helloBody.wf = true ∧ ({ helloBody with ports := 256 } : HelloBody).wf = false ∧ ({ helloBody with downBuf := 2 ^ 32 } : HelloBody).wf = false := by
  decide

def announce : Announce := ⟨1, [], 1, 6, 0, 37, true, false, false⟩
def sync : SyncMsg := ⟨1, 0, false, 0, 0⟩
def beat : Heartbeat := ⟨0, true, true, false, false, false, false, 0, 0, 0, 0, 0⟩

theorem test_wf_time_and_pair :
    announce.wf = true ∧ ({ announce with clockClass := 256 } : Announce).wf = false ∧ ({ announce with steps := 65536 } : Announce).wf = false ∧
    ({ announce with utcOffset := 65536 } : Announce).wf = false ∧ sync.wf = true ∧ ({ sync with logInterval := 128 } : SyncMsg).wf = false ∧
    ({ sync with rxNs := 2 ^ 64 } : SyncMsg).wf = false ∧ beat.wf = true ∧ ({ beat with role := 256 } : Heartbeat).wf = false ∧
    ({ beat with roleEpoch := 2 ^ 32 } : Heartbeat).wf = false ∧ ({ beat with pairTick := 2 ^ 64 } : Heartbeat).wf = false ∧
    ({ beat with deltaAck := 2 ^ 64 } : Heartbeat).wf = false ∧ ({ beat with manifest := 2 ^ 32 } : Heartbeat).wf = false := by decide

def dmaDesc : DmaDesc := ⟨0, 0, 64, false, false, false, false, 0, 1, true, 1, 0⟩
def errRep : ErrRep := ⟨1, 0, 0, 0, .ok, []⟩

theorem test_wf_dma_and_errors :
    dmaDesc.wf = true ∧ ({ dmaDesc with src := 2 ^ 64 } : DmaDesc).wf = false ∧ ({ dmaDesc with dst := 2 ^ 64 } : DmaDesc).wf = false ∧
    ({ dmaDesc with length := 2 ^ 32 } : DmaDesc).wf = false ∧ ({ dmaDesc with srcSpace := 4 } : DmaDesc).wf = false ∧
    ({ dmaDesc with dstSpace := 4 } : DmaDesc).wf = false ∧ ({ dmaDesc with descId := 65536 } : DmaDesc).wf = false ∧
    ({ dmaDesc with next := 2 ^ 64 } : DmaDesc).wf = false ∧ errRep.wf = true ∧ ({ errRep with cls := 256 } : ErrRep).wf = false ∧
    ({ errRep with addr := 2 ^ 64 } : ErrRep).wf = false ∧ ({ errRep with loc := 2 ^ 48 } : ErrRep).wf = false ∧
    ({ errRep with accessor := 256 } : ErrRep).wf = false ∧ ({ errRep with detail := [256] } : ErrRep).wf = false := by decide

theorem test_wf_commands :
    (Instr.registerWrite 0 (64 * 2 ^ 20) 8 0).wf = false ∧ (Instr.registerWrite 0 0 0 0).wf = false ∧ (Instr.registerWrite 0 0 4097 0).wf = false ∧
    (Instr.registerWrite 0 0 8 0).wf = true ∧ (Instr.ptpDelayRespRx .a (2 ^ 64)).wf = false ∧ (Instr.slotStart 0 65536).wf = false ∧
    (Instr.beaconVerify 0 true (2 ^ 63)).wf = false ∧ (Instr.portRx 0 1 0 65536).wf = false ∧ (Instr.peerGmiRx ⟨true, true, 0, 0, true⟩ 1 0 .plain).wf = false ∧
    (Instr.scrubPass (2 ^ 32) []).wf = false ∧ (Instr.dmaFault 0 .mediaError 0 (2 ^ 64) 0 0).wf = false ∧
    (Instr.updChunk req 0 65536).wf = false ∧ (Instr.cellAdmit req 0 0 0 0 (2 ^ 64) 0).wf = false ∧
    (Instr.ctxBulkLoad req (.got { bulkPkg with firstRecord := 2 ^ 32 })).wf = false ∧ (Instr.ctxBulkLoad req (.fault .mediaError)).wf = true := by
  decide

/-- The table gives no command a word. -/
theorem test_no_word_spells_a_command : decodeTableWord 32 0 = none := by decide

/-! ### States the tests start from -/

/-- An engine in full service, SINGLE and OPERATIONAL, one descriptor waiting on mailbox 0. -/
def up : State :=
  { boot := { stage := 6 }, vault := { life := .operational, tick := 100 }, pair := { role := .single }, time := { ticking := true }
    mb := { boxes := [(0, { enable := true, reqProd := 1 })] } }

def par (k : ParamKey) (i : Nat) (v : Int) : ParamId × PVal := (⟨k, i⟩, ⟨.integer, v⟩)

def withParams (l : List (ParamId × PVal)) : State := { up with p := { params := l } }

def kek : KekId := ⟨1, 1, 1⟩
def view : KeyView := ⟨attr, 9, kek⟩

/-- Key slot 1 holds a key of class 4 that permits everything. -/
def keyed (s : State) : State :=
  { s with
    p := { s.p with keys := { slots := [(1, ⟨4, attr, 9, kek⟩)] } }
    keys := { kek := some kek, ready := true } }

def key1 : Word32 := 0x40000001

/-- Cell 5 is admitted with that key and UP; its port 0 is coordinated. -/
def celled : State :=
  let s := keyed (withParams [par .kclEngineAddr 0 1, par .plcMode 20 2])
  { s with
    p := { s.p with cells := [(5, ⟨1, 1, key1, 2, false, 0⟩)] }
    cell := { cells := [(5, { state := .up, upSeen := true, upEpoch := 3, upSeq := 8, upRecv := [(0, 0)] })] } }

def hdr : KclHdr := { epoch := 3, seq := 9 }

/-- The ACTIVE engine of a pair, its peer key in slot 1. -/
def paired (role : PairRole) : State :=
  let s := keyed (withParams [par .pairKey 0 0x40000001])
  { s with pair := { modePair := true, role := role }, time := { ticking := true, mc := 10 ^ 12 } }

def run0 (t : Nat) : Run := ⟨⟨3, 0⟩, t, [⟨7, 1, .snap 7 {}⟩], 1, [], 0, 100, [], none, 0, 0, false⟩
def item0 : Item := ⟨7, 1, .snap 7 {}⟩

/-- Core 0 is dispatched to node 3, of type `t`, with one item. -/
def dispatched (t : Nat) : State := { up with p := { graph := some (image (gnode t) gedge) }, flow := { cores := [(0, run0 t)] } }

/-! ### What the completion statements assume -/

theorem test_boots_and_resets_assume :
    running { up with vault := { up.vault with bmrExt := 1 } } = true ∧
    (running { up with vault := { up.vault with bmrExt := 2 } } && decide ((2 : Nat) = 2)) = true ∧
    (running { up with boot := { stage := 4 } } && decide ((4 : Nat) = 4)) = true ∧
    (running { up with boot := { stage := 5 } } && decide ((5 : Nat) = 5) && !up.err.safeHold) = true ∧
    (running State.reset && decide (State.reset.boot.stage < 3)) = true ∧ alive up = true ∧ running up = true ∧
    (up.boot.powered = true ∧ up.boot.pfw = false) ∧ ({ up.boot with pfw := true } : BootSt).powered = true := by decide

theorem test_error_events_assume :
    (running up && decide (1 ≤ errRep.cls) && decide (errRep.cls ≤ 0x11)) = true ∧
    (running up && decide (1 ≤ ({ errRep with cls := 0x11 } : ErrRep).cls) && decide (({ errRep with cls := 0x11 } : ErrRep).cls ≤ 0x11)) = true ∧
    alive up = true ∧ (17 : Fin 18) ≠ 0 ∧ up.boot.powered = true := by decide

theorem test_host_accesses_assume :
    alive up = true ∧ mbViol up 0 0 = none ∧ mbViol up 1 1 = none ∧ (boxOf up.mb 1).enable = false ∧ mayEnable up 1 = true ∧
    (boxOf up.mb 0).enable = true ∧
    running { up with mb := { boxes := [(0, { reqChain := some (7, 1) })] } } = true ∧
    (boxOf ({ boxes := [(0, { reqChain := some (7, 1) })] } : MbSt) 0).reqChain = some (7, 1) ∧
    0x38 < barSize ∧ (regAccess (acc up 0) 0 0x38 8 true).toOption.isSome = true ∧
    (∃ k, regAccess (acc up 0) 0 (barSize - 8) 8 false = .error k) ∧ barSize - 1 < barSize := by
  refine ⟨by decide, by decide, by decide, by decide, by decide, by decide, by decide, by decide, by decide, by decide, ⟨1, by rfl⟩, by decide⟩

def tls0 : TlsSess := { port := 0, role := .utilityAdmin, mb := 2, slot := 0, identity := key1 }
def tunnelled : State :=
  { up with
    p := { params := [par .tlsCertChain 0 1] }
    mb := { tls := [(1, tls0)], handshakes := [(0, 0x40000001)], boxes := [(2, { arrived := [⟨1, 7, 1⟩] })] } }

theorem test_sessions_and_ethernet_assume :
    running tunnelled = true ∧ egressOk tunnelled = true ∧ notActive tunnelled = false ∧ 0 ≤ prm tunnelled .tlsCertChain ∧
    tlsRoom tunnelled.mb = true ∧ tunnelled.mb.handshakes.contains ((0 : Fin 2), key1.toNat) = true ∧
    tunnelled.mb.tls.get? 1 = some tls0 ∧ tls0.outstanding < prmN tunnelled .mbTunnelOutstanding ∧
    decide (prm tunnelled .ethSpeed 3 ≠ 0) = true := by decide

theorem test_tick_and_clocks_assume :
    mayTick up = true ∧ running up = true ∧ up.boot.powered = true ∧ alive { up with time := { hostOwner := true } } = true ∧
    (let i := incrWrite (incrOf up.time 0) .full (incrOf up.time 0).val
     incrAsked (incrOf up.time 0).val .full (incrOf up.time 0).val = i.val) ∧
    (let i := incrWrite (incrOf up.time 0) .full (2 ^ 64 - 1)
     incrAsked (incrOf up.time 0).val .full (2 ^ 64 - 1) ≠ i.val) ∧
    (running { up with time := { etState := .tracking } } && decide (EtState.tracking = .tracking) && decide (up.vault.life ≠ .blank)) = true := by
  decide

theorem test_ptp_assumes :
    running (withParams [par .tdProfile 0 1]) = true ∧ (ptpOf up.time .a).state ≠ .disabled ∧ prm (withParams [par .tdProfile 0 1]) .tdProfile (domIdx .a) = 1 ∧
    egressOk up = true ∧ prm (withParams [par .tEthdOneStep 0 1]) .tEthdOneStep = 1 ∧ prm (withParams [par .tEthdOneStep 0 0]) .tEthdOneStep ≠ 1 ∧
    (selDom (withParams [par .tSelect 0 0])).map (ptpOf up.time) = some (ptpOf up.time .a) ∧
    (decide (prm (withParams [par .tSelect 0 2]) .tSelect = 2) && decide ((ptpOf up.time up.time.following).state ≠ .locked)) = true ∧
    (running { up with time := { etState := .holdover, unsynced := false } } = true ∧ EtState.holdover = .holdover) ∧
    (running { up with time := { ptpB := { state := .locked } } } && (decide (DomState.listening = .locked) || decide (DomState.locked = .locked))) = true := by
  decide

def coordinated : State := withParams [par .plcMode (plcLp 0) 2]

theorem test_plc_assumes :
    (running up && coord coordinated (plcLp 0) && pairTickOf coordinated % prmN coordinated .plcSfTicks (plcLp 0) == 0) = true ∧
    (running coordinated && coord coordinated (plcLp 0) && decide (slotCount coordinated (plcLp 0) - 1 < slotCount coordinated (plcLp 0))) = true ∧
    (running coordinated && plcUp coordinated (plcLp 0) && true) = true := by decide

def radio : State := { withParams [par .rfMode 0 1] with rf := { ports := [(0, { enabled := true })] } }

theorem test_rf_assumes : (running radio && rfUp radio 0) = true ∧ (running radio && rfLive radio 0) = true := by decide

theorem celled_passes : KclPasses celled 5 hdr false ⟨1, 1, key1, 2, false, 0⟩ view :=
  ⟨by decide, by rfl, by decide, by decide, by rfl, by decide⟩

theorem test_cells_assume :
    running celled = true ∧ KclPasses celled 5 hdr false ⟨1, 1, key1, 2, false, 0⟩ view ∧
    KclPasses celled 5 { hdr with epoch := 4 } true ⟨1, 1, key1, 2, false, 0⟩ view ∧
    kclUp (kclPassed celled 5 hdr ⟨1, 1, key1, 2, false, 0⟩ view) 5 = true ∧
    (running celled && kclOn celled && decide ((cellOf celled 5).state = .up) && coord celled (cellLp 5 0)) = true ∧
    (running celled && kclOn celled && decide ((cellOf celled 5).state = .up) && (ackWaits celled 5 || limitRises celled 5)) = true :=
  ⟨by decide, celled_passes, ⟨by decide, by rfl, by decide, by decide, by rfl, by decide⟩, by decide, by decide, by decide⟩

/-- A request on mailbox 0 is accepted, whatever table of rights is asked. -/
def acceptsHere (ci : CmdInfo) : Bool := decide (canTake up req = true) && decide (judge (taken up req) ci noTable req = none)

theorem accepts_up {ci : CmdInfo} (h : acceptsHere ci = true) : Accepts ci noTable req up := by
  simp [acceptsHere] at h; exact ⟨h.1, h.2⟩

theorem test_time_requests_assume :
    Accepts ciTimeGet noTable req up ∧ Accepts ciTimeConfigDomain noTable req up ∧ Accepts ciTimeSelect noTable req up ∧
    Accepts ciCalendarStep noTable req up ∧ Accepts ciTimeStatus noTable req up ∧ Accepts ciServoOwner noTable req up := by
  refine ⟨accepts_up ?_, accepts_up ?_, accepts_up ?_, accepts_up ?_, accepts_up ?_, accepts_up ?_⟩ <;> decide

theorem test_context_requests_assume :
    Accepts ciCtxProvision noTable req up ∧ Accepts ciCtxGet noTable req up ∧ (1048575 : Word32).toNat < mcxCount ∧ Accepts ciCtxUpdate noTable req up ∧
    Accepts ciCtxSuspend noTable req up ∧ Accepts ciCtxRetire noTable req up ∧ Accepts ciCtxBulkLoad noTable req up ∧
    Accepts ciCtxQuery noTable req up ∧ running up = true := by
  refine ⟨accepts_up ?_, accepts_up ?_, ?_, accepts_up ?_, accepts_up ?_, accepts_up ?_, accepts_up ?_, accepts_up ?_, ?_⟩ <;> decide

theorem test_key_requests_assume :
    Accepts ciKeyImportWrapped noTable req up ∧ Accepts ciKeyGenerate noTable req up ∧ Accepts ciKeyInvalidate noTable req up ∧
    Accepts ciKeyRotateMeter noTable req up ∧ Accepts ciKeyAttrGet noTable req up ∧ Accepts ciKeyExportPublic noTable req up ∧
    Accepts ciGetLifecycle noTable req up ∧ Accepts ciAdvanceLifecycle noTable req up ∧ running up = true := by
  refine ⟨accepts_up ?_, accepts_up ?_, accepts_up ?_, accepts_up ?_, accepts_up ?_, accepts_up ?_, accepts_up ?_, accepts_up ?_, ?_⟩ <;> decide

/-- Node 3 puts nothing out, so any work of any type passes. -/
theorem dispatched_passes (t : Nat) (line : Item → Option Nat) (f : State → Item → NodeOut) :
    Dispatched (dispatched t) t 0 line f (run0 t) item0 (gnode t) := by
  refine ⟨?_, ?_, ?_, ?_⟩
  · simp [workOn, dispatched, Tbl.get?, run0, item0]
  · simp [nodeRec, gNodes, liveNodes, dispatched, image, gnode, run0]
  · intro m _; simp [lineBusy, dispatched, up]
  · simp [withinReserve, outEdges, gnode]

theorem test_nodes_assume :
    (∀ t, running (dispatched t) = true ∧ (dispatched t).pair.withdrawn.contains 15 = false) ∧
    Dispatched (dispatched tLinkRx) tLinkRx 0 noLine linkRxItem (run0 tLinkRx) item0 (gnode tLinkRx) ∧
    Dispatched (dispatched tCellRx) tCellRx 0 noLine cellRxItem (run0 tCellRx) item0 (gnode tCellRx) ∧
    Dispatched (dispatched tDefrag) tDefrag 0 noLine defragItem (run0 tDefrag) item0 (gnode tDefrag) ∧
    Dispatched (dispatched tDecrypt) tDecrypt 0 itemLine (decryptItem 15) (run0 tDecrypt) item0 (gnode tDecrypt) ∧
    Dispatched (dispatched tReplay) tReplay 0 itemLine replayItem (run0 tReplay) item0 (gnode tReplay) ∧
    Dispatched (dispatched tParse) tParse 0 noLine parseItem (run0 tParse) item0 (gnode tParse) ∧
    Dispatched (dispatched tCtxUpdate) tCtxUpdate 0 itemLine contextItem (run0 tCtxUpdate) item0 (gnode tCtxUpdate) ∧
    Dispatched (dispatched tValidate) tValidate 0 itemLine validateItem (run0 tValidate) item0 (gnode tValidate) ∧
    Dispatched (dispatched tEstimate) tEstimate 0 itemLine estimateItem (run0 tEstimate) item0 (gnode tEstimate) ∧
    Dispatched (dispatched tBillPost) tBillPost 0 itemLine billItem (run0 tBillPost) item0 (gnode tBillPost) ∧
    Dispatched (dispatched tDemand) tDemand 0 itemLine demandItem (run0 tDemand) item0 (gnode tDemand) ∧
    Dispatched (dispatched tBalance) tBalance 0 noLine balanceItem (run0 tBalance) item0 (gnode tBalance) ∧
    Dispatched (dispatched tPhaseCorr) tPhaseCorr 0 itemLine phaseCorrItem (run0 tPhaseCorr) item0 (gnode tPhaseCorr) ∧
    Dispatched (dispatched tDownBuild) tDownBuild 0 itemLine downBuildItem (run0 tDownBuild) item0 (gnode tDownBuild) ∧
    Dispatched (dispatched tEncrypt) tEncrypt 0 noLine (encryptItem 15) (run0 tEncrypt) item0 (gnode tEncrypt) ∧
    Dispatched (dispatched tLinkTx) tLinkTx 0 noLine linkTxItem (run0 tLinkTx) item0 (gnode tLinkTx) := by
  refine ⟨fun _ => ⟨rfl, rfl⟩, ?_, ?_, ?_, ?_, ?_, ?_, ?_, ?_, ?_, ?_, ?_, ?_, ?_, ?_, ?_, ?_⟩ <;> exact dispatched_passes _ _ _

theorem test_sinks_assume :
    running (dispatched tStore) = true ∧ campMayRun (dispatched tCampaign) = true ∧
    Dispatched (dispatched tStore) tStore 0 noLine storeItem (run0 tStore) item0 (gnode tStore) ∧
    Dispatched (dispatched tExport) tExport 0 noLine exportItem (run0 tExport) item0 (gnode tExport) ∧
    Dispatched (dispatched tAlarm) tAlarm 0 noLine (fun s _ => ⟨s, []⟩) (run0 tAlarm) item0 (gnode tAlarm) ∧
    Dispatched (dispatched tCampaign) tCampaign 0 itemLine trackItem (run0 tCampaign) item0 (gnode tCampaign) :=
  ⟨rfl, by decide, dispatched_passes _ _ _, dispatched_passes _ _ _, dispatched_passes _ _ _, dispatched_passes _ _ _⟩

theorem test_graph_schedule_assumes :
    running up = true ∧ up.boot.stage = 6 ∧
    (let s : State := { up with flow := { old := some ⟨[], []⟩ } }
     (running s && s.flow.old.isSome && (drained s || s.flow.drainTicks = 0)) = true) ∧
    (let s : State := { up with flow := { journalBytes := prmN up .schedJournalLimit * 1024 } }
     (running s && !s.flow.journalLimit && decide (prmN s .schedJournalLimit * 1024 ≤ s.flow.journalBytes)) = true) ∧
    Accepts ciGraphLoad noTable req up ∧ Accepts ciGraphStatus noTable req up ∧ Accepts ciRulesLoad noTable req up ∧
    Accepts ciSchedStats noTable req up := by
  refine ⟨?_, ?_, ?_, ?_, accepts_up ?_, accepts_up ?_, accepts_up ?_, accepts_up ?_⟩ <;> decide

theorem test_sweeps_and_billing_assume :
    (running up && serving up) = true ∧ (running (paired .standby) = true ∧ serving (paired .standby) = false ∧ standby (paired .standby) = true) ∧
    Accepts ciCalendarLoad noTable req up ∧ Accepts ciCalendarStatus noTable req up ∧ Accepts ciBillingCloseNow noTable req up ∧
    Accepts ciAccessTableLoad noTable req up ∧ Accepts ciTopologyLoad noTable req up ∧ Accepts ciBalanceReport noTable req up ∧
    Accepts ciPhaseReport noTable req up ∧ Accepts ciSuspicionReport noTable req up := by
  refine ⟨?_, ?_, accepts_up ?_, accepts_up ?_, accepts_up ?_, accepts_up ?_, accepts_up ?_, accepts_up ?_, accepts_up ?_, accepts_up ?_⟩ <;>
    decide

def unit0 : CUnit := ⟨1, 0, false, none, 0, [], 0, 0, false⟩
def stored : State := { up with store := { formatted := true, state := .normal, units := [(4, unit0)] }, time := { ticking := true, mc := 24 * hourNs } }

theorem test_store_events_assume :
    (storeUp stored && !stored.boot.pfw) = true ∧ stored.store.units.get? 4 = some unit0 ∧ unit0.slot.isNone = true ∧
    unit0.lastMc + 24 * hourNs ≤ stored.time.mc ∧ (let s : State := { stored with store := { stored.store with retiredSlots := 5320 } }
     (storeUp s && decide (freeMib s.store < prmN s .stReclaimFree * 1024)) = true) := by
  decide

theorem test_store_requests_assume :
    Accepts ciStoreStatus noTable req up ∧ Accepts ciStoreConfigure noTable req up ∧ Accepts ciStoreReadSeries noTable req up ∧
    Accepts ciStoreRetentionSet noTable req up ∧ Accepts (ciRec 0x0A01) noTable req up ∧ Accepts (ciRec 0x0A02) noTable req up ∧
    Accepts (ciRec 0x0A03) noTable req up ∧ Accepts (ciRec 0x0A04) noTable req up ∧ Accepts ciTroubleRead noTable req up := by
  refine ⟨accepts_up ?_, accepts_up ?_, accepts_up ?_, accepts_up ?_, accepts_up ?_, accepts_up ?_, accepts_up ?_, accepts_up ?_, accepts_up ?_⟩ <;>
    decide

theorem test_metrology_assumes :
    (let s : State := { up with metro := { chs := [(0, { state := .settling, fade := some ⟨0, 16, 0⟩ })] } }
     (running s && (chOf s 0).fade.isSome) = true ∧ (running s && decide ((chOf s 0).state = .settling)) = true) ∧
    (let s : State := { up with metro := { chs := [(0, { state := .gap })] } }
     running s = true ∧ (chOf s 0).state = .gap) ∧
    Accepts ciTapConfigure noTable req up ∧ Accepts ciChainSelect noTable req up := by
  refine ⟨?_, ?_, accepts_up ?_, accepts_up ?_⟩ <;> decide

/-- An activation whose preparation is done, at the start of a Tick. -/
def prepping : State :=
  { up with
    upd := { phase := .activating, holder := 0, man := some (manifest part), prepB := true, prepRewrap := true, prepBank := true, rewrapping := true }
    time := { ticking := true, mc := 10 ^ 12, tickStartMc := 10 ^ 12 } }

theorem test_updates_assume :
    (let s : State := { up with upd := { phase := .receiving }, time := { mc := prmN up .updLockIdle * nsPerS } }
     (running s && (decide (s.upd.phase = .receiving) || decide (s.upd.phase = .staged)) &&
       decide (s.upd.lastMc + prmN s .updLockIdle * nsPerS ≤ s.time.mc)) = true) ∧
    running prepping = true ∧ preparing prepping = true ∧ prepping.upd.rewrapping = true ∧ prepping.upd.man = some (manifest part) ∧
    prepping.time.ticking = true ∧ prepping.time.mc = prepping.time.tickStartMc ∧ prepared prepping = true ∧ prepping.flow.overrun = false ∧
    (running prepping && preparing prepping && decide (prepping.upd.startMc + prmN prepping .updGraftTimeout * nsPerS ≤ prepping.time.mc)) = true ∧
    (let s : State := { prepping with upd := { prepping.upd with grafted := true } }
     (running s && decide (s.upd.phase = .activating) && s.upd.grafted) = true) ∧
    Accepts ciUpdBegin noTable req up ∧ Accepts (ciUpd 0x0B02 false) noTable req up ∧ Accepts (ciUpd 0x0B03 true) noTable req up ∧
    Accepts (ciUpd 0x0B04 true) noTable req up ∧ Accepts (ciUpd 0x0B05 false) noTable req up ∧ Accepts ciUpdStatus noTable req up := by
  refine ⟨?_, ?_, ?_, ?_, ?_, ?_, ?_, ?_, ?_, ?_, ?_, accepts_up ?_, accepts_up ?_, accepts_up ?_, accepts_up ?_, accepts_up ?_, accepts_up ?_⟩ <;>
    decide

theorem test_campaigns_assume :
    Accepts (ciCamp 0x0C01 true true true) (campRight up) req up ∧ Accepts (ciCamp 0x0C02 true false false) (campRight up) req up ∧
    Accepts (ciCamp 0x0C03 false false false) (campRight up) req up ∧ Accepts (ciCamp 0x0C04 true false false) (campRight up) req up ∧
    Accepts (ciCamp 0x0C05 true true false) (campRight up) req up ∧ Accepts (ciObj 0x0701 false true) (hasRight up objRef.cls 0) req up ∧
    Accepts (ciObj 0x0702 true true) (hasRight up objRef.cls 1) req up ∧ Accepts (ciObj 0x0703 true false) (hasRight up objRef.cls 2) req up ∧
    (running (dispatched tCampaign) && campMayRun (dispatched tCampaign)) = true := by
  refine ⟨⟨?_, ?_⟩, ⟨?_, ?_⟩, ⟨?_, ?_⟩, ⟨?_, ?_⟩, ⟨?_, ?_⟩, ⟨?_, ?_⟩, ⟨?_, ?_⟩, ⟨?_, ?_⟩, ?_⟩ <;> decide

theorem test_pair_messages_assume :
    peerOn (paired .active) = true ∧ PeerPasses (paired .standby) hdr true ∧
    PeerPasses { paired .standby with pair := { modePair := true, role := .standby, rxSeen := true, rxEpoch := 3, rxSeq := 8 } } hdr false ∧
    (running (paired .active) && (paired .active).pair.modePair) = true :=
  ⟨by decide, ⟨by decide, by decide⟩, ⟨by decide, by decide⟩, by decide⟩

theorem test_pair_control_assumes :
    (running (paired .standby) = true ∧ standby (paired .standby) = true ∧ bothSilent (paired .standby) 30 = true ∧
      (paired .standby).pair.inSync = false ∧ ({ (paired .standby).pair with inSync := true } : PairSt).inSync = true) ∧
    (let s : State := { paired .active with pair := { modePair := true, role := .active, heardInEpoch := true } }
     (running s && s.pair.modePair && decide (s.pair.role = .active) && s.pair.heardInEpoch && bothSilent s 40) = true) ∧
    (let s := paired .starting
     running s = true ∧ s.pair.modePair = true ∧ s.pair.role = .starting ∧ s.boot.stage = 6 ∧ s.err.safeHold = false ∧ s.pair.peerRole = none ∧
     prmN s .pairBootWait * msNs ≤ s.time.mc - s.boot.serviceMc) ∧
    swapMay (paired .active) = true ∧ Accepts ciPairConfigure noTable req up ∧ Accepts ciPairStatus noTable req up ∧
    Accepts ciPairSwap noTable req up ∧ Accepts ciPairForceRole noTable req up := by
  refine ⟨?_, ?_, ?_, ?_, accepts_up ?_, accepts_up ?_, accepts_up ?_, accepts_up ?_⟩ <;> decide

/-- Queue 2047 is open to normal software and holds one item of two words; queue 1 is FREE. -/
def queued : State := { up with q := { qs := [(2047, { owner := .normal, items := [[11, 12], [13]], level := 2 })] } }

theorem test_queue_ports_assume :
    alive queued = true ∧ portViol queued 0 2047 = none ∧ portViol queued 1 2047 = none ∧ (qOf queued 2047).enable = false ∧
    qEngine queued 1 = false ∧ (qOf queued 1).enable = false ∧ ownerOf (3 : Fin 4).val = some .normal ∧ qReadViol queued 0 1 = none ∧
    qReadViol queued 1 2047 = none := by decide

theorem test_dma_assumes :
    alive up = true ∧ dmaViol 0 24 = none ∧ dmaViol 0 27 = none ∧ (dmaOf up 24).state = .idle ∧
    (let s : State := { up with dma := [(24, { state := .running })] }
     (running s && decide ((dmaOf s 24).state = .running)) = true) := by decide

/-- A request from a session on mailbox 2. -/
def sreq : Req := { mb := 2, sess := 1, tag := 7 }

theorem test_device_requests_assume :
    Accepts (ciIdentity 0x0101) noTable req up ∧ Accepts (ciIdentity 0x0102) noTable req up ∧ Accepts (ciIdentity 0x0103) noTable req up ∧
    Accepts ciSetParam noTable req up ∧ Accepts ciGetParam noTable req up ∧ (running up = true ∧ Accepts ciResetEngine noTable req up) ∧
    Accepts ciExportOpen noTable sreq tunnelled ∧ Accepts ciExportClose noTable sreq tunnelled ∧ Accepts ciExportStatus noTable req up ∧
    Accepts ciPowerDomainSet noTable req up ∧ Accepts ciDiagSelftest noTable req up ∧ Accepts ciDiagLoopback noTable req up := by
  refine ⟨accepts_up ?_, accepts_up ?_, accepts_up ?_, accepts_up ?_, accepts_up ?_, ⟨?_, accepts_up ?_⟩, ⟨?_, ?_⟩, ⟨?_, ?_⟩, accepts_up ?_,
    accepts_up ?_, accepts_up ?_, accepts_up ?_⟩ <;> decide

theorem test_link_requests_assume :
    Accepts ciLinkConfigure noTable req up ∧ Accepts ciLinkStatus noTable req up ∧ Accepts ciLinkLockGroup noTable req up ∧
    Accepts ciPlcTonemapGet noTable req up ∧ Accepts ciRfScheduleSet noTable req up ∧ Accepts ciCellAdmit noTable req up ∧
    Accepts ciCellRelease noTable req up := by
  refine ⟨accepts_up ?_, accepts_up ?_, accepts_up ?_, accepts_up ?_, accepts_up ?_, accepts_up ?_, accepts_up ?_⟩ <;> decide

/-! ### What the other statements assume -/

theorem test_an_empty_queue : State.reset.pending = [] := rfl

/-- For statements about the outcome of a command: commands that do answer a next state. -/
theorem test_outcomes :
    (∃ t, exec .perstN State.reset = .next t) ∧ (∃ t, step State.reset = .next t) ∧ (∃ t, exec .graft up = .next t) ∧
    (∃ t, exec (.advanceLifecycle req 1 0 none) up = .next t) ∧ (∃ t, exec (.qPop 0 2047) queued = .next t) ∧
    (∃ t, exec (.updAbort { req with mb := 1 }) up = .next t ∧ up.upd.holder ≠ 1) :=
  ⟨⟨_, rfl⟩, ⟨_, rfl⟩, ⟨_, rfl⟩, ⟨_, rfl⟩, ⟨_, rfl⟩, ⟨_, rfl, by decide⟩⟩

theorem test_outputs_can_follow : OutputsFollow { boot := { powered := false } } :=
  ⟨rfl, rfl, by decide⟩

theorem test_early_enable_assumes :
    alive State.reset = true ∧ (boxOf State.reset.mb 0).enable = false ∧ mbViol State.reset 0 0 = none ∧
    State.reset.boot.stage < 3 ∧ ({ State.reset.boot with stage := 2 } : BootSt).stage < 3 ∧ mbViol State.reset 1 1 = none ∧
    ({ State.reset.err with safeHold := true } : ErrSt).safeHold = true ∧ (1 : Fin 8).val < 2 := by decide

theorem test_an_engine_can_be_stopped : actsStopped .fullService = false ∧ running { boot := { pfw := true } } = false := by decide

theorem test_requests_can_be_taken_or_not :
    canTake up req = true ∧ canTake State.reset req = false ∧
    ringFree (191 : Word32) 0 = 65 ∧ ringFree (192 : Word32) 0 = 64 := by decide

theorem test_request_checks_assume :
    let w : CmdInfo := { code := 1, plain := 1, states := 4, w := true }
    judge up w noTable { req with hdrOk := false } = some .badParam ∧
    judge { up with mb := { boxes := [(0, { pend := [{ sess := 0, tag := 7, code := 1 }] })] } } w noTable req = some .badParam ∧
    judge { up with err := { safeHold := true } } w noTable req = some .notPermitted ∧
    judge up w noTable { req with mb := 1 } = some .notPermitted ∧
    judge { up with vault := { life := .service } } w noTable req = some .notPermitted ∧
    judge { up with boot := { stage := 5 } } w noTable req = some .busy ∧
    judge up w noTable { req with formOk := false } = some .badParam ∧
    judge (paired .standby) w noTable req = some .notActive ∧
    judge up w noTable req = none ∧ judge { up with boot := { stage := 5 } } { w with w := false } noTable req = none := by decide

theorem test_a_response_can_be_written :
    hostBox req.mb.val = true ∧ (boxOf up.mb 0).enable = true ∧ (boxOf up.mb 0).rspWait = [] ∧ bodyLen [(0, 4096)] ≤ 4096 ∧
    65 ≤ ringFree (boxOf up.mb 0).rspHead (boxOf up.mb 0).rspTail ∧ ((256 : Word32) - 0).toNat ≤ 256 := by decide

theorem test_capture_sets_assume :
    (capOf up.err 1).valid = false ∧ (capOf { sets := [(1, { valid := true })] } 1).valid = true ∧ (2 : Nat) ≠ 1 ∧
    up.err.tlog.length ≤ 4096 := by decide

/-- Each clause of the order of checks of a key, on a key that exists. -/
theorem test_key_checks_assume :
    let s := keyed up
    let u : KeyReq := ⟨0, false, 1, [2], 0⟩
    keyJudge { s with vault := { s.vault with tampered := true } } key1 u = some (.tampered, 1) ∧
    keyView s 0x40000002 = none ∧ keyView s key1 = some view ∧ keyJudge s key1 u = none ∧
    keyJudge { s with keys := { ready := false } } key1 u = some (.keyMissing, 2) ∧
    keyJudge { s with p := { s.p with keys := { slots := [(1, ⟨4, { attr with invalidated := true }, 9, kek⟩)] } } } key1 u = some (.keyRevoked, 3) ∧
    keyJudge s key1 { u with algs := [1] } = some (.keyAttr, 4) := by decide

/-- A counter 1,023 below the highest, not yet seen. -/
theorem test_a_window_accepts : winJudge { upHigh := 2000 } 977 = .accept ∧ winJudge { upHigh := 2000 } 976 = .stale := by
  simp [winJudge]

theorem test_a_launch_time_has_its_form :
    (2 ^ 64 - 2 ^ 32 + 999999999 : Nat) < 2 ^ 64 ∧ (2 ^ 64 - 2 ^ 32 + 999999999) % 2 ^ 32 < 1000000000 ∧
    et64 (expandEt64 0 999999999) = 999999999 := by decide

theorem test_a_queue_holds_an_item :
    (qOf queued 2047).items = [11, 12] :: [[13]] ∧ (qOf queued 2047).popped = 0 ∧ ([11, 12] : List Nat) ≠ [] ∧ 1 < [11, 12].length := by decide

theorem test_an_access_can_violate :
    (∃ k, regAccess (acc up 0) 0 0 8 true = .error k) ∧ (∃ k, regAccess (acc up 1) 1 (barSize - 8) 8 false = .error k) ∧
    barSize - 8 < 64 * 2 ^ 20 := ⟨⟨_, rfl⟩, ⟨_, rfl⟩, by decide⟩

theorem test_a_trip_finds_a_live_engine : alive up = true := by decide

/-- A provisioned meter 3 with its keys, and an engine in which they unwrap. -/
def metered : State :=
  let k : MKey := { mat := 9, kek := kek }
  { keyed up with
    p := { mct := [(3, { state := .active })], keys := { meters := [(3, { uc := k, ak := k, bk := k })] } } }

theorem test_a_key_can_be_invalidated :
    Accepts ciKeyInvalidate noTable req (keyed up) ∧ req.mb.val = 0 ∧ namedFail (taken (keyed up) req) key1 = none ∧
    Accepts ciKeyInvalidate noTable req metered ∧ (1 ≤ hClass 0x10000003 ∧ hClass 0x10000003 ≤ 3) ∧
    namedFail (taken metered req) 0x10000003 = none :=
  ⟨⟨by decide, by decide⟩, rfl, by decide, ⟨by decide, by decide⟩, by decide, by decide⟩

theorem test_an_invalidated_key_still_shows :
    (keyView (keyInvalidate req key1 (taken (keyed up) req)).s key1).isSome = true := by decide

theorem test_a_meter_can_be_suspended :
    Accepts ciCtxSuspend noTable req metered ∧ (3 : Word32).toNat < mcxCount ∧ (1048575 : Word32).toNat < mcxCount ∧
    (mctOf metered 3).state = .active ∧ (mctOf metered 4).state = .free := ⟨⟨by decide, by decide⟩, by decide, by decide, by decide, by decide⟩

/-- Meter 3, with a path straight to channel 0, which has free slots. -/
def pathed : State :=
  { coordinated with
    p := { coordinated.p with mct := [(3, { state := .active, paths := [{ parent := none, metric := 256, hops := 0, hopEtx := 256, sfSel := 0 }] })] } }

theorem test_a_path_can_be_granted :
    prmN pathed .plcMaxGrantPeriod (plcLp 0) = 2 ^ 7 ∧ plcLp 0 ∈ sharers pathed (plcLp 0) ∧ meterRoute pathed 3 4 = [3] ∧
    (List.range (slotCount pathed (plcLp 0))).any (fun k => slotFree pathed (plcLp 0) k 128 0) = true := by decide

theorem test_an_interrupt_can_be_raised :
    (routeOf up.irq 0).enable = true ∧ up.irq.pend.getLsbD 0 = false ∧ up.irq.globalEn = true ∧
    (routeOf { up.irq with routes := [(127, ⟨false, 0, 0⟩)] } 127).enable = false ∧
    (up.irq.msix.getD (msixKey 0 0) {}).mask = true ∧ (127 : Nat) < 128 := by decide

theorem test_events_can_be_dropped_or_written :
    ringFree (192 : Word32) 0 < 65 ∧ 65 ≤ ringFree (191 : Word32) 0 ∧ (boxOf up.mb 0).finals = [] := by decide

theorem test_two_queues : (2046 : Nat) ≠ (2047 : Fin 2048).val ∧ (2046 : Nat) ≠ (qOf queued 2047).complQueue := by decide

theorem test_the_recorder_takes_records :
    up.recd.state ≠ .stopped ∧ recUnsuppressed 0x16 0x810A = false ∧ up.recd.perSource.getD 0x16 0 < 1 ∧ (0 : Nat) ≤ up.recd.perSource.getD 0x16 0 ∧
    recUnsuppressed 0x16 0x8070 = true ∧ (0x15 : Nat) ≠ 0x16 := by decide

theorem test_the_graft_can_happen : (9 : Nat) ≠ 8 := by decide

end Sys2Proof.Tests
end

/-! ## Launch times (R34)

An ET64 value fixes an instant up to a whole number of spans of 2^32 seconds. `expandEt64` looks at the instants that
read as the value in the span before now's, in now's own and in the one after; every other one lies beyond one of these. -/

namespace Sys2Proof.Machine

/-- The time after which ET64 repeats, in ns: 2^32 seconds. -/
def et64Span : Nat := 4294967296 * nsPerS

/-- The instant of an ET64 value in the first span, in ns. -/
def et64Offset (v : Nat) : Nat := v / 4294967296 * nsPerS + v % 4294967296

/-- The instant of an ET64 value in the span that holds `now`. -/
def et64InSpan (now v : Nat) : Nat :=
  now / et64Span * et64Span + v / 4294967296 * nsPerS + v % 4294967296

/-- The instants `expandEt64` chooses from; an instant before 0 is cut off to 0 and drops out unless it reads alike. -/
def et64Candidates (now v : Nat) : List Nat :=
  [et64InSpan now v - et64Span, et64InSpan now v, et64InSpan now v + et64Span].filter
    fun x => x % et64Span = et64InSpan now v % et64Span

/-- R34's choice between two instants: the nearer to `now`, of two equally near the one offered last. -/
def nearerTo (now best x : Nat) : Nat := if apart x now ≤ apart best now then x else best

/-- R34's order: `a` is nearer to `now` than `y`, or as near and not earlier. -/
def Preferred (now a y : Nat) : Prop :=
  apart a now < apart y now ∨ (apart a now = apart y now ∧ y ≤ a)

theorem et64InSpan_eq (now v : Nat) : et64InSpan now v = now / et64Span * et64Span + et64Offset v :=
  Nat.add_assoc ..

theorem expandEt64_eq_foldl (now v : Nat) :
    expandEt64 now v = (et64Candidates now v).foldl (nearerTo now) (et64InSpan now v) := rfl

theorem Preferred.trans {now a b c : Nat} (hab : Preferred now a b) (hbc : Preferred now b c) : Preferred now a c := by
  unfold Preferred at *
  omega

/-- Folding R34's choice over instants in ascending order: either the first value is nearer than all of them, or one of
them is chosen that is preferred to each. -/
theorem foldl_nearerTo (now : Nat) {l : List Nat} (hl : l.Pairwise (· ≤ ·)) (b : Nat) :
    (l.foldl (nearerTo now) b = b ∧ ∀ x ∈ l, apart b now < apart x now) ∨
    (l.foldl (nearerTo now) b ∈ l ∧ apart (l.foldl (nearerTo now) b) now ≤ apart b now ∧
      ∀ x ∈ l, Preferred now (l.foldl (nearerTo now) b) x) := by
  induction l generalizing b with
  | nil => simp
  | cons x xs ih =>
    obtain ⟨hx, hxs⟩ := List.pairwise_cons.mp hl
    rw [List.foldl_cons]
    by_cases hnear : apart x now ≤ apart b now
    · rw [show nearerTo now b x = x from if_pos hnear]
      right
      rcases ih hxs x with ⟨heq, hlt⟩ | ⟨hmem, hle, hpref⟩
      · rw [heq]
        exact ⟨List.mem_cons_self, hnear, List.forall_mem_cons.mpr ⟨.inr ⟨rfl, le_rfl⟩, fun y hy => .inl (hlt y hy)⟩⟩
      · have hfirst : Preferred now (xs.foldl (nearerTo now) x) x :=
          hle.lt_or_eq.imp_right fun h => ⟨h, hx _ hmem⟩
        exact ⟨List.mem_cons_of_mem _ hmem, hle.trans hnear, List.forall_mem_cons.mpr ⟨hfirst, hpref⟩⟩
    · rw [show nearerTo now b x = b from if_neg hnear]
      have hfar : apart b now < apart x now := not_le.mp hnear
      rcases ih hxs b with ⟨heq, hlt⟩ | ⟨hmem, hle, hpref⟩
      · exact .inl ⟨heq, List.forall_mem_cons.mpr ⟨hfar, hlt⟩⟩
      · exact .inr ⟨List.mem_cons_of_mem _ hmem, hle, List.forall_mem_cons.mpr ⟨.inl (hle.trans_lt hfar), hpref⟩⟩

theorem et64Candidates_sorted (now v : Nat) : (et64Candidates now v).Pairwise (· ≤ ·) :=
  List.Pairwise.filter _ (by simp; omega)

theorem et64InSpan_mem_candidates (now v : Nat) : et64InSpan now v ∈ et64Candidates now v := by
  simp [et64Candidates]

theorem expandEt64_mem_candidates (now v : Nat) : expandEt64 now v ∈ et64Candidates now v := by
  rw [expandEt64_eq_foldl]
  rcases foldl_nearerTo now (et64Candidates_sorted now v) (et64InSpan now v) with ⟨heq, -⟩ | ⟨hmem, -⟩
  · rw [heq]
    exact et64InSpan_mem_candidates now v
  · exact hmem

theorem expandEt64_preferred_of_mem {now v x : Nat} (hx : x ∈ et64Candidates now v) :
    Preferred now (expandEt64 now v) x := by
  rw [expandEt64_eq_foldl]
  rcases foldl_nearerTo now (et64Candidates_sorted now v) (et64InSpan now v) with ⟨heq, hlt⟩ | ⟨-, -, hpref⟩
  · rw [heq]
    exact .inl (hlt x hx)
  · exact hpref x hx

section
variable {v : Nat} (hv : v < 2 ^ 64) (hns : v % 2 ^ 32 < 1000000000)
include hv hns

theorem et64Offset_lt_span : et64Offset v < et64Span := by
  simp only [et64Offset, et64Span, nsPerS]
  omega

/-- An instant reads as an ET64 value of the right form exactly if it lies at that value's offset in its span. -/
theorem et64_eq_iff (y : Nat) : et64 y = v ↔ y % et64Span = et64Offset v := by
  simp only [et64, et64Offset, et64Span, nsPerS]
  omega

theorem et64InSpan_mod_span (now : Nat) : et64InSpan now v % et64Span = et64Offset v := by
  rw [et64InSpan_eq, Nat.mul_add_mod', Nat.mod_eq_of_lt (et64Offset_lt_span hv hns)]

/-- The candidate on y's side of now's span is at least as good as y. -/
theorem exists_candidate_preferred (now : Nat) {y : Nat} (hy : et64 y = v) :
    ∃ x ∈ et64Candidates now v, Preferred now x y := by
  have hoff := (et64_eq_iff hv hns y).mp hy
  have hnow := Nat.div_add_mod' now et64Span
  have hydiv := Nat.div_add_mod' y et64Span
  have hr : now % et64Span < et64Span := Nat.mod_lt _ (by decide)
  have ht := et64InSpan_eq now v
  rcases lt_trichotomy (y / et64Span) (now / et64Span) with hlt | heq | hgt
  · have hmul := Nat.mul_le_mul_right et64Span hlt
    rw [Nat.succ_mul] at hmul
    have hback : et64Span ≤ et64InSpan now v := by omega
    refine ⟨et64InSpan now v - et64Span, ?_, ?_⟩
    · simp [et64Candidates, ← Nat.mod_eq_sub_mod hback]
    · have := et64Offset_lt_span hv hns
      unfold Preferred apart
      omega
  · refine ⟨et64InSpan now v, et64InSpan_mem_candidates now v, .inr ?_⟩
    have : y = et64InSpan now v := by rw [ht, ← heq, ← hoff, hydiv]
    exact ⟨by rw [this], this.le⟩
  · have hmul := Nat.mul_le_mul_right et64Span hgt
    rw [Nat.succ_mul] at hmul
    refine ⟨et64InSpan now v + et64Span, by simp [et64Candidates], ?_⟩
    unfold Preferred apart
    omega

theorem et64_expandEt64 (now : Nat) : et64 (expandEt64 now v) = v := by
  rw [et64_eq_iff hv hns, ← et64InSpan_mod_span hv hns now]
  simpa using (List.mem_filter.mp (expandEt64_mem_candidates now v)).2

theorem expandEt64_preferred (now : Nat) {y : Nat} (hy : et64 y = v) : Preferred now (expandEt64 now v) y := by
  obtain ⟨x, hx, hxy⟩ := exists_candidate_preferred hv hns now hy
  exact (expandEt64_preferred_of_mem hx).trans hxy

end

/-- Settles O18: the chosen candidate is preferred to the other candidates, and each instant that reads as the launch
time has a candidate preferred to it. -/
theorem launchTimeIsTheNearest : Obligations.LaunchTimeIsTheNearest :=
  fun now _ hv hns => ⟨et64_expandEt64 hv hns now, fun _ hy => expandEt64_preferred hv hns now hy⟩

end Sys2Proof.Machine

/-! ## Enabling a mailbox early (R498)

ENABLE of a host mailbox takes effect only where `mayEnable` allows it. -/

namespace Sys2Proof.Machine

theorem exec_mbEnable (fn : Fin 2) (m : Fin 8) (s : State) :
    exec (.mbEnable fn m) s = finish s (if alive s then mbEnableEff fn m (acc s fn) else s) := rfl

@[simp] theorem mbViol_acc (s : State) (f fn : Fin 2) (m : Fin 8) : mbViol (acc s f) fn m = mbViol s fn m := rfl

@[simp] theorem mayEnable_acc (s : State) (f : Fin 2) (m : Fin 8) : mayEnable (acc s f) m = mayEnable s m := rfl

theorem mayEnable_eq_false_iff {s : State} {m : Fin 8} :
    mayEnable s m = false ↔ s.boot.stage < 3 ∨ (s.err.safeHold = true ∧ m ≠ 0) := by
  simp [mayEnable, or_iff_not_imp_left]

theorem mbEnableEff_eq_self {s : State} {fn : Fin 2} {m : Fin 8} (hviol : mbViol s fn m = none)
    (hmay : mayEnable s m = false) : mbEnableEff fn m s = s := by
  simp [mbEnableEff, hviol, hmay]

/-- Settles O8: in both cases `mayEnable` is false, so the access ends the function's read shadow and no more. -/
theorem earlyEnableIsIgnored : Obligations.EarlyEnableIsIgnored := by
  intro s fn m _ halive hoff hviol hearly
  have hmay : mayEnable s m = false :=
    mayEnable_eq_false_iff.mpr (hearly.imp_right fun ⟨hhold, hm⟩ => ⟨hhold, by simp [hm]⟩)
  have hsame : mbEnableEff fn m (acc s fn) = acc s fn :=
    mbEnableEff_eq_self ((mbViol_acc ..).trans hviol) ((mayEnable_acc ..).trans hmay)
  refine ⟨?_, hoff, rfl⟩
  rw [exec_mbEnable, finish_if halive, hsame]

end Sys2Proof.Machine

/-! ## ALERT_N (R523)

A command ends by `finish`, which sets the outputs to the levels the state calls for, or it names an offset outside BAR0
and there is no next state. -/

namespace Sys2Proof.Machine

/-- An outcome of a meaning run on `s`: a state in which the outputs have settled, or the fault of an access outside BAR0. -/
def EndsSettled (s : State) (o : Host.Outcome State Fault Refusal) : Prop :=
  (∃ x, o = finish s x) ∨ o = .fault .outsideBar0

theorem endsSettled_finish (s x : State) : EndsSettled s (finish s x) :=
  .inl ⟨x, rfl⟩

theorem endsSettled_of_offset_check (s x : State) (offset : Nat) :
    EndsSettled s (if barSize ≤ offset then .fault .outsideBar0 else finish s x) := by
  split
  · exact .inr rfl
  · exact endsSettled_finish s x

theorem EndsSettled.next {s t : State} {o : Host.Outcome State Fault Refusal} (h : EndsSettled s o) (hnext : o = .next t) :
    ∃ x, t = done s x := by
  subst hnext
  rcases h with ⟨x, hx⟩ | hfault
  · exact ⟨x, finish_next hx.symm⟩
  · cases hfault

/-- What a command can do to the outputs: only the three accesses by offset have a second way to end (R436). -/
theorem exec_endsSettled (c : Instr) (s : State) : EndsSettled s (exec c s) := by
  cases c with
  | registerWrite | pcieReadViolation | shadowHalfRead => exact endsSettled_of_offset_check s _ _
  | _ => exact endsSettled_finish s _

theorem step_endsSettled (s : State) : ∃ s₀, EndsSettled s₀ (step s) := by
  unfold step
  split
  · exact ⟨s, endsSettled_finish s _⟩
  · exact ⟨_, exec_endsSettled _ _⟩

theorem step_next_done {s t : State} (h : step s = .next t) : ∃ s₀ x, t = done s₀ x := by
  obtain ⟨s₀, hs₀⟩ := step_endsSettled s
  exact ⟨s₀, hs₀.next h⟩

/-- The causes ALERT_N is set from are no outputs, so settling the outputs leaves them. -/
theorem done_alert (s x : State) : (done s x).boot.alert = alertNow (done s x) := rfl

theorem alertNow_iff (s : State) :
    alertNow s = true ↔
      (s.boot.held = true ∧ 3 ≤ s.boot.bootFails) ∨ s.err.safeHold = true ∨ s.vault.tampered = true ∨ s.boot.hot ≠ 0 := by
  simp [alertNow, or_assoc]

/-- Settles O7: a step ends with the outputs settled, and settled outputs put ALERT_N where R523's four causes say. -/
theorem alertFollowsItsFourCauses : Obligations.AlertFollowsItsFourCauses := by
  intro s t hstep
  obtain ⟨s₀, x, rfl⟩ := step_next_done hstep
  rw [done_alert]
  exact alertNow_iff _

end Sys2Proof.Machine

/-! ## The outputs follow the state (R407, R465, R520, R523, R524) -/

namespace Sys2Proof.Machine

/-- What the levels are computed from is no output, so it is the same before and after the outputs settle. -/
theorem outputsFollow_done (s x : State) : OutputsFollow (done s x) where
  alert := done_alert s x
  role := rfl
  pps h := by
    have hpps : ppsNow x = true := h
    simpa [ppsNow] using (Bool.and_eq_true_iff.mp hpps).2

/-- Settles O6: a step ends with the outputs settled, whatever they were before it. -/
theorem stepsKeepOutputsFollowing : Obligations.StepsKeepOutputsFollowing := by
  intro s t _ hstep
  obtain ⟨s₀, x, rfl⟩ := step_next_done hstep
  exact outputsFollow_done s₀ x

end Sys2Proof.Machine

/-! ## The replay window (R140)

A counter once taken in is *used up*: it is not above the window, and its bit is set where it is within. Every counter
offered later keeps that, whether it slides the window up or sets a bit of it. -/

namespace Sys2Proof.Machine

/-- The window holds that `c` has been taken in: `c` lies below it or its bit is set. -/
structure UsedUp (e : Mct) (c : Nat) : Prop where
  nonempty : e.windowEmpty = false
  le_high : c ≤ e.upHigh
  marked : e.upHigh - c ≤ 1023 → e.bmp.getLsbD (e.upHigh - c) = true

theorem winJudge_eq_accept_iff {e : Mct} {c : Nat} :
    winJudge e c = .accept ↔
      e.windowEmpty = true ∨ e.upHigh < c ∨ (e.upHigh - c ≤ 1023 ∧ e.bmp.getLsbD (e.upHigh - c) = false) := by
  unfold winJudge
  by_cases htop : e.windowEmpty = true ∨ e.upHigh < c
  · simp [htop, ← or_assoc]
  · rw [← or_assoc]
    by_cases hin : e.upHigh - c ≤ 1023 <;> simp [htop, hin]

theorem UsedUp.not_accepted {e : Mct} {c : Nat} (h : UsedUp e c) : winJudge e c ≠ .accept := by
  rw [Ne, winJudge_eq_accept_iff]
  rintro (hempty | habove | ⟨hin, hclear⟩)
  · simp [h.nonempty] at hempty
  · exact absurd h.le_high (by omega)
  · simp [h.marked hin] at hclear

theorem winAccept_of_empty {e : Mct} (h : e.windowEmpty = true) (c : Nat) :
    winAccept e c = { e with upHigh := c, bmp := 1, windowEmpty := false } := if_pos h

theorem winAccept_of_above {e : Mct} {c : Nat} (h : e.windowEmpty = false) (hc : e.upHigh < c) :
    winAccept e c = { e with upHigh := c, bmp := (e.bmp <<< (c - e.upHigh)) ||| 1 } := by
  simp [winAccept, h, hc]

theorem winAccept_of_within {e : Mct} {c : Nat} (h : e.windowEmpty = false) (hc : c ≤ e.upHigh) :
    winAccept e c = { e with bmp := e.bmp ||| BitVec.ofNat 1024 (2 ^ (e.upHigh - c)) } := by
  simp [winAccept, h, Nat.not_lt.mpr hc]

theorem usedUp_winAccept (e : Mct) (c : Nat) : UsedUp (winAccept e c) c := by
  cases hempty : e.windowEmpty with
  | true =>
    rw [winAccept_of_empty hempty]
    exact ⟨rfl, le_rfl, by simp⟩
  | false =>
    by_cases habove : e.upHigh < c
    · rw [winAccept_of_above hempty habove]
      exact ⟨hempty, le_rfl, by simp⟩
    · rw [winAccept_of_within hempty (by omega)]
      refine ⟨hempty, Nat.not_lt.mp habove, fun hin => ?_⟩
      replace hin : e.upHigh - c < 1024 := Nat.lt_succ_of_le hin
      rw [BitVec.getLsbD_or, BitVec.getLsbD_ofNat, Nat.testBit_two_pow_self, decide_eq_true hin, Bool.true_and, Bool.or_true]

theorem UsedUp.winAccept {e : Mct} {c : Nat} (h : UsedUp e c) (d : Nat) : UsedUp (winAccept e d) c := by
  obtain ⟨hempty, hle, hmark⟩ := h
  by_cases habove : e.upHigh < d
  · rw [winAccept_of_above hempty habove]
    refine ⟨hempty, by dsimp only; omega, fun hin => ?_⟩
    dsimp only at hin ⊢
    have hshift : d - c - (d - e.upHigh) = e.upHigh - c := by omega
    have hold : e.bmp.getLsbD (d - c - (d - e.upHigh)) = true := hshift ▸ hmark (by omega)
    simp [hold, show d - c < 1024 by omega, show d - e.upHigh ≤ d - c by omega]
  · rw [winAccept_of_within hempty (by omega)]
    refine ⟨hempty, hle, fun hin => ?_⟩
    rw [BitVec.getLsbD_or, hmark hin, Bool.true_or]

theorem UsedUp.offerCounter {e : Mct} {c : Nat} (h : UsedUp e c) (d : Nat) : UsedUp (offerCounter e d) c := by
  unfold Sys2Proof.Machine.offerCounter
  split
  · exact h.winAccept d
  · exact h

theorem UsedUp.foldl_offerCounter {e : Mct} {c : Nat} (h : UsedUp e c) (l : List Nat) :
    UsedUp (l.foldl Sys2Proof.Machine.offerCounter e) c := by
  induction l generalizing e with
  | nil => exact h
  | cons d l ih => exact ih (h.offerCounter d)

/-- Settles O17: a counter taken in is used up, stays so, and a counter used up is not accepted. -/
theorem noCounterPassesTheWindowTwice : Obligations.NoCounterPassesTheWindowTwice :=
  fun e c l _ => ((usedUp_winAccept e c).foldl_offerCounter l).not_accepted

end Sys2Proof.Machine

/-! ## The graft and the vault's counters (R379)

Only two of the graft's steps write counters: the re-wrap raises KEY_EPOCH, and step 5 takes the greater of each
part's version and its counter. What is judged and recorded after them leaves the vault. -/

namespace Sys2Proof.Machine

/-- Every counter of `d` but counter 9 is at least that of `c`. -/
def CountersGrow (c d : Tbl Nat) : Prop := ∀ i, i ≠ 9 → c.getD i 0 ≤ d.getD i 0

theorem CountersGrow.refl (c : Tbl Nat) : CountersGrow c c := fun _ _ => le_rfl

theorem CountersGrow.trans {a b c : Tbl Nat} (hab : CountersGrow a b) (hbc : CountersGrow b c) : CountersGrow a c :=
  fun i hi => (hab i hi).trans (hbc i hi)

theorem countersGrow_set {c : Tbl Nat} {k v : Nat} (h : c.getD k 0 ≤ v) : CountersGrow c (c.set k v) := by
  intro i _
  by_cases hik : i = k
  · rw [hik, Tbl.getD_set_self]
    exact h
  · rw [Tbl.getD_set_ne _ _ _ hik]

theorem countersGrow_set_nine (c : Tbl Nat) (v : Nat) : CountersGrow c (c.set 9 v) :=
  fun _ hi => (Tbl.getD_set_ne _ _ _ hi).ge

theorem countersGrow_foldl_max (l : List PartEntry) (c : Tbl Nat) :
    CountersGrow c (l.foldl (fun t p => t.set p.type (max p.secVersion (t.getD p.type 0))) c) := by
  induction l generalizing c with
  | nil => exact .refl c
  | cons p l ih => exact (countersGrow_set (le_max_right _ _)).trans (ih _)

theorem countersGrow_advanceCounters (c : Tbl Nat) (m : Manifest) : CountersGrow c (advanceCounters c m) :=
  (countersGrow_foldl_max m.parts c).trans (countersGrow_set_nine _ m.seq)

theorem countersGrow_commitRewrap (s : State) : CountersGrow s.vault.counters (commitRewrap s).vault.counters := by
  unfold commitRewrap
  dsimp only
  split <;> exact countersGrow_set (Nat.le_succ _)

@[simp] theorem keyFail_vault (s : State) (h : Word32) (q : KeyReq) (f : Status × Nat) : (keyFail s h q f).vault = s.vault :=
  emit1_vault _ _

@[simp] theorem trailerFail_vault (s : State) (r : Req) (t : Trailer) (bit : Nat) : (trailerFail s r t bit).1.vault = s.vault := by
  unfold trailerFail
  split
  · rfl
  · dsimp only
    split
    · exact keyFail_vault ..
    · split <;> rfl

@[simp] theorem graphFail_vault (s : State) (r : Req) (g : GraphImage) : (graphFail s r g).1.vault = s.vault := by
  have htrailer := trailerFail_vault s r g.trailer 14
  unfold graphFail
  split
  · next h => rw [h] at htrailer; exact htrailer
  · next h =>
    rw [h] at htrailer
    split <;> [exact htrailer; split <;> [exact htrailer; split <;> exact htrailer]]

@[simp] theorem rulesFail_vault (s : State) (r : Req) (p : RulesPkg) : (rulesFail s r p).1.vault = s.vault := by
  have htrailer := trailerFail_vault s r p.trailer 14
  unfold rulesFail
  split
  · rfl
  · split
    · next h => rw [h] at htrailer; exact htrailer
    · next h =>
      rw [h] at htrailer
      split <;> [exact htrailer; split <;> exact htrailer]

theorem graftGraph_vault (s : State) (g : GraphImage) : (graftGraph s g).vault = s.vault := by
  have hfail := graphFail_vault { s with upd := { s.upd with phase := .idle } } (holderReq s) g
  unfold graftGraph
  split
  · next h => rw [h] at hfail; simpa using hfail
  · next h =>
    rw [h] at hfail
    dsimp only
    split <;> simpa using hfail

theorem graftRules_vault (s : State) (p : RulesPkg) : (graftRules s p).vault = s.vault := by
  have hfail := rulesFail_vault s (holderReq s) p
  unfold graftRules
  split
  · next h => rw [h] at hfail; simpa using hfail
  · next h => rw [h] at hfail; exact hfail

theorem foldl_graftRules_vault (l : List RulesPkg) (s : State) : (l.foldl graftRules s).vault = s.vault := by
  induction l generalizing s with
  | nil => rfl
  | cons p l ih => exact (ih _).trans (graftRules_vault s p)

theorem graftParts_vault (s : State) : (graftParts s).vault = s.vault := by
  unfold graftParts
  dsimp only
  rw [foldl_graftRules_vault]
  split
  · exact graftGraph_vault _ _
  · rfl

theorem graftEnd_vault (s : State) : (graftEnd s).vault = s.vault := emit1_vault _ _

/-- Step 6 forgets one of the update's records, which is none of the vault's. -/
theorem graftEff_counters (m : Manifest) (s : State) :
    (graftEff m s).vault.counters = advanceCounters (if s.upd.rewrapping then commitRewrap s else s).vault.counters m := by
  unfold graftEff
  dsimp only
  split <;> simp only [graftEnd_vault, graftParts_vault, emit1_vault, apply_ite State.vault, ite_self]

theorem countersGrow_graftEff (m : Manifest) (s : State) : CountersGrow s.vault.counters (graftEff m s).vault.counters := by
  rw [graftEff_counters]
  refine CountersGrow.trans ?_ (countersGrow_advanceCounters _ m)
  split
  · exact countersGrow_commitRewrap s
  · exact .refl _

/-- Settles O32: the graft takes place, and its two writing steps lower no counter but 9, or it does not. -/
theorem graftNeverLowersASecurityVersion : Obligations.GraftNeverLowersASecurityVersion := by
  intro s t h
  rw [finish_next (s := s) h, done_vault]
  change CountersGrow _ _
  split
  · split
    · exact countersGrow_graftEff _ s
    · exact .refl _
  · exact .refl _

end Sys2Proof.Machine

/-! ## How a command ends -/

namespace Sys2Proof.Machine

/-- Settles O3: an outcome keeps the queue of the state its command was run on. -/
theorem commandsLeaveTheQueue : Obligations.CommandsLeaveTheQueue := by
  intro c s t h
  obtain ⟨x, rfl⟩ := (exec_endsSettled c s).next h
  rfl

/-- An access by offset stops exactly where the offset is outside BAR0, which has 64 MiB. -/
theorem offset_check_cases (s x : State) (offset : Nat) :
    (∃ t, (if barSize ≤ offset then .fault .outsideBar0 else finish s x) = .next t) ∨
      ((if barSize ≤ offset then .fault .outsideBar0 else finish s x) = .fault .outsideBar0 ∧ 64 * 2 ^ 20 ≤ offset) := by
  split
  · next h => exact .inr ⟨rfl, h⟩
  · exact .inl ⟨done s x, rfl⟩

/-- Settles O4: only the three accesses by offset can stop, each at the check of its own offset. -/
theorem onlyOffsetsOutsideBar0Stop : Obligations.OnlyOffsetsOutsideBar0Stop := by
  intro c s
  cases c with
  | registerWrite fn offset size value =>
    exact (offset_check_cases s _ offset).imp_right fun ⟨hstop, hout⟩ => ⟨hstop, .inl ⟨fn, offset, size, value, rfl, hout⟩⟩
  | pcieReadViolation fn offset size =>
    exact (offset_check_cases s _ offset).imp_right fun ⟨hstop, hout⟩ => ⟨hstop, .inr (.inl ⟨fn, offset, size, rfl, hout⟩)⟩
  | shadowHalfRead fn offset =>
    exact (offset_check_cases s _ offset).imp_right fun ⟨hstop, hout⟩ => ⟨hstop, .inr (.inr ⟨fn, offset, rfl, hout⟩)⟩
  | _ => exact .inl ⟨_, rfl⟩

end Sys2Proof.Machine

/-! ## An engine that does not run (R515) -/

namespace Sys2Proof.Machine

section
variable {s : State} (hstop : running s = false)
include hstop

theorem storeUp_stopped : storeUp s = false := by simp [storeUp, hstop]

theorem peerOn_stopped : peerOn s = false := by simp [peerOn, hstop]

theorem swapMay_stopped : swapMay s = false := by simp [swapMay, hstop]

theorem canTake_stopped (r : Req) : canTake s r = false := by
  have hoff : (s.boot.powered && !s.boot.held && !s.boot.pfw) = false := hstop
  simp [canTake, hoff]

theorem finish_gmiT_stopped (ci : CmdInfo) (tbl : Role → Bool) (r : Req) (h : State → Reply) :
    finish s (gmiT ci tbl r h s) = .next (done s s) := by
  rw [gmiT_not_taken (canTake_stopped hstop r)]
  rfl

theorem finish_peerRx_stopped (h : KclHdr) (first : Bool) (f : State → State) :
    finish s (peerRx h first f s) = .next (done s s) := by
  rw [peerRx, peerOn_stopped hstop]
  rfl

end

/-- Settles O10: a request is not taken and a peer's frame not received; every other meaning asks first that the engine
runs. -/
theorem anEngineThatDoesNotRunTakesNoAction : Obligations.AnEngineThatDoesNotRunTakesNoAction := by
  intro c s hacts hstop
  cases c with
  | powerOn | pfwNReturn | refclkLoss | supplyExcursion | rstN | perstN | functionLevelReset | tamperTrip | firstInfoAck
  | tickBoundary | timeSnap | incrWrite | adjLowWrite | adjWrite | slewEnWrite | recordWrite | mbDoorbell | mbEnable
  | mbDisable | mbRspTail | mbEvtTail | intPendClear | registerWrite | pcieReadViolation | shadowHalfRead | qOpen | qPush
  | qClose | qPop | qFlush | qEnable | qDisable | qOwnerWrite | peakCellsRead | dmaStart | dmaRestart | dmaAbort
  | dmaCrBaseWrite | dmaCrTailWrite | dieTemperatureAlert => cases hacts
  | getIdentity | getCaps | getHealth | setParam | getParam | getLifecycle | advanceLifecycle | timeGet
  | timeConfigDomain | timeSelect | calendarStep | timeStatus | servoOwner | linkConfigure | linkStatus | linkLockGroup
  | plcTonemapGet | rfScheduleSet | cellAdmit | cellRelease | ctxProvision | ctxGet | ctxUpdate | ctxSuspend | ctxRetire
  | ctxBulkLoad | ctxQuery | keyImportWrapped | keyGenerate | keyInvalidate | keyRotateMeter | keyAttrGet
  | keyExportPublic | graphLoad | graphStatus | rulesLoad | schedStats | objGet | objSet | objAction | calendarLoad
  | calendarStatus | billingCloseNow | accessTableLoad | tapConfigure | chainSelectResponse | topologyLoad | balanceReport
  | phaseReport | suspicionReport | storeStatus | storeConfigure | storeReadSeries | storeRetentionSet | recStatus
  | recRead | recMarkSet | recMarkGet | troubleRead | updBegin | updChunk | updVerify | updActivate | updAbort | updStatus
  | campCreate | campStart | campStatus | campCancel | tariffPush | pairConfigure | pairStatus | pairSwap
  | pairForceRole | exportOpen | exportClose | exportStatus | powerDomainSet | diagSelftest | diagLoopback =>
    exact finish_gmiT_stopped hstop _ _ _ _
  | heartbeatRx | deltaRx | resyncChunkRx | peerImageRx | peerGmiRx => exact finish_peerRx_stopped hstop _ _ _
  | graft =>
    change finish s (match s.upd.man with | some m => _ | none => s) = _
    split
    · exact finish_if_not (by simp [hstop])
    · rfl
  | balanceCutoff =>
    refine (finish_if_not (by simp [hstop])).trans ?_
    exact finish_if_not (by simp [hstop])
  | _ => exact finish_if_not (by simp [hstop, storeUp_stopped, peerOn_stopped, swapMay_stopped])

end Sys2Proof.Machine

/-! ## Mailbox rings and responses (R443 to R451) -/

namespace Sys2Proof.Machine

@[simp] theorem rspPut_rspRing (i : Nat) (b : Mailbox) (m : Msg) : (rspPut i b m).rspRing = b.rspRing ++ [m] := by
  unfold rspPut
  dsimp only
  split <;> rfl

/-- A mailbox that the host does not serve is emptied as it is written to. -/
theorem rspPut_used (i : Nat) (b : Mailbox) (m : Msg) :
    (rspPut i b m).rspHead - (rspPut i b m).rspTail =
      if hostBox i then b.rspHead + BitVec.ofNat 32 m.ndesc - b.rspTail else 0 := by
  unfold rspPut
  dsimp only
  split
  · rfl
  · exact BitVec.sub_self _

/-- A message is put into a ring only where its descriptors are free, so the ring is never overfull. -/
theorem rspPut_used_le {i : Nat} {b : Mailbox} {m : Msg} (hroom : m.ndesc ≤ ringFree b.rspHead b.rspTail)
    (hb : (b.rspHead - b.rspTail).toNat ≤ 256) : ((rspPut i b m).rspHead - (rspPut i b m).rspTail).toNat ≤ 256 := by
  rw [rspPut_used]
  split
  · unfold ringFree at hroom
    rw [add_sub_right_comm, BitVec.toNat_add, BitVec.toNat_ofNat]
    omega
  · decide

theorem rspPump_keepsOrder (i : Nat) (b : Mailbox) (l : List Msg) :
    (rspPump i b l).rspRing ++ (rspPump i b l).rspWait = b.rspRing ++ l := by
  induction l generalizing b with
  | nil => rfl
  | cons m l ih =>
    unfold rspPump
    split
    · rw [ih, rspPut_rspRing, List.append_assoc, List.singleton_append]
    · rfl

theorem rspPump_used_le (i : Nat) (b : Mailbox) (l : List Msg) (hb : (b.rspHead - b.rspTail).toNat ≤ 256) :
    ((rspPump i b l).rspHead - (rspPump i b l).rspTail).toNat ≤ 256 := by
  induction l generalizing b with
  | nil => exact hb
  | cons m l ih =>
    unfold rspPump
    split
    · next hroom => exact ih _ (rspPut_used_le hroom hb)
    · exact hb

/-- Settles O14, by induction on the messages that wait. -/
theorem responseRingKeepsOrderAndRoom : Obligations.ResponseRingKeepsOrderAndRoom :=
  fun i b l => ⟨rspPump_keepsOrder i b l, rspPump_used_le i b l⟩

/-! ### Events leave the response rings -/

@[simp] theorem boxOf_mbSet_self (m : MbSt) (i : Nat) (b : Mailbox) : boxOf (mbSet m i b) i = b :=
  Tbl.getD_set_self m.boxes i b {}

theorem boxOf_mbSet_ne (m : MbSt) {i j : Nat} (b : Mailbox) (h : j ≠ i) : boxOf (mbSet m i b) j = boxOf m j :=
  Tbl.getD_set_ne m.boxes b {} h

theorem mbUpd_rspRing {s : State} {i : Nat} {b : Mailbox} (hb : b.rspRing = (boxOf s.mb i).rspRing) (j : Nat) :
    (boxOf (mbUpd s i b).mb j).rspRing = (boxOf s.mb j).rspRing := by
  rw [mbUpd_mb]
  by_cases hij : j = i
  · rw [hij, boxOf_mbSet_self, hb]
  · rw [boxOf_mbSet_ne _ _ hij]

@[simp] theorem evtPut_rspRing (i : Nat) (b : Mailbox) (m : Msg) : (evtPut i b m).rspRing = b.rspRing := by
  unfold evtPut
  dsimp only
  split <;> rfl

@[simp] theorem asyncPut_rspRing (i : Nat) (b : Mailbox) (m : Msg) : (asyncPut i b m).rspRing = b.rspRing := by
  unfold asyncPut
  split
  · rfl
  · exact evtPut_rspRing i b m

@[simp] theorem evtPump_rspRing (i : Nat) (b : Mailbox) (l : List Msg) : (evtPump i b l).rspRing = b.rspRing := by
  induction l generalizing b with
  | nil => rfl
  | cons m l ih =>
    unfold evtPump
    split
    · exact (ih _).trans (evtPut_rspRing i b m)
    · rfl

theorem postAsync_rspRing (mbs : BitVec 8) (m : Msg) (l : List Nat) (s : State) (j : Nat) :
    (boxOf (postAsync s mbs m l).mb j).rspRing = (boxOf s.mb j).rspRing := by
  induction l generalizing s with
  | nil => rfl
  | cons i l ih =>
    simp only [postAsync]
    rw [ih]
    split
    · exact mbUpd_rspRing (asyncPut_rspRing _ _ _) j
    · rfl

theorem postFinalAt_rspRing (s : State) (i : Nat) (p : PendCmd) (st : Status) (body : Body) (j : Nat) :
    (boxOf (postFinalAt s i p st body).mb j).rspRing = (boxOf s.mb j).rspRing := by
  unfold postFinalAt
  dsimp only
  split
  · refine mbUpd_rspRing ?_ j
    rfl
  · split
    · refine mbUpd_rspRing ?_ j
      rw [evtPump_rspRing]
    · refine mbUpd_rspRing ?_ j
      rfl

theorem postFinal_rspRing (s : State) (code : Nat) (st : Status) (body : Body) (j : Nat) :
    (boxOf (postFinal s code st body).mb j).rspRing = (boxOf s.mb j).rspRing := by
  unfold postFinal
  split
  · exact postFinalAt_rspRing ..
  · rfl

theorem emit1_rspRing (s : State) (e : Emit) (j : Nat) : (boxOf (emit1 s e).mb j).rspRing = (boxOf s.mb j).rspRing := by
  cases e with
  | event st notice mbs body =>
    simp only [emit1]
    split
    · exact postAsync_rspRing ..
    · rw [recRaise_mb]
      exact postAsync_rspRing ..
  | final code st body => exact postFinal_rspRing ..
  | record src code body => simp only [emit1, recRaise_mb]
  | alarm a => rfl
  | trouble e => simp only [emit1, apply_ite State.mb, ite_self]
  | irq src => rfl

theorem emitAll_rspRing (s : State) (es : List Emit) (j : Nat) : (boxOf (emitAll s es).mb j).rspRing = (boxOf s.mb j).rspRing := by
  induction es generalizing s with
  | nil => rfl
  | cons e es ih => exact (ih _).trans (emit1_rspRing s e j)

/-! ### One response (R444, R446) -/

theorem descsOf_le {len : Nat} (h : len ≤ 4096) : descsOf len ≤ 65 := by
  unfold descsOf
  omega

theorem toMsgs_of_le {m : Msg} (hlen : bodyLen m.body ≤ 4096) :
    toMsgs m = [{ m with seq := 0, more := false, ndesc := descsOf (bodyLen m.body) }] := by
  simp [toMsgs, msgsOf, hlen, splitMsgs]

theorem rspPump_singleton {i : Nat} {b : Mailbox} {m : Msg} (hroom : m.ndesc ≤ ringFree b.rspHead b.rspTail) :
    rspPump i b [m] = { rspPut i b m with rspWait := [] } := by
  simp [rspPump, hroom]

theorem rspWrite_rspRing {i : Nat} {b : Mailbox} {m : Msg} (hwait : b.rspWait = []) (hlen : bodyLen m.body ≤ 4096)
    (hroom : 65 ≤ ringFree b.rspHead b.rspTail) :
    (rspWrite i true b m).rspRing =
      b.rspRing ++ [{ m with seq := 0, more := false, ndesc := descsOf (bodyLen m.body) }] := by
  rw [rspWrite, if_pos rfl, hwait, List.nil_append, toMsgs_of_le hlen, rspPump_singleton ((descsOf_le hlen).trans hroom)]
  exact rspPut_rspRing ..

/-- Settles O13: the answer is the one message of its payload, and what is given off after it leaves the response rings. -/
theorem responseCarriesCommandTagAndStatus : Obligations.ResponseCarriesCommandTagAndStatus := by
  intro ci r o hhost hen hwait hlen hroom
  have halive : mbAlive o.s.mb r.mb.val r.sess = true := by simp [mbAlive, hhost, hen]
  rw [carried, emitAll_rspRing, answer, mbUpd_mb, boxOf_mbSet_self, halive]
  exact rspWrite_rspRing hwait hlen hroom

end Sys2Proof.Machine

/-! ## Capture sets (R362, R460) -/

namespace Sys2Proof.Machine

/-- The log entry of an error; `first` where it is the one its capture set takes. -/
def troubleEntry (mc : Nat) (first : Bool) (r : ErrRep) : TEntry :=
  ⟨mc, r.addr, r.loc, r.cls, r.accessor, first, r.code, r.detail.map (fun v => (v, 1))⟩

/-- The log with an entry added: of 4,096 the oldest goes. -/
def logAdd (l : List TEntry) (x : TEntry) : List TEntry :=
  if 4096 < (l ++ [x]).length then (l ++ [x]).drop 1 else l ++ [x]

theorem getLast?_logAdd (l : List TEntry) (x : TEntry) : (logAdd l x).getLast? = some x := by
  unfold logAdd
  split
  · next h => rw [List.getLast?_drop, if_neg (by omega), List.getLast?_concat]
  · exact List.getLast?_concat

theorem length_logAdd_le {l : List TEntry} (x : TEntry) (h : l.length ≤ 4096) : (logAdd l x).length ≤ 4096 := by
  unfold logAdd
  split <;> simp at * <;> omega

theorem errLog_tlog (mc : Nat) (e : ErrSt) (r : ErrRep) :
    (errLog mc e r).1.tlog = logAdd e.tlog (troubleEntry mc (!(capOf e r.cls).valid) r) := rfl

theorem capOf_errLog_ne (mc : Nat) (e : ErrSt) (r : ErrRep) {c : Nat} (h : c ≠ r.cls) :
    capOf (errLog mc e r).1 c = capOf e c := Tbl.getD_set_ne e.sets _ {} h

theorem capOf_errLog_self (mc : Nat) (e : ErrSt) (r : ErrRep) :
    capOf (errLog mc e r).1 r.cls =
      if (capOf e r.cls).valid then { capOf e r.cls with count := satInc 32 (capOf e r.cls).count }
      else ⟨true, r.addr, r.loc, r.accessor + 128, r.code, r.detail.map (fun v => (v, 1)), mc, 0⟩ := by
  refine (Tbl.getD_set_self e.sets _ _ {}).trans ?_
  by_cases hvalid : (capOf e r.cls).valid = true <;> simp [hvalid]

/-- Settles O15: what the error's own set holds, by whether it was VALID; the other sets; the log. -/
theorem captureSetKeepsTheFirstError : Obligations.CaptureSetKeepsTheFirstError := by
  intro mc e r
  refine ⟨fun hfree => ?_, fun hvalid => ?_, fun c hc => capOf_errLog_ne mc e r hc, fun hlen => ?_⟩
  · rw [capOf_errLog_self, errLog_tlog, getLast?_logAdd, hfree]
    exact ⟨rfl, rfl⟩
  · rw [capOf_errLog_self, errLog_tlog, getLast?_logAdd, hvalid]
    exact ⟨rfl, rfl⟩
  · rw [errLog_tlog]
    exact length_logAdd_le _ hlen

end Sys2Proof.Machine

/-! ## The use of a key (R167) -/

namespace Sys2Proof.Machine

/-- Step 4's question: master, world, lifecycle, usage, algorithm and targets of a use are all permitted. -/
def permits (s : State) (a : KeyAttr) (u : KeyReq) : Bool :=
  a.masters.getLsbD u.master && a.worlds.getLsbD (b2n u.normal) && a.lifecycle.getLsbD (lifeIdx s.vault.life) &&
    a.usage.getLsbD u.usage && u.algs.contains a.alg && decide (a.targets &&& u.targets = u.targets)

/-- Step 2's question of a key that is there: the KEK file can unwrap it. -/
def unwraps (s : State) (v : KeyView) : Bool := s.keys.ready && decide (s.keys.kek = some v.kek)

section
variable {s : State} {h : Word32} (u : KeyReq)

theorem keyJudge_of_tampered (htamp : s.vault.tampered = true) : keyJudge s h u = some (.tampered, 1) := if_pos htamp

variable (htamp : s.vault.tampered = false)
include htamp

theorem keyJudge_of_missing (hview : keyView s h = none) : keyJudge s h u = some (.keyMissing, 2) := by
  simp [keyJudge, htamp, hview]

/-- Steps 2 to 4 for a key that is there. -/
theorem keyJudge_of_view {v : KeyView} (hview : keyView s h = some v) :
    keyJudge s h u =
      if unwraps s v then
        if revokedChain s v.attr (chainFuel s) then some (.keyRevoked, 3)
        else if permits s v.attr u then none else some (.keyAttr, 4)
      else some (.keyMissing, 2) := by
  have hready : (!s.keys.ready || decide (s.keys.kek ≠ some v.kek)) = !unwraps s v := by simp [unwraps]
  rw [keyJudge, if_neg (by simp [htamp]), hview]
  simp only [hready, permits]
  cases unwraps s v <;> rfl

end

/-- Settles O16: the steps of R167 in turn, each where those before it pass. -/
theorem keyChecksInOrder : Obligations.KeyChecksInOrder := by
  intro s h u v
  refine ⟨keyJudge_of_tampered u, keyJudge_of_missing u, fun htamp hview => ?_⟩
  have hsteps := keyJudge_of_view u htamp hview
  unfold unwraps permits at hsteps
  intro usable revoked permitted
  change keyJudge s h u = if usable then if revoked then _ else if permitted then _ else _ else _ at hsteps
  rw [hsteps]
  refine ⟨fun husable => ?_, fun husable hrev => ?_, fun husable hrev hperm => ?_, fun husable hrev hperm => ?_⟩
  · rw [husable]; rfl
  · rw [husable, hrev]; rfl
  · rw [husable, hrev, hperm]; rfl
  · rw [husable, hrev, hperm]; rfl

end Sys2Proof.Machine

/-! ## Popping a queue (R421) -/

namespace Sys2Proof.Machine

@[simp] theorem qRaise_q (s : State) (q : Nat) (o : QOwner) : (qRaise s q o).q = s.q := by
  unfold qRaise
  dsimp only
  split <;> rfl

theorem qPut_q (s : State) (q : Nat) (x : Queue) :
    (qPut s q x).q = { s.q with qs := s.q.qs.set q { x with peak := max x.peak (qCells x) } } := by
  unfold qPut
  dsimp only
  split
  · exact qRaise_q _ _ _
  · rfl

theorem qOf_qPut_self (s : State) (q : Nat) (x : Queue) : qOf (qPut s q x) q = { x with peak := max x.peak (qCells x) } := by
  rw [qOf, qPut_q]
  exact Tbl.getD_set_self ..

theorem qOf_qPut_ne (s : State) {q n : Nat} (x : Queue) (h : n ≠ q) : qOf (qPut s q x) n = qOf s n := by
  rw [qOf, qPut_q]
  exact Tbl.getD_set_ne _ _ _ h

section
variable {s : State} {q : Nat} {i : List Nat} {t : List (List Nat)}

theorem qPop_of_items (hitems : (qOf s q).items = i :: t) :
    qPop s q =
      let y := advanceOff { qOf s q with last := (i[(qOf s q).popped]?).getD 0 } 1
      qPut s q (if (qOf s q).popped + 1 < i.length then { y with popped := (qOf s q).popped + 1 }
        else { y with items := t, popped := 0 }) := by
  simp only [qPop, hitems]

theorem qPop_last (hitems : (qOf s q).items = i :: t) : (qOf (qPop s q) q).last = (i[(qOf s q).popped]?).getD 0 := by
  rw [qPop_of_items hitems, qOf_qPut_self]
  split <;> rfl

theorem qPop_of_more (hitems : (qOf s q).items = i :: t) (hmore : (qOf s q).popped + 1 < i.length) :
    (qOf (qPop s q) q).items = i :: t ∧ (qOf (qPop s q) q).popped = (qOf s q).popped + 1 := by
  rw [qPop_of_items hitems, qOf_qPut_self, if_pos hmore]
  exact ⟨hitems, rfl⟩

theorem qPop_of_lastWord (hitems : (qOf s q).items = i :: t) (hlast : i.length ≤ (qOf s q).popped + 1) :
    (qOf (qPop s q) q).items = t ∧ (qOf (qPop s q) q).popped = 0 := by
  rw [qPop_of_items hitems, qOf_qPut_self, if_neg hlast.not_gt]
  exact ⟨rfl, rfl⟩

/-- While words of the oldest item are left it stays the oldest, and the words popped are counted. -/
theorem popTimes_within (hitems : (qOf s q).items = i :: t) (hfresh : (qOf s q).popped = 0) {n : Nat} (hn : n < i.length) :
    (qOf (popTimes s q n) q).items = i :: t ∧ (qOf (popTimes s q n) q).popped = n := by
  induction n with
  | zero => exact ⟨hitems, hfresh⟩
  | succ n ih =>
    obtain ⟨hi, hp⟩ := ih (by omega)
    have hstep := qPop_of_more hi (by rw [hp]; exact hn)
    rwa [hp] at hstep
end

/-- Settles O19: by induction the item stays as its words are read, up to the POP that reads its last. -/
theorem poppedWordsComeInOrder : Obligations.PoppedWordsComeInOrder := by
  intro s q i t hitems hfresh hne
  refine ⟨fun k hk => ?_, ?_⟩
  · obtain ⟨hi, hp⟩ := popTimes_within hitems hfresh hk
    rw [popTimes, qPop_last hi, hp, List.getElem?_eq_getElem hk, Option.getD_some]
  · obtain ⟨n, hn⟩ : ∃ n, i.length = n + 1 := Nat.exists_eq_succ_of_ne_zero (by simpa using hne)
    obtain ⟨hi, hp⟩ := popTimes_within hitems hfresh (n := n) (by omega)
    rw [hn]
    exact qPop_of_lastWord hi (by rw [hp, hn])

end Sys2Proof.Machine

/-! ## The lifecycle (R183, R184) -/

namespace Sys2Proof.Machine

/-- The lifecycle has moved from `v` to `w` at most along the table of R184, and no fuse of `v` reads otherwise in `w`. -/
structure LifeMoved (v w : VaultSt) : Prop where
  life : w.life = v.life ∨ (lifeStep v.life w.life).isSome
  fuses : v.fuses &&& w.fuses = v.fuses

theorem LifeMoved.refl (v : VaultSt) : LifeMoved v v := ⟨.inl rfl, BitVec.and_self⟩

theorem blow_keeps_blown (f : BitVec 32) (i : Nat) : f &&& blow f i = f := by
  ext n
  simp only [blow, BitVec.getElem_and, BitVec.getElem_or]
  cases f[n] <;> rfl

theorem makeProvKey_vault (s : State) : (makeProvKey s).vault = s.vault := by
  unfold makeProvKey
  split <;> rfl

theorem lifeEffect_life (s : State) (dest : Life) : (lifeEffect s dest).vault.life = s.vault.life := by
  cases dest with
  | provisioned => simp only [lifeEffect, makeProvKey_vault]; rfl
  | _ => rfl

theorem lifeEffect_fuses (s : State) (dest : Life) : (lifeEffect s dest).vault.fuses = s.vault.fuses := by
  cases dest with
  | provisioned => simp only [lifeEffect, makeProvKey_vault]; rfl
  | _ => rfl

theorem lifeAdvance_moved {s : State} {dest : Life} (h : (lifeStep s.vault.life dest).isSome) :
    LifeMoved s.vault (lifeAdvance s dest).s.vault := by
  constructor
  · right
    simp only [lifeAdvance, lifeEffect_life]
    exact h
  · simp only [lifeAdvance, lifeEffect_fuses]
    exact blow_keeps_blown _ _

/-- The command is denied, or the transition it asks for is one of the table. -/
theorem advanceLifecycle_moved (r : Req) (target : BitVec 8) (handle : Word32) (sig : Option Bool) (s : State) :
    LifeMoved s.vault (advanceLifecycle r target handle sig s).s.vault := by
  unfold advanceLifecycle
  split
  · exact .refl _
  · next dest _ =>
    split
    · exact .refl _
    · next signed hstep =>
      have hmove : (lifeStep s.vault.life dest).isSome := by rw [hstep]; rfl
      split
      · split
        · exact .refl _
        · split
          · exact .refl _
          · exact lifeAdvance_moved hmove
      · have htrailer := trailerFail_vault s r ⟨handle, sig.getD false && s.vault.challenge.isSome⟩ 15
        split
        · next s1 st heq =>
          rw [heq] at htrailer
          exact htrailer ▸ LifeMoved.refl s1.vault
        · next s1 heq =>
          rw [heq] at htrailer
          dsimp only at htrailer
          rw [← htrailer] at hmove ⊢
          split
          · exact .refl _
          · have hadv := lifeAdvance_moved (s := { s1 with vault := { s1.vault with challenge := none } }) hmove
            exact ⟨hadv.life, hadv.fuses⟩

/-- Settles O22: only the handler of an accepted request moves the vault's lifecycle and fuses. -/
theorem lifecycleMovesAlongItsTable : Obligations.LifecycleMovesAlongItsTable := by
  intro s t r target handle sig h
  rw [finish_next (s := s) h, done_vault]
  have hmoved : LifeMoved s.vault (gmi ciAdvanceLifecycle r (advanceLifecycle r target handle sig) s).vault := by
    rcases gmiT_cases ciAdvanceLifecycle noTable r (advanceLifecycle r target handle sig) s with hid | ⟨st, -, hdeny⟩ | ⟨-, hserve⟩
    · rw [show gmi _ r _ s = _ from hid]
      exact .refl _
    · rw [show gmi _ r _ s = _ from hdeny, answer_vault, emitAll_vault, taken_vault]
      exact .refl _
    · rw [show gmi _ r _ s = _ from hserve, served_vault, ← taken_vault s r]
      exact advanceLifecycle_moved r target handle sig (taken s r)
  exact ⟨hmoved.life, hmoved.fuses⟩

end Sys2Proof.Machine

/-! ## A tamper trip (R181, R516) -/

namespace Sys2Proof.Machine

/-! ### What is given off leaves the TLS sessions -/

@[simp] theorem mbUpd_tls (s : State) (i : Nat) (b : Mailbox) : (mbUpd s i b).mb.tls = s.mb.tls := by
  rw [mbUpd_mb]
  rfl

theorem postAsync_tls (mbs : BitVec 8) (m : Msg) (l : List Nat) (s : State) : (postAsync s mbs m l).mb.tls = s.mb.tls := by
  induction l generalizing s with
  | nil => rfl
  | cons i l ih =>
    simp only [postAsync]
    rw [ih]
    split
    · exact mbUpd_tls ..
    · rfl

theorem postFinal_tls (s : State) (code : Nat) (st : Status) (body : Body) : (postFinal s code st body).mb.tls = s.mb.tls := by
  unfold postFinal
  split
  · unfold postFinalAt
    dsimp only
    split
    · exact mbUpd_tls ..
    · split <;> exact mbUpd_tls ..
  · rfl

theorem emit1_tls (s : State) (e : Emit) : (emit1 s e).mb.tls = s.mb.tls := by
  cases e with
  | event st notice mbs body =>
    simp only [emit1]
    split
    · exact postAsync_tls ..
    · rw [recRaise_mb]
      exact postAsync_tls ..
  | final code st body => exact postFinal_tls ..
  | record src code body => simp only [emit1, recRaise_mb]
  | alarm a => rfl
  | trouble e => simp only [emit1, apply_ite State.mb, ite_self]
  | irq src => rfl

theorem emitAll_tls (s : State) (es : List Emit) : (emitAll s es).mb.tls = s.mb.tls := by
  induction es generalizing s with
  | nil => rfl
  | cons e es ih => exact (ih _).trans (emit1_tls s e)

/-! ### What the release of the trunk die leaves -/

section
variable (recOk : Bool) (causeWord firstTick : Nat) (notes : List Emit) (s : State)

theorem recRecover_vault : (recRecover s recOk causeWord firstTick).vault = s.vault := by
  unfold recRecover
  split <;> simp

theorem recRecover_keys : (recRecover s recOk causeWord firstTick).keys = s.keys := by
  unfold recRecover
  split <;> simp

theorem recRecover_ctx : (recRecover s recOk causeWord firstTick).ctx = s.ctx := by
  unfold recRecover
  split <;> simp

theorem recRecover_tls : (recRecover s recOk causeWord firstTick).mb.tls = s.mb.tls := by
  unfold recRecover
  split
  · exact emitAll_tls _ _
  · rfl

theorem releaseTrunk_vault : (releaseTrunk recOk notes s).vault = { s.vault with clean := false } := by
  simp only [releaseTrunk, emitAll_vault, recRecover_vault]

theorem releaseTrunk_keys : (releaseTrunk recOk notes s).keys = s.keys := by
  simp only [releaseTrunk, emitAll_keys, recRecover_keys]

theorem releaseTrunk_ctx : (releaseTrunk recOk notes s).ctx = s.ctx := by
  simp only [releaseTrunk, emitAll_ctx, recRecover_ctx]

theorem releaseTrunk_tls : (releaseTrunk recOk notes s).mb.tls = s.mb.tls := by
  simp only [releaseTrunk, emitAll_tls, recRecover_tls]
end

/-- The vault has zeroised on monitor `m`, beside the causes `cause` it held already. -/
structure Zeroised (m : Fin 8) (cause : BitVec 8) (v : VaultSt) : Prop where
  tampered : v.tampered = true
  tamperCause : v.tamperCause = cause ||| BitVec.ofNat 8 (2 ^ m.val)
  taproot : v.taproot = false

theorem tamperTripEff_zeroised (m : Fin 8) (s : State) : Zeroised m s.vault.tamperCause (tamperTripEff m s).vault := by
  unfold tamperTripEff
  dsimp only
  split
  · rw [warmReset, engineReset, releaseTrunk_vault]
    exact ⟨rfl, rfl, rfl⟩
  · split <;> exact ⟨rfl, rfl, rfl⟩

/-- The trunk die's keys and sessions go with the reset, or in a shutdown at once. -/
theorem tamperTripEff_clears (m : Fin 8) {s : State} (halive : alive s = true) :
    (tamperTripEff m s).keys.kek = none ∧ (tamperTripEff m s).ctx.sess = [] ∧ (tamperTripEff m s).mb.tls = [] := by
  unfold tamperTripEff
  dsimp only
  split
  · rw [warmReset, engineReset, releaseTrunk_keys, releaseTrunk_ctx, releaseTrunk_tls]
    exact ⟨rfl, rfl, rfl⟩
  · exact ⟨rfl, rfl, rfl⟩

/-- Settles O23: the vault zeroises in every state, and step 1 of a key's checks asks for nothing else. -/
theorem tamperTripLeavesNoUsableKey : Obligations.TamperTripLeavesNoUsableKey := by
  intro s m
  obtain ⟨htamp, hcause, htap⟩ := tamperTripEff_zeroised m s
  exact ⟨_, rfl, htamp, hcause, htap, fun _ u => keyJudge_of_tampered u htamp, fun halive => tamperTripEff_clears m halive⟩

end Sys2Proof.Machine

/-! ## An invalidated key (R167, R170, R171) -/

namespace Sys2Proof.Tbl

variable {α : Type}

theorem get?_modify_self (t : Tbl α) (i : Nat) (f : α → α) : (t.modify i f).get? i = (t.get? i).map f := by
  unfold modify
  split
  · next v h => rw [get?_set_self, h, Option.map_some]
  · next h => rw [h, Option.map_none]

theorem get?_modify_ne (t : Tbl α) {i j : Nat} (f : α → α) (h : j ≠ i) : (t.modify i f).get? j = t.get? j := by
  unfold modify
  split
  · exact get?_set_ne t _ h
  · rfl

theorem get?_erase_self (t : Tbl α) (i : Nat) : (t.erase i).get? i = none := by
  induction t with
  | nil => rfl
  | cons e t ih =>
    obtain ⟨k, v⟩ := e
    by_cases hk : k = i
    · rw [erase, List.filter_cons_of_neg (by simp [hk])]
      exact ih
    · rw [erase, List.filter_cons_of_pos (by simp [hk]), get?, if_neg (Ne.symm hk)]
      exact ih

theorem get?_erase_ne (t : Tbl α) {i j : Nat} (h : j ≠ i) : (t.erase i).get? j = t.get? j := by
  induction t with
  | nil => rfl
  | cons e t ih =>
    obtain ⟨k, v⟩ := e
    by_cases hk : k = i
    · rw [erase, List.filter_cons_of_neg (by simp [hk]), get?, if_neg (by rw [hk]; exact h)]
      exact ih
    · rw [erase, List.filter_cons_of_pos (by simp [hk]), get?, get?]
      exact congrArg _ ih

end Sys2Proof.Tbl

namespace Sys2Proof.Machine

/-- Where handle `h` names a key, the key is INVALIDATED. -/
def KeyDead (s : State) (h : Word32) : Prop := ∀ v, keyView s h = some v → v.attr.invalidated = true

theorem revokedChain_of_invalidated {s : State} {a : KeyAttr} (h : a.invalidated = true) (n : Nat) : revokedChain s a n = true := by
  cases n <;> simp [revokedChain, h]

theorem KeyDead.judged {s : State} {h : Word32} (hdead : KeyDead s h) (htamp : s.vault.tampered = false) (u : KeyReq) :
    keyJudge s h u = some (.keyMissing, 2) ∨ keyJudge s h u = some (.keyRevoked, 3) := by
  cases hview : keyView s h with
  | none => exact .inl (keyJudge_of_missing u htamp hview)
  | some v =>
    rw [keyJudge_of_view u htamp hview, revokedChain_of_invalidated (hdead v hview)]
    cases unwraps s v
    · exact .inl rfl
    · exact .inr rfl

theorem KeyDead.judged_of_unwraps {s : State} {h : Word32} {v : KeyView} (hdead : KeyDead s h)
    (htamp : s.vault.tampered = false) (hview : keyView s h = some v) (hready : s.keys.ready = true)
    (hkek : s.keys.kek = some v.kek) (u : KeyReq) : keyJudge s h u = some (.keyRevoked, 3) := by
  have hunwraps : unwraps s v = true := by simp [unwraps, hready, hkek]
  rw [keyJudge_of_view u htamp hview, revokedChain_of_invalidated (hdead v hview), hunwraps]
  rfl

/-- The key tables with the key of a handle marked INVALIDATED (R170). -/
def bankInvalidated (b : Bank) (h : Word32) : Bank :=
  if hClass h ≤ 3 then { b with meters := b.meters.modify (hIdx h) (fun k => setMKeyInv k (hClass h)) }
  else { b with slots := b.slots.modify (hIdx h) (fun k => { k with attr := { k.attr with invalidated := true } }) }

theorem setMKeyInv_invalidated (k : MKeys) {c : Nat} (h1 : 1 ≤ c) (h3 : c ≤ 3) :
    (mkeyOf (setMKeyInv k c) c).invalidated = true := by
  interval_cases c <;> rfl

theorem keyDead_of_bankInvalidated {s : State} {b : Bank} {h : Word32} (hkeys : s.p.keys = bankInvalidated b h) : KeyDead s h := by
  intro v hview
  unfold keyView at hview
  dsimp only at hview
  split at hview
  · next hmeter =>
    obtain ⟨h1, h3⟩ : 1 ≤ hClass h ∧ hClass h ≤ 3 := by simpa using hmeter
    have hbank : s.p.keys.meters = b.meters.modify (hIdx h) (fun k => setMKeyInv k (hClass h)) := by
      rw [hkeys, bankInvalidated, if_pos h3]
    split at hview
    · next hthere =>
      have hsome : (s.p.keys.meters.get? (hIdx h)).isSome := by
        simp only [Bool.and_eq_true] at hthere
        exact hthere.2
      obtain ⟨k, hk⟩ := Option.isSome_iff_exists.mp hsome
      rw [hbank, Tbl.get?_modify_self] at hk
      obtain ⟨k₀, -, hk₀⟩ := Option.map_eq_some_iff.mp hk
      have hmkeys : mkeysOf s (hIdx h) = setMKeyInv k₀ (hClass h) := by
        rw [mkeysOf, Tbl.getD, hbank, Tbl.get?_modify_self, hk, ← hk₀, Option.getD_some]
      cases hview
      simp only [meterAttr, hmkeys, setMKeyInv_invalidated k₀ h1 h3]
    · cases hview
  · split at hview
    · next hslot =>
      have h4 : ¬ hClass h ≤ 3 := by simp at hslot; omega
      have hbank : s.p.keys.slots =
          b.slots.modify (hIdx h) (fun k => { k with attr := { k.attr with invalidated := true } }) := by
        rw [hkeys, bankInvalidated, if_neg h4]
      split at hview
      · next k hk =>
        rw [hbank, Tbl.get?_modify_self] at hk
        obtain ⟨k₀, -, hk₀⟩ := Option.map_eq_some_iff.mp hk
        split at hview
        · cases hview
          rw [← hk₀]
        · cases hview
      · cases hview
    · cases hview

/-! ### Closing sessions leaves the key tables and the vault -/

@[simp] theorem touchLine_p (s : State) (m : Nat) (d : Bool) : (touchLine s m d).p = s.p := by
  unfold touchLine
  dsimp only
  split
  · rfl
  · split
    · rfl
    · split <;> rfl

@[simp] theorem touchLine_vault (s : State) (m : Nat) (d : Bool) : (touchLine s m d).vault = s.vault := by
  unfold touchLine
  dsimp only
  split
  · rfl
  · split
    · rfl
    · split <;> rfl

theorem setM_p (s : State) (m : Nat) (e : Mct) :
    (setM s m e).p = { s.p with mct := if e = {} then s.p.mct.erase m else s.p.mct.set m e } := by
  simp only [setM, touchLine_p]

@[simp] theorem setM_vault (s : State) (m : Nat) (e : Mct) : (setM s m e).vault = s.vault := by
  simp only [setM, touchLine_vault]

theorem closeSession_pkeys (s : State) (m : Nat) : (closeSession s m).p.keys = s.p.keys := by
  unfold closeSession
  split
  · rw [updM, setM_p]
  · rfl

theorem closeSession_vault (s : State) (m : Nat) : (closeSession s m).vault = s.vault := by
  unfold closeSession
  split
  · rw [updM, setM_vault]
  · rfl

theorem foldl_closeSession (l : List Nat) (s : State) :
    (l.foldl closeSession s).p.keys = s.p.keys ∧ (l.foldl closeSession s).vault = s.vault := by
  induction l generalizing s with
  | nil => exact ⟨rfl, rfl⟩
  | cons m l ih =>
    obtain ⟨hkeys, hvault⟩ := ih (closeSession s m)
    exact ⟨hkeys.trans (closeSession_pkeys s m), hvault.trans (closeSession_vault s m)⟩

theorem tlsClose_p_vault (s : State) (n : Nat) : (tlsClose s n).p = s.p ∧ (tlsClose s n).vault = s.vault := by
  unfold tlsClose
  split <;> exact ⟨rfl, rfl⟩

theorem foldl_tlsClose_p_vault (l : List Nat) (s : State) :
    (l.foldl tlsClose s).p = s.p ∧ (l.foldl tlsClose s).vault = s.vault := by
  induction l generalizing s with
  | nil => exact ⟨rfl, rfl⟩
  | cons n l ih =>
    obtain ⟨hp, hvault⟩ := ih (tlsClose s n)
    obtain ⟨hp₁, hvault₁⟩ := tlsClose_p_vault s n
    exact ⟨hp.trans hp₁, hvault.trans hvault₁⟩

theorem invalidateKey_keys_vault {s : State} {h : Word32} {v : KeyView} (hview : keyView s h = some v) (master : Nat) :
    (invalidateKey s h master).p.keys = bankInvalidated s.p.keys h ∧ (invalidateKey s h master).vault = s.vault := by
  unfold invalidateKey
  rw [hview]
  dsimp only
  rw [emit1_p, emit1_vault, (foldl_tlsClose_p_vault ..).1, (foldl_tlsClose_p_vault ..).2, (foldl_closeSession ..).1,
    (foldl_closeSession ..).2]
  exact ⟨rfl, rfl⟩

theorem namedFail_eq_none {s : State} {h : Word32} (hok : namedFail s h = none) :
    s.vault.tampered = false ∧ ∃ v, keyView s h = some v := by
  unfold namedFail at hok
  split at hok
  · cases hok
  · next htamp =>
    split at hok
    · cases hok
    · next v hview => exact ⟨by simpa using htamp, v, hview⟩

/-- A key there and not revoked, named from mailbox 0 or of a meter, is invalidated. -/
theorem keyInvalidate_served {s : State} {r : Req} {h : Word32} (hfrom : r.mb.val = 0 ∨ 1 ≤ hClass h ∧ hClass h ≤ 3)
    (hok : namedFail s h = none) : keyInvalidate r h s = ⟨invalidateKey s h (mbMaster s r), .ok, [], []⟩ := by
  have hmay : ¬((decide (r.mb.val ≠ 0) && !(decide (1 ≤ hClass h) && decide (hClass h ≤ 3))) = true) := by
    simp
    omega
  rw [keyInvalidate, if_neg hmay, hok]

/-- Settles O24: the key the handle names is INVALIDATED in the tables the command leaves. -/
theorem anInvalidatedKeyIsNeverUsed : Obligations.AnInvalidatedKeyIsNeverUsed := by
  intro s r h hacc hfrom hok
  obtain ⟨htamp, v, hview⟩ := namedFail_eq_none hok
  obtain ⟨hkeys, hvault⟩ := invalidateKey_keys_vault hview (mbMaster (taken s r) r)
  refine ⟨_, finish_gmi hacc, ?_⟩
  rw [keyInvalidate_served hfrom hok]
  generalize hx : carried ciKeyInvalidate r _ = x
  have hdead : KeyDead (done s x) h :=
    keyDead_of_bankInvalidated (b := (taken s r).p.keys) (by rw [done_p, ← hx, served_p]; exact hkeys)
  have hclear : (done s x).vault.tampered = false := by
    rw [done_vault, ← hx, served_vault]
    exact hvault ▸ htamp
  exact ⟨fun u => hdead.judged hclear u, fun _ u hview' hready hkek => hdead.judged_of_unwraps hclear hview' hready hkek u⟩

end Sys2Proof.Machine

/-! ## Suspending a meter (R132) -/

namespace Sys2Proof.Machine

@[simp] theorem mctOf_setM_self (s : State) (m : Nat) (e : Mct) : mctOf (setM s m e) m = e := by
  rw [mctOf, setM_p, Tbl.getD]
  dsimp only
  split
  · next h => rw [Tbl.get?_erase_self, h, Option.getD_none]
  · rw [Tbl.get?_set_self, Option.getD_some]

theorem mctOf_setM_ne (s : State) {m n : Nat} (e : Mct) (h : n ≠ m) : mctOf (setM s m e) n = mctOf s n := by
  rw [mctOf, setM_p, Tbl.getD]
  dsimp only
  split
  · rw [Tbl.get?_erase_ne _ h]
    rfl
  · rw [Tbl.get?_set_ne _ _ h]
    rfl

theorem mctOf_closeSession_self (s : State) (m : Nat) : mctOf (closeSession s m) m = { mctOf s m with session := none } := by
  unfold closeSession
  split
  · rw [updM, mctOf_setM_self]
    rfl
  · next h => rw [← h]

theorem mctOf_closeSession_ne (s : State) {m n : Nat} (h : n ≠ m) : mctOf (closeSession s m) n = mctOf s n := by
  unfold closeSession
  split
  · rw [updM, mctOf_setM_ne _ _ h]
    rfl
  · rfl

theorem mctOf_cmdM_self (s : State) (m : Nat) (f : Mct → Mct) :
    mctOf (cmdM s m f) m = { f (mctOf s m) with updSeq := wrapAdd 32 (mctOf s m).updSeq 1 } := by
  rw [cmdM, updM, mctOf_setM_self]

theorem mctOf_cmdM_ne (s : State) {m n : Nat} (f : Mct → Mct) (h : n ≠ m) : mctOf (cmdM s m f) n = mctOf s n :=
  mctOf_setM_ne s _ h

theorem setSt_of_ne {s : State} {e : Mct} {st : CtxState} (h : e.state ≠ st) :
    setSt s e st = { e with state := st, stateTick := s.vault.tick } := if_neg h

/-- The entry of a suspended meter (R130, R132). -/
def suspendedEntry (tick : Nat) (e : Mct) : Mct :=
  { e with state := .suspended, stateTick := tick, session := none, updSeq := wrapAdd 32 e.updSeq 1 }

/-- A meter that CTX_SUSPEND suspends. -/
def maySuspend (e : Mct) : Bool := e.state = .provisioned || e.state = .joined || e.state = .active

theorem ctxSuspend_of_may {s : State} {m : Nat} (hm : m < mcxCount) (hmay : maySuspend (mctOf s m) = true) :
    (ctxSuspend m s).s = cmdM (closeSession s m) m (fun e => setSt s e .suspended) := by
  rw [maySuspend] at hmay
  simp only [ctxSuspend, if_neg hm.not_ge, if_pos hmay]

theorem ctxSuspend_of_not {s : State} {m : Nat} (hm : m < mcxCount) (hnot : maySuspend (mctOf s m) = false) :
    (ctxSuspend m s).s = s := by
  rw [maySuspend] at hnot
  simp only [ctxSuspend, if_neg hm.not_ge, hnot]
  rfl

theorem mctOf_ctxSuspend_self {s : State} {m : Nat} (hm : m < mcxCount) (hmay : maySuspend (mctOf s m) = true) :
    mctOf (ctxSuspend m s).s m = suspendedEntry s.vault.tick (mctOf s m) := by
  have hne : (mctOf s m).state ≠ .suspended := by
    intro h
    simp [maySuspend, h] at hmay
  rw [ctxSuspend_of_may hm hmay, mctOf_cmdM_self, mctOf_closeSession_self,
    setSt_of_ne (e := { mctOf s m with session := none }) hne]
  rfl

theorem mctOf_ctxSuspend_ne {s : State} {m n : Nat} (hm : m < mcxCount) (h : n ≠ m) :
    mctOf (ctxSuspend m s).s n = mctOf s n := by
  cases hmay : maySuspend (mctOf s m) with
  | true => rw [ctxSuspend_of_may hm hmay, mctOf_cmdM_ne _ _ h, mctOf_closeSession_ne _ h]
  | false => rw [ctxSuspend_of_not hm hmay]

/-- Settles O25: the table after the command is the one its handler leaves. -/
theorem suspensionTouchesOneMeter : Obligations.SuspensionTouchesOneMeter := by
  intro s r mcx hacc hm e
  have htaken : ∀ n, mctOf (taken s r) n = mctOf s n := fun n => by rw [mctOf, taken_p, mctOf]
  have hafter : ∀ n, mctOf (done s (carried ciCtxSuspend r (ctxSuspend mcx.toNat (taken s r)))) n =
      mctOf (ctxSuspend mcx.toNat (taken s r)).s n := fun n => by rw [mctOf, done_p, served_p, mctOf]
  refine ⟨_, finish_gmi hacc, fun n hn => ?_, fun hstate => ?_, fun hstate => ?_⟩
  · rw [hafter, mctOf_ctxSuspend_ne hm hn, htaken]
  · have hmay : maySuspend (mctOf (taken s r) mcx.toNat) = true := by
      rw [htaken]
      simpa [maySuspend, or_assoc] using hstate
    rw [hafter, mctOf_ctxSuspend_self hm hmay, htaken, taken_vault]
    rfl
  · have hnot : maySuspend (mctOf (taken s r) mcx.toNat) = false := by
      rw [htaken]
      rcases hstate with h | h | h <;> simp [maySuspend, show (mctOf s mcx.toNat).state = _ from h]
    rw [hafter, ctxSuspend_of_not hm hnot, htaken]

end Sys2Proof.Machine

/-! ## Grants of a member's path (R62 to R64, R77) -/

namespace Sys2Proof.Machine

@[simp] theorem plcPortOf_plcSet_self (s : State) (lp : Nat) (x : PlcPort) : plcPortOf (plcSet s lp x) lp = x :=
  Tbl.getD_set_self s.plc.ports lp x {}

theorem plcPortOf_plcSet_ne (s : State) {lp q : Nat} (x : PlcPort) (h : q ≠ lp) : plcPortOf (plcSet s lp x) q = plcPortOf s q :=
  Tbl.getD_set_ne s.plc.ports x {} h

/-! ### When two schedules meet -/

/-- With periods of powers of two, two grants in force in one superframe meet by their offsets: the shorter period
divides the longer. -/
theorem meets_of_inForce {g h : Grant} {sf : Nat} (hg : ∃ k, g.period = 2 ^ k) (hh : ∃ k, h.period = 2 ^ k)
    (hgf : inForce g sf = true) (hhf : inForce h sf = true) : meets h.period h.offset g.period g.offset = true := by
  obtain ⟨a, ha⟩ := hg
  obtain ⟨b, hb⟩ := hh
  have hmin : min (2 ^ b) (2 ^ a) = 2 ^ min b a := (pow_right_monotone (one_le_two : 1 ≤ 2)).map_min.symm
  have hgo : sf % 2 ^ a = g.offset := by simpa [inForce, ha] using hgf
  have hho : sf % 2 ^ b = h.offset := by simpa [inForce, hb] using hhf
  rw [meets, ha, hb, hmin, ← hgo, ← hho, Nat.mod_mod_of_dvd _ (pow_dvd_pow 2 (min_le_left b a)),
    Nat.mod_mod_of_dvd _ (pow_dvd_pow 2 (min_le_right b a)), beq_iff_eq]

theorem not_meets_of_slotFree {s : State} {lp slot period offset q : Nat} {h : Grant}
    (hfree : slotFree s lp slot period offset = true) (hq : q ∈ sharers s lp) (hh : h ∈ (plcPortOf s q).grants)
    (hslot : slot = h.slot) : meets h.period h.offset period offset = false := by
  have := List.all_eq_true.mp (List.all_eq_true.mp hfree q hq) h hh
  simpa [hslot] using this

/-! ### The slots found -/

/-- Slots for hops at a period and offset: of the CFP, free, and rising. -/
structure SlotsFound (s : State) (lp period offset : Nat) (slots : List Nat) : Prop where
  inCfp : ∀ k ∈ slots, k < slotCount s lp
  free : ∀ k ∈ slots, slotFree s lp k period offset = true
  rising : slots.Pairwise (· < ·)

theorem SlotsFound.sublist {s : State} {lp period offset : Nat} {l slots : List Nat} (h : SlotsFound s lp period offset l)
    (hsub : slots.Sublist l) : SlotsFound s lp period offset slots :=
  ⟨fun k hk => h.inCfp k (hsub.subset hk), fun k hk => h.free k (hsub.subset hk), h.rising.sublist hsub⟩

theorem freeSlots_found {s : State} {lp m period offset n : Nat} {slots : List Nat}
    (h : freeSlots s lp m period offset n = some slots) : SlotsFound s lp period offset slots := by
  have hall : SlotsFound s lp period offset ((List.range (slotCount s lp)).filter (fun k => slotFree s lp k period offset)) :=
    ⟨fun k hk => List.mem_range.mp (List.mem_filter.mp hk).1, fun k hk => (List.mem_filter.mp hk).2,
      List.pairwise_lt_range.filter _⟩
  simp only [freeSlots] at h
  split at h
  · cases h
  · split at h <;> cases h
    · exact hall.sublist ((List.take_sublist _ _).trans List.filter_sublist)
    · exact hall.sublist (List.take_sublist _ _)

theorem findOffset_found {s : State} {lp m period n o : Nat} {l slots : List Nat}
    (h : findOffset s lp m period n l = some (o, slots)) : o ∈ l ∧ SlotsFound s lp period o slots := by
  induction l with
  | nil => cases h
  | cons d l ih =>
    unfold findOffset at h
    split at h
    · next hfree =>
      cases h
      exact ⟨List.mem_cons_self, freeSlots_found hfree⟩
    · obtain ⟨hmem, hfound⟩ := ih h
      exact ⟨List.mem_cons_of_mem _ hmem, hfound⟩

theorem lt_of_mem_offsetOrder {s : State} {m period o : Nat} (h : o ∈ offsetOrder s m period) : o < period := by
  rcases List.mem_append.mp h with h | h
  · exact List.mem_range.mp (List.mem_filter.mp h).1
  · exact List.mem_range.mp h

/-! ### The grants of the hops -/

/-- A hop: its sender, its slot, and the repeater that receives it, none at the channel. -/
abbrev Hop := (Nat × Nat) × Option Nat

/-- The hops of a route over slots. -/
def hopsOf (route slots : List Nat) : List Hop := (route.zip slots).zip ((route.drop 1).map some ++ [none])

/-- A hop's TX grant, and the RX grant of the repeater that receives it. -/
def grantsOfHop (s : State) (lp period offset : Nat) (e : Hop) : List Grant :=
  let upTo := match e.2 with | some r => shortOf s r | none => 0
  let h := hopOf (plcPortOf s lp) (hopKey (shortOf s e.1.1) upTo)
  ⟨e.1.2, true, e.1.1, upTo, period, offset, h.set.zoneMap, h.set.gen⟩ ::
    match e.2 with
    | some r => [⟨e.1.2, false, r, shortOf s e.1.1, period, offset, h.set.zoneMap, h.set.gen⟩]
    | none => []

theorem foldl_append_flatMap {α β : Type} (f : α → List β) (l : List α) (acc : List β) :
    l.foldl (fun acc e => acc ++ f e) acc = acc ++ l.flatMap f := by
  induction l generalizing acc with
  | nil => simp
  | cons e l ih => simp [ih]

theorem hopGrants_eq (s : State) (lp : Nat) (route slots : List Nat) (period offset : Nat) :
    hopGrants s lp route slots period offset = (hopsOf route slots).flatMap (grantsOfHop s lp period offset) := by
  rw [← List.nil_append ((hopsOf route slots).flatMap _), ← foldl_append_flatMap]
  simp only [hopGrants, hopsOf, grantsOfHop, List.append_assoc, List.singleton_append]
  rfl

/-- A hop's grants are all on its slot, with the period and the offset. -/
theorem grantsOfHop_schedule {s : State} {lp period offset : Nat} {e : Hop} {g : Grant}
    (h : g ∈ grantsOfHop s lp period offset e) : g.slot = e.1.2 ∧ g.period = period ∧ g.offset = offset := by
  obtain ⟨⟨m, k⟩, _ | r⟩ := e <;> simp only [grantsOfHop, List.mem_cons, List.not_mem_nil, or_false] at h
  · exact h ▸ ⟨rfl, rfl, rfl⟩
  · rcases h with rfl | rfl <;> exact ⟨rfl, rfl, rfl⟩

/-- One of a hop's grants transmits. -/
theorem txSlots_grantsOfHop (s : State) (lp period offset : Nat) (e : Hop) :
    ((grantsOfHop s lp period offset e).filter (fun g => g.tx)).map (fun g => g.slot) = [e.1.2] := by
  obtain ⟨⟨m, k⟩, _ | r⟩ := e <;> rfl

theorem txSlots_flatMap (s : State) (lp period offset : Nat) (l : List Hop) :
    ((l.flatMap (grantsOfHop s lp period offset)).filter (fun g => g.tx)).map (fun g => g.slot) = l.map (fun e => e.1.2) := by
  induction l with
  | nil => rfl
  | cons e l ih =>
    rw [List.flatMap_cons, List.filter_append, List.map_append, txSlots_grantsOfHop, ih, List.map_cons, List.singleton_append]

theorem map_fst_zip_prefix {α β : Type} (l : List α) (l' : List β) : (l.zip l').map Prod.fst <+: l := by
  induction l generalizing l' with
  | nil => simp
  | cons a l ih => cases l' <;> simp [ih]

theorem map_snd_zip_prefix {α β : Type} (l : List α) (l' : List β) : (l.zip l').map Prod.snd <+: l' := by
  induction l generalizing l' with
  | nil => simp
  | cons a l ih => cases l' <;> simp [ih]

/-- The hops take the slots in order. -/
theorem hopSlots_prefix (route slots : List Nat) : (hopsOf route slots).map (fun e => e.1.2) <+: slots := by
  have hfst : (hopsOf route slots).map (fun e => e.1.2) = ((hopsOf route slots).map Prod.fst).map Prod.snd := by
    rw [List.map_map]
    rfl
  rw [hfst]
  exact ((map_fst_zip_prefix _ _).map Prod.snd).trans (map_snd_zip_prefix _ _)

theorem grantMember_cases (s : State) (lp m : Nat) :
    grantMember s lp m = s ∨
      ∃ o slots members, o < prmN s .plcMaxGrantPeriod lp ∧ SlotsFound s lp (prmN s .plcMaxGrantPeriod lp) o slots ∧
        grantMember s lp m = plcSet s lp { plcPortOf s lp with
          grants := (plcPortOf s lp).grants ++ hopGrants s lp (meterRoute s m 4) slots (prmN s .plcMaxGrantPeriod lp) o
          members := members } := by
  simp only [grantMember]
  split
  · exact .inl rfl
  · split
    · exact .inl rfl
    · split
      · next o slots hfind =>
        obtain ⟨hmem, hfound⟩ := findOffset_found hfind
        exact .inr ⟨o, slots, _, lt_of_mem_offsetOrder hmem, hfound, rfl⟩
      · exact .inl rfl

/-- Settles O26: the new grants are those of the hops over slots found free. -/
theorem grantedSlotsNeverMeet : Obligations.GrantedSlotsNeverMeet := by
  intro s lp m hperiod
  rcases grantMember_cases s lp m with hsame | ⟨o, slots, members, ho, hfound, hgrant⟩
  · exact ⟨[], 0, by simp [hsame]⟩
  · rw [hgrant]
    set period := prmN s .plcMaxGrantPeriod lp
    have hnew : ∀ g ∈ hopGrants s lp (meterRoute s m 4) slots period o,
        g.slot ∈ slots ∧ g.period = period ∧ g.offset = o := by
      intro g hg
      rw [hopGrants_eq, List.mem_flatMap] at hg
      obtain ⟨e, he, hge⟩ := hg
      obtain ⟨hslot, hsched⟩ := grantsOfHop_schedule hge
      exact ⟨(hopSlots_prefix _ _).subset (hslot ▸ List.mem_map_of_mem (f := fun e : Hop => e.1.2) he), hsched⟩
    refine ⟨hopGrants s lp (meterRoute s m 4) slots period o, o, by rw [plcPortOf_plcSet_self],
      fun q hq => plcPortOf_plcSet_ne s _ hq, fun g hg => ?_, ?_, fun g hg q hq h hh hpow hslot sf ⟨hgf, hhf⟩ => ?_⟩
    · obtain ⟨hslot, hper, hoff⟩ := hnew g hg
      exact ⟨hper, hoff, hper ▸ ho, hfound.inCfp _ hslot⟩
    · rw [hopGrants_eq, txSlots_flatMap]
      exact hfound.rising.sublist (hopSlots_prefix _ _).sublist
    · obtain ⟨hmem, hper, hoff⟩ := hnew g hg
      have hmeets := meets_of_inForce (hper ▸ hperiod) hpow hgf hhf
      rw [hper, hoff, not_meets_of_slotFree (hfound.free _ hmem) hq hh hslot] at hmeets
      cases hmeets

end Sys2Proof.Machine

/-! ## Interrupts (R440, R441) -/

namespace Sys2Proof.Machine

theorem irqRaise_of_disabled_or_pending {i : IntSt} {src : Nat} (h : (routeOf i src).enable = false ∨ i.pend.getLsbD src = true) :
    irqRaise i src = i := by
  rcases h with h | h <;> simp [irqRaise, h]

/-- The state of the interrupts with the pending bit of a source set. -/
def withPend (i : IntSt) (src : Nat) : IntSt := { i with pend := i.pend ||| BitVec.ofNat 128 (2 ^ src) }

theorem irqRaise_of_new {i : IntSt} {src : Nat} (hen : (routeOf i src).enable = true) (hnew : i.pend.getLsbD src = false) :
    irqRaise i src =
      if i.globalEn then msixSend (withPend i src) (routeOf i src).func (routeOf i src).entry else withPend i src := by
  simp [irqRaise, withPend, hen, hnew]

section
variable {i : IntSt} {fn : Fin 2} {entry : Nat}

theorem msixSend_of_masked (h : (i.msix.getD (msixKey fn entry) {}).mask = true) :
    msixSend i fn entry = { i with pba := i.pba.set (msixKey fn entry) () } := if_pos h

theorem msixSend_of_unmasked (h : (i.msix.getD (msixKey fn entry) {}).mask = false) :
    msixSend i fn entry =
      { i with sent := i.sent.set (msixKey fn entry) (i.sent.getD (msixKey fn entry) 0 + 1) } :=
  if_neg (Bool.eq_false_iff.mp h)

theorem msixSend_pend (i : IntSt) (fn : Fin 2) (entry : Nat) : (msixSend i fn entry).pend = i.pend := by
  cases h : (i.msix.getD (msixKey fn entry) {}).mask with
  | true => rw [msixSend_of_masked h]
  | false => rw [msixSend_of_unmasked h]

/-- A vector sends one message more, unless it is masked. -/
theorem msixSend_sent (i : IntSt) (fn : Fin 2) (entry n : Nat) :
    (msixSend i fn entry).sent.getD n 0 =
      i.sent.getD n 0 + if n = msixKey fn entry ∧ (i.msix.getD (msixKey fn entry) {}).mask = false then 1 else 0 := by
  cases h : (i.msix.getD (msixKey fn entry) {}).mask with
  | true => simp [msixSend_of_masked h]
  | false =>
    rw [msixSend_of_unmasked h]
    by_cases hn : n = msixKey fn entry
    · simp [hn]
    · simp [hn, Tbl.getD_set_ne _ _ _ hn]

end

theorem irqRaise_pend {i : IntSt} {src : Nat} (hen : (routeOf i src).enable = true) (hnew : i.pend.getLsbD src = false) :
    (irqRaise i src).pend = i.pend ||| BitVec.ofNat 128 (2 ^ src) := by
  rw [irqRaise_of_new hen hnew]
  split
  · exact msixSend_pend ..
  · rfl

theorem getLsbD_ofNat_two_pow (n src : Nat) : (BitVec.ofNat 128 (2 ^ src)).getLsbD n = (decide (n < 128) && decide (src = n)) := by
  rw [BitVec.getLsbD_ofNat, Nat.testBit_two_pow]

/-- Settles O27: a source raised anew sets its bit and no other, and sends on its vector where GLOBAL_EN is set. -/
theorem aRaisedInterruptSendsOneMessage : Obligations.ARaisedInterruptSendsOneMessage := by
  intro i src hsrc r k
  refine ⟨irqRaise_of_disabled_or_pending, fun hen hnew => ⟨?_, fun n hn => ?_, fun n => ?_, fun hglobal hmask => ?_⟩⟩
  · rw [irqRaise_pend hen hnew, BitVec.getLsbD_or, getLsbD_ofNat_two_pow]
    simp [hsrc]
  · rw [irqRaise_pend hen hnew, BitVec.getLsbD_or, getLsbD_ofNat_two_pow]
    simp [hn.symm]
  · rw [irqRaise_of_new hen hnew]
    cases hglobal : i.globalEn with
    | true =>
      rw [if_pos rfl, msixSend_sent]
      simp only [true_and]
      rfl
    | false => simp [withPend]
  · rw [irqRaise_of_new hen hnew, if_pos hglobal, msixSend_of_masked (i := withPend i src) hmask]
    exact Tbl.get?_set_self ..

end Sys2Proof.Machine

/-! ## Async events (R451) -/

namespace Sys2Proof.Machine

theorem satInc_16 (n : Nat) : satInc 16 n = min 65535 (n + 1) := by
  unfold satInc
  split <;> omega

theorem asyncPut_of_full {i : Nat} {b : Mailbox} {m : Msg} (h : b.finals ≠ [] ∨ ringFree b.evtHead b.evtTail < 65) :
    asyncPut i b m = { b with dropped := satInc 16 b.dropped, evtDropped := true, lostNext := true } :=
  if_pos (by simpa using h)

theorem asyncPut_of_room {i : Nat} {b : Mailbox} {m : Msg} (hfinals : b.finals = []) (hroom : 65 ≤ ringFree b.evtHead b.evtTail) :
    asyncPut i b m = evtPut i b m := by
  simp [asyncPut, hfinals, Nat.not_lt.mpr hroom]

theorem evtPut_event (i : Nat) (b : Mailbox) (m : Msg) :
    (evtPut i b m).evtRing = b.evtRing ++ [{ m with lost := b.lostNext }] ∧ (evtPut i b m).dropped = b.dropped ∧
      (evtPut i b m).lostNext = false := by
  unfold evtPut
  dsimp only
  split <;> exact ⟨rfl, rfl, rfl⟩

/-- Settles O28: by whether the event finds room. -/
theorem aDroppedEventIsCountedAndMarked : Obligations.ADroppedEventIsCountedAndMarked := by
  refine fun i b m => ⟨fun hfull => ?_, fun hfinals hroom => ?_⟩
  · rw [asyncPut_of_full hfull]
    exact ⟨rfl, rfl, satInc_16 _, rfl, rfl⟩
  · rw [asyncPut_of_room hfinals hroom]
    exact evtPut_event i b m

end Sys2Proof.Machine

/-! ## Which queues an access touches (R417, R420 to R424) -/

namespace Sys2Proof.Machine

/-- From `s` to `t` no queue changes but `q` and the queue it names for completion items, and it names the same. -/
structure SparesOthers (q : Nat) (s t : State) : Prop where
  others : ∀ n, n ≠ q → n ≠ (qOf s q).complQueue → qOf t n = qOf s n
  compl : (qOf t q).complQueue = (qOf s q).complQueue

section
variable {q : Nat} {s t u : State}

theorem SparesOthers.refl (q : Nat) (s : State) : SparesOthers q s s := ⟨fun _ _ _ => rfl, rfl⟩

theorem SparesOthers.trans (hst : SparesOthers q s t) (htu : SparesOthers q t u) : SparesOthers q s u where
  others n hq hc := (htu.others n hq (by rwa [hst.compl])).trans (hst.others n hq hc)
  compl := htu.compl.trans hst.compl

theorem sparesOthers_of_qs_eq (h : t.q.qs = s.q.qs) : SparesOthers q s t where
  others n _ _ := by rw [qOf, qOf, h]
  compl := by rw [qOf, qOf, h]

theorem sparesOthers_qPut {x : Queue} (hx : x.complQueue = (qOf s q).complQueue) : SparesOthers q s (qPut s q x) where
  others n hq _ := qOf_qPut_ne s x hq
  compl := by rw [qOf_qPut_self, hx]

theorem SparesOthers.poolFail (h : SparesOthers q s t) : SparesOthers q s (poolFail t) :=
  h.trans (sparesOthers_of_qs_eq rfl)

theorem complQueue_qPut {s : State} {c : Nat} {x : Queue} (hx : x.complQueue = (qOf s c).complQueue) (n : Nat) :
    (qOf (qPut s c x) n).complQueue = (qOf s n).complQueue := by
  by_cases hn : n = c
  · rw [hn, qOf_qPut_self, hx]
  · rw [qOf_qPut_ne s _ hn]

/-- The completion item goes into the queue named for it, be it `q` itself. -/
theorem sparesOthers_qItem {words : List Nat} (h : qItem s (qOf s q).complQueue words = some t) : SparesOthers q s t := by
  simp only [qItem] at h
  split at h <;> cases h
  exact ⟨fun n _ hc => qOf_qPut_ne s _ hc, complQueue_qPut (by rfl) q⟩

/-! ### Writers, consumers, control -/

theorem sparesOthers_qOpen (s : State) (q w : Nat) : SparesOthers q s (qOpen s q w) := by
  unfold qOpen
  dsimp only
  split
  · exact sparesOthers_qPut rfl
  · split
    · exact sparesOthers_qPut rfl
    · split
      · exact SparesOthers.poolFail (sparesOthers_qPut rfl)
      · exact sparesOthers_qPut rfl

theorem sparesOthers_qPush (s : State) (q w v : Nat) : SparesOthers q s (qPush s q w v) := by
  unfold qPush
  dsimp only
  split
  · exact sparesOthers_qPut rfl
  · split
    · exact sparesOthers_qPut rfl
    · split
      · exact SparesOthers.poolFail (sparesOthers_qPut rfl)
      · exact sparesOthers_qPut rfl

theorem sparesOthers_qClose (s : State) (q w h : Nat) : SparesOthers q s (qClose s q w h) := by
  unfold qClose
  dsimp only
  split
  · exact sparesOthers_qPut rfl
  · split
    · exact sparesOthers_qPut rfl
    · split <;> exact sparesOthers_qPut rfl

theorem sparesOthers_qPop (s : State) (q : Nat) : SparesOthers q s (qPop s q) := by
  unfold qPop
  dsimp only
  split
  · exact sparesOthers_qPut rfl
  · refine sparesOthers_qPut ?_
    split <;> rfl

theorem sparesOthers_qFlushEff (s : State) (q : Nat) : SparesOthers q s (qFlushEff s q) := sparesOthers_qPut rfl

theorem sparesOthers_qDisableEff (s : State) (q : Nat) : SparesOthers q s (qDisableEff s q) := sparesOthers_qPut rfl

theorem sparesOthers_qEnableEff (s : State) (q : Nat) : SparesOthers q s (qEnableEff s q) := by
  unfold qEnableEff
  dsimp only
  split
  · exact .refl q s
  · exact sparesOthers_qPut rfl

theorem sparesOthers_qOwnerSet (s : State) (q owner : Nat) : SparesOthers q s (qOwnerSet s q owner) := by
  unfold qOwnerSet
  dsimp only
  split
  · split
    · exact .refl q s
    · exact sparesOthers_qPut rfl
  · exact .refl q s

theorem sparesOthers_clearPeak (s : State) (q : Nat) : SparesOthers q s (clearPeak s q) := by
  unfold clearPeak
  split
  · exact sparesOthers_of_qs_eq rfl
  · constructor
    · intro n hq _
      simp only [qOf, Tbl.getD, Tbl.get?_modify_ne _ _ hq]
    · simp only [qOf, Tbl.getD, Tbl.get?_modify_self]
      cases s.q.qs.get? q <;> rfl

/-! ### Judging launch times -/

theorem sparesOthers_qDropHead (s : State) (q : Nat) (sent : Bool) : SparesOthers q s (qDropHead s q sent) := by
  simp only [qDropHead, qPopItem]
  split
  · next heq =>
    split at heq <;> cases heq
    exact sparesOthers_qPut rfl
  · exact .refl q s

/-- A frame dropped as late leaves its mark and, where asked for, its completion item. -/
theorem sparesOthers_complItem {s t : State} {q : Nat} (hst : SparesOthers q s t) (words : List Nat) :
    SparesOthers q s (if !(qOf s q).complEn then t
      else match qItem t (qOf s q).complQueue words with
        | some u => u
        | none => qPut t q { qOf t q with complLost := true }) := by
  split
  · exact hst
  · split
    · next hitem =>
      rw [← hst.compl] at hitem
      exact hst.trans (sparesOthers_qItem hitem)
    · exact hst.trans (sparesOthers_qPut rfl)

theorem sparesOthers_qSettle (q n : Nat) (s : State) : SparesOthers q s (qSettle q n s) := by
  induction n generalizing s with
  | zero => exact .refl q s
  | succ n ih =>
    unfold qSettle
    dsimp only
    split
    · exact .refl q s
    · split
      · exact .refl q s
      · split
        · exact (sparesOthers_qDropHead s q true).trans (ih _)
        · split
          · split
            · have hmark : SparesOthers q s (qPut (qDropHead s q false) q { qOf (qDropHead s q false) q with lateDropped := true }) :=
                (sparesOthers_qDropHead s q false).trans (sparesOthers_qPut rfl)
              exact (sparesOthers_complItem hmark _).trans (ih _)
            · exact (sparesOthers_qDropHead s q true).trans (ih _)
          · exact .refl q s

theorem sparesOthers_qSettled (s : State) (q : Nat) : SparesOthers q s (qSettled s q) := sparesOthers_qSettle q _ s

/-! ### Accesses -/

theorem sparesOthers_violWrite (q : Nat) (s : State) (fn : Fin 2) (offset size kind : Nat) :
    SparesOthers q s (violWrite s fn offset size kind) :=
  sparesOthers_of_qs_eq (congrArg QueueSt.qs (emit1_q s _))

theorem sparesOthers_violRead (q : Nat) (s : State) (fn : Fin 2) (offset size kind : Nat) :
    SparesOthers q s (violRead s fn offset size kind) := by
  refine sparesOthers_of_qs_eq (congrArg QueueSt.qs ?_)
  unfold violRead
  dsimp only
  split <;> exact emit1_q s _

theorem sparesOthers_qPortWrite (fn : Fin 2) (off : Nat) {f : State → State} (hf : SparesOthers q s (f s)) :
    SparesOthers q s (qPortWrite fn q off f s) := by
  unfold qPortWrite
  split
  · exact sparesOthers_violWrite ..
  · exact hf.trans (sparesOthers_qSettled _ q)

theorem sparesOthers_qCtrlWrite (fn : Fin 2) {f : State → State} (hf : SparesOthers q s (f s)) :
    SparesOthers q s (qCtrlWrite fn q f s) := by
  unfold qCtrlWrite
  split
  · exact sparesOthers_violWrite ..
  · exact hf

theorem sparesOthers_qPopEff (fn : Fin 2) (q : Nat) (s : State) : SparesOthers q s (qPopEff fn q s) := by
  unfold qPopEff
  split
  · exact sparesOthers_violRead ..
  · exact (sparesOthers_qPop s q).trans (sparesOthers_qSettled _ q)

theorem sparesOthers_qOwnerWriteEff (fn : Fin 2) (q owner : Nat) (s : State) : SparesOthers q s (qOwnerWriteEff fn q owner s) := by
  unfold qOwnerWriteEff
  split
  · exact sparesOthers_violWrite ..
  · split
    · exact sparesOthers_violWrite ..
    · exact sparesOthers_qOwnerSet s q owner

theorem sparesOthers_peakCellsReadEff (fn : Fin 2) (q : Nat) (full : Bool) (s : State) :
    SparesOthers q s (peakCellsReadEff fn q full s) := by
  unfold peakCellsReadEff
  split
  · exact sparesOthers_violRead ..
  · dsimp only
    split
    · exact sparesOthers_clearPeak s q
    · exact (sparesOthers_clearPeak s q).trans (sparesOthers_of_qs_eq rfl)

/-- An access of a function touches as little as its effect does. -/
theorem SparesOthers.of_access {q : Nat} {s t x : State} {fn : Fin 2} (hx : SparesOthers q (acc s fn) x)
    (h : finish s (if alive s then x else s) = .next t) : SparesOthers q s t := by
  have hs : SparesOthers q s (if alive s then x else s) := by
    split
    · exact SparesOthers.trans (t := acc s fn) (sparesOthers_of_qs_eq rfl) hx
    · exact .refl q s
  rw [finish_next h]
  exact hs.trans (sparesOthers_of_qs_eq rfl)

end

/-- Settles O29: each access, by what its effect touches. -/
theorem aQueueAccessTouchesItsQueueOnly : Obligations.AQueueAccessTouchesItsQueueOnly := by
  intro s t fn q v owner full n hq hc h
  suffices hst : SparesOthers q.val s t from hst.others n hq hc
  rcases h with h | h | h | h | h | h | h | h | h
  · exact (sparesOthers_qPortWrite fn 0 (sparesOthers_qOpen _ _ _)).of_access h
  · exact (sparesOthers_qPortWrite fn 8 (sparesOthers_qPush _ _ _ _)).of_access h
  · exact (sparesOthers_qPortWrite fn 16 (sparesOthers_qClose _ _ _ _)).of_access h
  · exact (sparesOthers_qPopEff fn _ _).of_access h
  · exact (sparesOthers_qCtrlWrite fn (sparesOthers_qFlushEff _ _)).of_access h
  · exact (sparesOthers_qCtrlWrite fn (sparesOthers_qEnableEff _ _)).of_access h
  · exact (sparesOthers_qCtrlWrite fn (sparesOthers_qDisableEff _ _)).of_access h
  · exact (sparesOthers_qOwnerWriteEff fn _ _ _).of_access h
  · exact (sparesOthers_peakCellsReadEff fn _ full _).of_access h

end Sys2Proof.Machine

/-! ## The recorder's write port (R350, R354, R365) -/

namespace Sys2Proof.Machine

/-- A record is always kept, or its source has some of its share left, or none. -/
theorem share_cases (limit : Nat) (r : RecSt) (x : Rec) :
    recUnsuppressed x.src x.code = true ∨
      (recUnsuppressed x.src x.code = false ∧ r.perSource.getD x.src 0 < limit) ∨
      (recUnsuppressed x.src x.code = false ∧ limit ≤ r.perSource.getD x.src 0) := by
  cases recUnsuppressed x.src x.code <;> simp [lt_or_ge]

section
variable {limit : Nat} {r : RecSt} {x : Rec} (hrun : r.state ≠ .stopped)
include hrun

theorem recPush_of_unsuppressed (hkeep : recUnsuppressed x.src x.code = true) :
    recPush limit r x = { r with port := r.port ++ [x] } := by
  simp [recPush, hrun, hkeep]

theorem recPush_of_share (hshare : recUnsuppressed x.src x.code = false) (hleft : r.perSource.getD x.src 0 < limit) :
    recPush limit r x =
      { r with port := r.port ++ [x], perSource := r.perSource.set x.src (r.perSource.getD x.src 0 + 1) } := by
  simp [recPush, hrun, hshare, hleft]

theorem recPush_of_beyond (hshare : recUnsuppressed x.src x.code = false) (hused : limit ≤ r.perSource.getD x.src 0) :
    recPush limit r x =
      { r with
        overSource := r.overSource.set x.src (r.overSource.getD x.src 0 + 1), suppressed := r.suppressed + 1, stSuppressed := true } := by
  simp [recPush, hrun, hshare, Nat.not_lt.mpr hused]

theorem recPush_others {n : Nat} (hn : n ≠ x.src) :
    (recPush limit r x).overSource.getD n 0 = r.overSource.getD n 0 ∧
      (recPush limit r x).perSource.getD n 0 = r.perSource.getD n 0 := by
  rcases share_cases limit r x with hkeep | ⟨hshare, hleft⟩ | ⟨hshare, hused⟩
  · rw [recPush_of_unsuppressed hrun hkeep]
    exact ⟨rfl, rfl⟩
  · rw [recPush_of_share hrun hshare hleft]
    exact ⟨rfl, Tbl.getD_set_ne _ _ _ hn⟩
  · rw [recPush_of_beyond hrun hshare hused]
    exact ⟨Tbl.getD_set_ne _ _ _ hn, rfl⟩

end

/-- Settles O30: by what becomes of the record. -/
theorem recorderKeepsEachSourcesShare : Obligations.RecorderKeepsEachSourcesShare := by
  refine fun limit r x hrun => ⟨fun hjoin => ?_, fun hshare hused => ?_, fun n hn => recPush_others hrun hn⟩
  · cases hkeep : recUnsuppressed x.src x.code with
    | true =>
      rw [recPush_of_unsuppressed hrun hkeep]
      exact ⟨rfl, rfl, rfl⟩
    | false =>
      rw [recPush_of_share hrun hkeep (hjoin.resolve_left (by simp [hkeep]))]
      exact ⟨rfl, rfl, rfl⟩
  · rw [recPush_of_beyond hrun hshare hused]
    exact ⟨rfl, rfl, rfl, Tbl.getD_set_self ..⟩

end Sys2Proof.Machine

/-! ## The update lock (R373, R375) -/

namespace Sys2Proof.Machine

/-- A request changes the update only through the handler of an accepted one. -/
theorem gmi_upd {ci : CmdInfo} {r : Req} {h : State → Reply} {s : State} (hkeep : (h (taken s r)).s.upd = (taken s r).upd) :
    (gmi ci r h s).upd = s.upd := by
  rcases gmiT_cases ci noTable r h s with hid | ⟨st, -, hdeny⟩ | ⟨-, hserve⟩
  · rw [show gmi ci r h s = _ from hid]
  · rw [show gmi ci r h s = _ from hdeny, answer_upd, emitAll_upd, taken_upd]
  · rw [show gmi ci r h s = _ from hserve, served_upd, hkeep, taken_upd]

theorem updHeld_of_not_holder {r : Req} {s : State} (hholder : s.upd.holder ≠ r.mb.val) (phases : List UpdPhase) (h : State → Reply) :
    (updHeld r phases h s).s = s := by
  unfold updHeld
  split
  · rfl
  · split <;> rfl

theorem updAbort_of_not_holder {r : Req} {s : State} (hholder : s.upd.holder ≠ r.mb.val) (hmb : r.mb.val ≠ 0) :
    (updAbort r s).s = s := by
  unfold updAbort
  split
  · rfl
  · split
    · rfl
    · rw [if_pos (by simp [hholder, hmb])]
      rfl

/-- Settles O31: from a mailbox that does not hold the lock each handler leaves the state. -/
theorem theUpdateLockKeepsOthersOut : Obligations.TheUpdateLockKeepsOthersOut := by
  intro s t r index len hholder h
  have htaken : (taken s r).upd.holder ≠ r.mb.val := by rwa [taken_upd]
  rcases h with h | h | h | ⟨hmb, h⟩ <;> rw [finish_next (s := s) h, done_upd]
  · exact gmi_upd (by rw [updHeld_of_not_holder htaken])
  · exact gmi_upd (by rw [updHeld_of_not_holder htaken])
  · exact gmi_upd (by rw [updHeld_of_not_holder htaken])
  · exact gmi_upd (by rw [updAbort_of_not_holder htaken hmb])

end Sys2Proof.Machine

/-! ## Steps, and requests that are not taken -/

namespace Sys2Proof.Machine

/-- Settles O1: a step takes the front of the queue off and runs it. -/
theorem stepRunsTheFrontCommand : Obligations.StepRunsTheFrontCommand := fun _ _ _ => rfl

/-- Settles O2: without a command the step is the idle cycle. -/
theorem anEmptyQueueLetsOneCyclePass : Obligations.AnEmptyQueueLetsOneCyclePass := by
  intro s hpending
  have hidle : step s = idleCycle s := by rw [step, hpending]
  rw [hidle]
  rfl

/-- Settles O5, by evaluation of the reset state. -/
theorem outputsFollowAtReset : Obligations.OutputsFollowAtReset :=
  ⟨by decide, by decide, by decide⟩

/-- What R447 asks of a mailbox before a request of it is taken. -/
theorem mailbox_of_canTake {s : State} {r : Req} (h : canTake s r = true) :
    65 ≤ ringFree (boxOf s.mb r.mb.val).rspHead (boxOf s.mb r.mb.val).rspTail ∧
      (boxOf s.mb r.mb.val).rspWait = [] ∧ (boxOf s.mb r.mb.val).pend.length < 32 := by
  simp only [canTake, Bool.and_eq_true, decide_eq_true_eq, List.isEmpty_iff] at h
  tauto

/-- Settles O11: R447 is part of `canTake`, and a request that is not taken is not served. -/
theorem requestNotTakenChangesNothing : Obligations.RequestNotTakenChangesNothing :=
  ⟨fun _ _ h => mailbox_of_canTake h, fun _ _ _ _ _ h => gmiT_not_taken h⟩

end Sys2Proof.Machine

/-! ## Commands that take place: boots, resets and errors -/

namespace Sys2Proof.Machine

/-- A meaning whose condition holds is its effect, in whatever form the effect is known. -/
theorem finish_if_eq {c : Prop} [Decidable c] {s a b x : State} (h : c) (hx : a = x) :
    finish s (if c then a else b) = .next (done s x) := by
  rw [finish_if h, hx]

theorem rstNEff_of_pfw {s : State} (h : s.boot.pfw) :
    rstNEff s = { s with boot := { s.boot with held := true } } := if_pos h

theorem rstNEff_of_not_pfw {s : State} (h : s.boot.pfw = false) :
    rstNEff s = warmReset 2 { s with boot := { s.boot with bootFails := 0 } } := if_neg (by simp [h])

/-- Settles O33: each command's condition is the guard of its meaning; only RST_N's effect depends on a pin. -/
theorem bootAndResetsComplete : Obligations.BootAndResetsComplete := by
  intro s
  exact ⟨fun _ _ => rfl,
    fun _ hrun hext => finish_if (by simp [hrun, hext]),
    fun _ _ h => finish_if h,
    fun _ h => finish_if h,
    fun h => finish_if h,
    fun h => finish_if h,
    fun hpow hpfw => finish_if_eq hpow (rstNEff_of_pfw hpfw),
    fun hpow hpfw => finish_if_eq hpow (rstNEff_of_not_pfw hpfw),
    fun h => finish_if h,
    fun _ h => finish_if h,
    fun h => finish_if h,
    fun _ => rfl,
    fun _ h => finish_if h,
    fun _ _ h => finish_if h,
    fun h => finish_if h,
    fun _ _ h => finish_if h,
    fun _ _ h => finish_if h,
    fun _ _ _ h => finish_if h⟩

theorem firstInfoAckEff_of_class {cls : Fin 18} (s : State) (h : cls ≠ 0) :
    firstInfoAckEff 0 cls s = { s with err := { s.err with
      sets := s.err.sets.set cls.val { capOf s.err cls.val with valid := false, count := 0 } } } := by
  rw [firstInfoAckEff, if_neg (by decide), if_neg h]

/-- Settles O34; of the self-test's outcomes the failure keeps the date, and each Warden its own part. -/
theorem errorEventsComplete : Obligations.ErrorEventsComplete := by
  intro s
  exact ⟨fun _ h => finish_if h,
    fun _ _ h => finish_if h,
    fun pairB pass h => finish_if_eq h (by cases pairB <;> cases pass <;> rfl),
    fun cls h hcls => finish_if_eq h (firstInfoAckEff_of_class (acc s 0) hcls),
    fun _ _ h => finish_if h,
    fun _ h => finish_if h,
    fun _ _ _ _ h => finish_if h⟩

end Sys2Proof.Machine

/-! ## Commands that take place: accesses, sessions and Ethernet -/

namespace Sys2Proof.Machine

theorem mbDoorbellEff_plain {fn : Fin 2} {m : Fin 8} {s : State} (h : mbViol s fn m = none) (producer : Word32) :
    mbDoorbellEff fn m producer .plain s =
      { s with mb := mbSet s.mb m.val { boxOf s.mb m.val with reqProd := producer } } := by
  rw [mbDoorbellEff, h]; rfl

theorem mbEnableEff_starts {fn : Fin 2} {m : Fin 8} {s : State} (h : mbViol s fn m = none)
    (hoff : (boxOf s.mb m.val).enable = false) (hmay : mayEnable s m) :
    mbEnableEff fn m s = { s with mb := mbSet s.mb m.val (boxStart (boxOf s.mb m.val)) } := by
  rw [mbEnableEff, h]; exact if_neg (by simp [hoff, hmay])

theorem mbDisableEff_stops {fn : Fin 2} {m : Fin 8} {s : State} (h : mbViol s fn m = none)
    (hon : (boxOf s.mb m.val).enable = true) :
    mbDisableEff fn m s = { s with mb := mbSet s.mb m.val (boxStop (boxOf s.mb m.val)) } := by
  rw [mbDisableEff, h]; exact if_pos hon

theorem mbRspTailEff_allowed {fn : Fin 2} {m : Fin 8} {s : State} (h : mbViol s fn m = none) (index : Word32) :
    mbRspTailEff fn m index s =
      (let b := boxOf s.mb m.val
       let b1 := { b with rspTail := index, rspRing := ringKeep b.rspRing (b.rspHead - index).toNat }
       mbUpd s m.val (if b.enable then rspPump m.val b1 b.rspWait else b1)) := by
  rw [mbRspTailEff, h]

theorem mbEvtTailEff_allowed {fn : Fin 2} {m : Fin 8} {s : State} (h : mbViol s fn m = none) (index : Word32) :
    mbEvtTailEff fn m index s =
      (let b := boxOf s.mb m.val
       let b1 := { b with evtTail := index, evtRing := ringKeep b.evtRing (b.evtHead - index).toNat }
       mbUpd s m.val (if b.enable then evtPump m.val b1 b.finals else b1)) := by
  rw [mbEvtTailEff, h]

/-- A chain is broken off by any other TAG, the next one here. -/
theorem chainTimeoutEff_of_chain {m : Fin 8} {tag : Word16} {had : Nat} {s : State}
    (h : (boxOf s.mb m.val).reqChain = some (tag, had)) :
    chainTimeoutEff m s = mbUpd s m.val (rspWrite m.val (mbAlive s.mb m.val 0)
      { boxOf s.mb m.val with reqChain := none, badRequest := true }
      ⟨false, false, false, 0, tag, 0, .badParam, 0, false, [], 1⟩) := by
  simp [chainTimeoutEff, breakChain, h]

theorem regWriteEff_ok {fn : Fin 2} {a size : Nat} {v : Word64} {s : State} {p : BarPlace} {r : RegRow}
    (h : regAccess s fn a size true = .ok (p, r)) :
    regWriteEff fn a size v s =
      placeWrite s fn a size p v (mergeReg (BitVec.ofNat 64 r.val) (maskOfAcc a size) (laneOfAcc a size v))
        (maskOfAcc a size) (laneOfAcc a size v) := by
  rw [regWriteEff, h]

theorem readEff_violates {fn : Fin 2} {a size kind : Nat} {s : State} (h : regAccess s fn a size false = .error kind) :
    readEff fn a size s = violRead s fn a size kind := by
  rw [readEff, h]

/-- A meaning with the bound of BAR0 before it, on an offset inside. -/
theorem finish_inBar0 {offset : Nat} {c : Prop} [Decidable c] {s a b x : State} (hoff : offset < barSize) (h : c) (hx : a = x) :
    (if barSize ≤ offset then .fault .outsideBar0 else finish s (if c then a else b)) = .next (done s x) := by
  rw [if_neg (Nat.not_le.mpr hoff), finish_if_eq h hx]

/-- Settles O35: an access that violates nothing has its register's effect; `acc` leaves mailboxes and rules alone. -/
theorem hostAccessesComplete : Obligations.HostAccessesComplete := by
  intro s
  exact ⟨fun fn _ producer h hviol => finish_if_eq h (mbDoorbellEff_plain (s := acc s fn) hviol producer),
    fun fn _ h hviol hoff hmay => finish_if_eq h (mbEnableEff_starts (s := acc s fn) hviol hoff hmay),
    fun fn _ h hviol hon => finish_if_eq h (mbDisableEff_stops (s := acc s fn) hviol hon),
    fun fn _ index h hviol => finish_if_eq h (mbRspTailEff_allowed (s := acc s fn) hviol index),
    fun fn _ index h hviol => finish_if_eq h (mbEvtTailEff_allowed (s := acc s fn) hviol index),
    fun _ _ _ h hchain => finish_if_eq h (chainTimeoutEff_of_chain hchain),
    fun _ _ h => ⟨finish_if h, finish_if h⟩,
    fun _ _ _ h => finish_if h,
    fun _ _ _ _ _ _ hoff h hacc => finish_inBar0 hoff h (regWriteEff_ok hacc),
    fun _ _ _ _ hoff h hacc => finish_inBar0 hoff h (readEff_violates hacc),
    fun _ _ hoff h => finish_inBar0 hoff h rfl⟩

theorem tlsBeginEff_of_room {s : State} (heg : egressOk s) (hact : notActive s = false) (hcert : 0 ≤ prm s .tlsCertChain)
    (hroom : tlsRoom s.mb) (port : Fin 2) (identity : Word32) :
    tlsBeginEff port identity s =
      { s with mb := { s.mb with handshakes := s.mb.handshakes ++ [(port, identity.toNat)] } } := by
  rw [tlsBeginEff, if_neg (by simp [heg, hact, hcert]), if_pos hroom]

theorem tlsDoneEff_of_anchor {s : State} {port : Fin 2} {identity : Word32}
    (hopen : s.mb.handshakes.contains (port, identity.toNat)) (heg : egressOk s) (hact : notActive s = false) (anchor : Word32) :
    tlsDoneEff port identity (some anchor) s =
      tlsBind port identity anchor
        { s with mb := { s.mb with handshakes := s.mb.handshakes.erase (port, identity.toNat) } } := by
  rw [tlsDoneEff, if_pos hopen]
  exact if_pos (by simp [heg, hact])

theorem tunnelGmiFrameEff_of_credit {s : State} {sess : Nat} {t : TlsSess} (ht : s.mb.tls.get? sess = some t)
    (hcredit : t.outstanding < prmN s .mbTunnelOutstanding) (tag : Word16) (ndesc : Nat) (note : ReadyNote) :
    tunnelGmiFrameEff sess tag ndesc note s =
      noteEff (arrive { s with mb := { s.mb with 
        tls := s.mb.tls.set sess { t with
          lastRecNs := s.time.mc, recvRecs := t.recvRecs + 1, outstanding := t.outstanding + 1 } } }
        t.mb.val sess tag ndesc) t.mb.val note := by
  simp only [tunnelGmiFrameEff, ht, if_pos hcredit, Tbl.set_set]

theorem tunnelFrameInvalidEff_of_session {s : State} {sess : Nat} {t : TlsSess} (ht : s.mb.tls.get? sess = some t) :
    tunnelFrameInvalidEff sess s =
      (let p := ethPort s.eth t.port.val
       tlsClose { s with
        eth := ethSet s.eth t.port.val { p with decodeErrors := p.decodeErrors + 1 }
        mb := { s.mb with alerts := s.mb.alerts.set t.port.val (s.mb.alerts.getD t.port.val 0 + 1) } } sess) := by
  rw [tunnelFrameInvalidEff, ht]

/-- Settles O36: an event that finds its session, handshake or port in the state has its effect. -/
theorem sessionsAndEthernetComplete : Obligations.SessionsAndEthernetComplete := by
  intro s
  exact ⟨fun port identity h heg hact hcert hroom => finish_if_eq h (tlsBeginEff_of_room heg hact hcert hroom port identity),
    fun _ _ anchor h hopen heg hact => finish_if_eq h (tlsDoneEff_of_anchor hopen heg hact anchor),
    fun _ _ h => finish_if h,
    fun _ h => finish_if h,
    fun _ h => finish_if h,
    fun _ tag ndesc note _ h ht hcredit => finish_if_eq h (tunnelGmiFrameEff_of_credit ht hcredit tag ndesc note),
    fun _ h => finish_if h,
    fun _ _ h ht => finish_if_eq h (tunnelFrameInvalidEff_of_session ht),
    fun _ h => finish_if h,
    fun _ h => finish_if h,
    fun _ _ _ _ h => finish_if h,
    fun _ _ h => finish_if h,
    fun _ h => finish_if h⟩

end Sys2Proof.Machine

/-! ## Commands that take place: time and PTP -/

namespace Sys2Proof.Machine

theorem incrWriteEff_exact {s : State} {reg : Fin 3} {part : RegPart} {value : Word64} (hown : s.time.hostOwner)
    (hexact : incrAsked (incrOf s.time reg).val part value.toNat = (incrWrite (incrOf s.time reg) part value.toNat).val) :
    incrWriteEff 0 reg part value s =
      { s with time := { incrSet s.time reg (incrWrite (incrOf s.time reg) part value.toNat) with watchdogNs := 0 } } := by
  simp [incrWriteEff, hown, hexact]

theorem incrWriteEff_clipped {s : State} {reg : Fin 3} {part : RegPart} {value : Word64} (hown : s.time.hostOwner)
    (hclip : incrAsked (incrOf s.time reg).val part value.toNat ≠ (incrWrite (incrOf s.time reg) part value.toNat).val) :
    incrWriteEff 0 reg part value s =
      timeTrouble { s with time :=
          { incrSet s.time reg (incrWrite (incrOf s.time reg) part value.toNat) with watchdogNs := 0 } }
        (incrOffset reg + partOff part) (accByte 2 0 true) .badParam reg.val 1 := by
  simp [incrWriteEff, hown, hclip]

theorem servoViol_of_owner {s : State} (hown : s.time.hostOwner) : servoViol s 0 = none := by
  simp [servoViol, hown]

theorem adjLowWriteEff_of_owner {s : State} (hown : s.time.hostOwner) (d : Dom) (value : Word32) :
    adjLowWriteEff 0 d value s = { s with time := latchSet s.time d (some value) } := by
  rw [adjLowWriteEff, servoViol_of_owner hown]

theorem adjWriteEff_of_owner {s : State} (hown : s.time.hostOwner) (d : Dom) (highOnly : Bool) (value : Word64) :
    adjWriteEff 0 d highOnly value s =
      { s with time := latchSet (domStep s.time d (adjValue (latchOf s.time d) highOnly value)) d none } := by
  rw [adjWriteEff, servoViol_of_owner hown]

/-- Settles O37: the servo registers' writes are those of their owner, the host. -/
theorem tickAndClocksComplete : Obligations.TickAndClocksComplete := by
  intro s
  exact ⟨fun _ h => finish_if h,
    fun h => finish_if h,
    fun _ h => finish_if h,
    fun h => finish_if h,
    fun h => finish_if h,
    fun _ h => finish_if h,
    fun _ _ _ h hown hexact => finish_if_eq h (incrWriteEff_exact (s := acc s 0) hown hexact),
    fun _ _ _ h hown hclip => finish_if_eq h (incrWriteEff_clipped (s := acc s 0) hown hclip),
    fun d value h hown => finish_if_eq h (adjLowWriteEff_of_owner (s := acc s 0) hown d value),
    fun d highOnly value h hown => finish_if_eq h (adjWriteEff_of_owner (s := acc s 0) hown d highOnly value),
    fun _ _ h => finish_if h,
    fun _ h => finish_if h,
    fun h => finish_if h⟩

/-- A meaning whose second condition holds as well. -/
theorem finish_if_if {c d : Prop} [Decidable c] [Decidable d] {s a b e : State} (h : c) (k : d) :
    finish s (if c then (if d then a else b) else e) = .next (done s a) := finish_if_eq h (if_pos k)

/-- A meaning whose second condition fails. -/
theorem finish_if_if_not {c d : Prop} [Decidable c] [Decidable d] {s a b e : State} (h : c) (k : ¬d) :
    finish s (if c then (if d then a else b) else e) = .next (done s b) := finish_if_eq h (if_neg k)

/-- Settles O38; a port's counters are no part of the time that the next step reads. -/
theorem ptpComplete : Obligations.PtpComplete := by
  intro s
  exact ⟨fun _ _ h => finish_if h,
    fun _ _ _ h => finish_if h,
    fun _ _ h => finish_if h,
    fun _ h => finish_if h,
    fun _ h hen hpeer => finish_if_if h (by simpa [hen] using hpeer),
    fun _ _ h => finish_if h,
    fun _ h hprof hen => finish_if_if h (Bool.and_eq_true_iff.mpr ⟨decide_eq_true hprof, decide_eq_true hen⟩),
    fun _ _ h => finish_if h,
    fun _ h => finish_if h,
    fun h heg hone => finish_if_if (by simp [h, heg]) hone,
    fun h heg hone => finish_if_if_not (by simp [h, heg]) hone,
    fun x h heg hsel => finish_if_eq (by simp [h, heg]) (by rw [hsel]),
    fun _ h heg => finish_if_if h heg,
    fun h => finish_if h,
    fun h hhold hsync => finish_if (by simp [h, hhold, hsync]),
    fun h => finish_if h⟩

/-- Settles O39: an accepted request is served by its handler. -/
theorem timeRequestsServed : Obligations.TimeRequestsServed := by
  intro s
  exact ⟨fun _ h => finish_gmi h,
    fun _ _ _ _ _ _ _ h => finish_gmi h,
    fun _ _ h => finish_gmi h,
    fun _ _ h => finish_gmi h,
    fun _ h => finish_gmi h,
    fun _ _ h => finish_gmi h⟩

end Sys2Proof.Machine

/-! ## Commands that take place: links and cells -/

namespace Sys2Proof.Machine

/-- Settles O40: each event's condition is the guard of its meaning. -/
theorem plcScheduleComplete : Obligations.PlcScheduleComplete := by
  intro s
  exact ⟨fun _ _ h => finish_if h,
    fun _ h => finish_if h,
    fun _ h => finish_if h,
    fun _ _ _ h => finish_if h,
    fun _ _ h => finish_if h,
    fun _ h => finish_if h,
    fun _ h => finish_if h⟩

/-- Settles O41: each event's condition is the guard of its meaning. -/
theorem plcFramesComplete : Obligations.PlcFramesComplete := by
  intro s
  exact ⟨fun _ _ h => finish_if h,
    fun _ _ h => finish_if h,
    fun _ _ _ _ _ h => finish_if h,
    fun _ _ h => finish_if h,
    fun _ _ _ _ h => finish_if h,
    fun _ _ _ _ h => finish_if h,
    fun _ _ _ _ _ h => finish_if h,
    fun _ _ _ h => finish_if h,
    fun _ _ h => finish_if h,
    fun _ h => finish_if h,
    fun _ _ h => finish_if h,
    fun _ h => finish_if h,
    fun _ _ _ h => finish_if h⟩

/-- Settles O42: each event's condition is the guard of its meaning. -/
theorem rfComplete : Obligations.RfComplete := by
  intro s
  exact ⟨fun _ h => finish_if h,
    fun _ _ h => finish_if h,
    fun _ _ _ _ _ h => finish_if h,
    fun _ _ _ h => finish_if h,
    fun _ _ _ _ h => finish_if h,
    fun _ _ _ _ h => finish_if h,
    fun _ _ _ h => finish_if h,
    fun _ h => finish_if h,
    fun _ h => finish_if h⟩

/-- Settles O43: a frame that passes `kclRx`'s checks reaches its handler, which may ask whether the cell is up. -/
theorem cellsComplete : Obligations.CellsComplete := by
  intro s
  exact ⟨fun _ _ _ _ _ h p => finish_if_eq h (kclRx_passes _ p),
    fun _ _ _ _ _ h p hup => finish_if_eq h ((kclRx_passes _ p).trans (if_pos hup)),
    fun _ _ _ _ _ _ h p => finish_if_eq h (kclRx_passes _ p),
    fun _ _ _ _ _ _ h p => finish_if_eq h (kclRx_passes _ p),
    fun _ _ _ _ _ _ _ h p => finish_if_eq h (kclRx_passes _ p),
    fun _ _ _ _ _ _ _ _ h p => finish_if_eq h (kclRx_passes _ p),
    fun _ _ _ _ _ _ _ h p => finish_if_eq h (kclRx_passes _ p),
    fun _ _ _ _ _ _ h p hup => finish_if_eq h ((kclRx_passes _ p).trans (if_pos hup)),
    fun _ _ _ h => finish_if h,
    fun _ h => finish_if h,
    fun _ _ h => finish_if h,
    fun _ h => finish_if h,
    fun _ _ h => finish_if h,
    fun _ h => finish_if h,
    fun _ _ h => finish_if h,
    fun _ h => finish_if h⟩

end Sys2Proof.Machine

/-! ## Commands that take place: contexts and keys -/

namespace Sys2Proof.Machine

/-- Settles O44: each event's condition is the guard of its meaning, and an accepted request is served by its handler. -/
theorem contextRequestsServed : Obligations.ContextRequestsServed := by
  intro s
  exact ⟨fun _ _ _ h => finish_gmi h,
    fun r mcx a hmcx => (finish_gmi a).trans (by rw [if_pos hmcx]),
    fun _ _ _ _ _ _ _ _ _ h => finish_gmi h,
    fun _ _ h => finish_gmi h,
    fun _ _ _ h => finish_gmi h,
    fun _ _ h => finish_gmi h,
    fun _ _ _ _ _ _ _ _ h => finish_gmi h,
    fun h => finish_if h⟩

/-- Settles O45: each event's condition is the guard of its meaning, and an accepted request is served by its handler. -/
theorem keyRequestsServed : Obligations.KeyRequestsServed := by
  intro s
  exact ⟨fun _ _ h => finish_gmi h,
    fun _ _ _ h => finish_gmi h,
    fun _ _ h => finish_gmi h,
    fun _ _ _ _ _ _ _ _ h => finish_gmi h,
    fun _ _ h => finish_gmi h,
    fun _ _ h => finish_gmi h,
    fun _ h => finish_gmi h,
    fun _ _ _ _ h => finish_gmi h,
    fun h => finish_if h⟩

end Sys2Proof.Machine

/-! ## Commands that take place: the ingestion graph, sweeps, the store and the metrology chain -/

namespace Sys2Proof.Machine

/-- Settles O46: every node is `nodeWork` of its own item function; the crypto nodes also need a lane in service. -/
theorem nodesComplete : Obligations.NodesComplete := by
  intro s
  exact ⟨fun _ _ _ _ h d => finish_if_eq h (nodeWork_worked d),
    fun _ _ _ _ h d => finish_if_eq h (nodeWork_worked d),
    fun _ _ _ _ h d => finish_if_eq h (nodeWork_worked d),
    fun _ _ _ _ _ h hlane d => finish_if_eq (by rw [h, hlane]; rfl) (nodeWork_worked d),
    fun _ _ _ _ h d => finish_if_eq h (nodeWork_worked d),
    fun _ _ _ _ h d => finish_if_eq h (nodeWork_worked d),
    fun _ _ _ _ h d => finish_if_eq h (nodeWork_worked d),
    fun _ _ _ _ h d => finish_if_eq h (nodeWork_worked d),
    fun _ _ _ _ h d => finish_if_eq h (nodeWork_worked d),
    fun _ _ _ _ h d => finish_if_eq h (nodeWork_worked d),
    fun _ _ _ _ h d => finish_if_eq h (nodeWork_worked d),
    fun _ _ _ _ h d => finish_if_eq h (nodeWork_worked d),
    fun _ _ _ _ h d => finish_if_eq h (nodeWork_worked d),
    fun _ _ _ _ h d => finish_if_eq h (nodeWork_worked d),
    fun _ _ _ _ _ h hlane d => finish_if_eq (by rw [h, hlane]; rfl) (nodeWork_worked d),
    fun _ _ _ _ h d => finish_if_eq h (nodeWork_worked d)⟩

/-- Settles O47: with a core the sink is a node, without one it empties what stood aside. -/
theorem sinksComplete : Obligations.SinksComplete := by
  intro s
  exact ⟨fun _ _ _ _ h d => finish_if_eq h (nodeWork_worked d),
    fun h => finish_if h,
    fun _ _ _ _ h d => finish_if_eq h (nodeWork_worked d),
    fun h => finish_if h,
    fun _ _ _ _ h d => finish_if_eq h (nodeWork_worked d),
    fun h => finish_if h,
    fun _ _ _ _ h d => finish_if_eq h (nodeWork_worked d),
    fun h hrun => finish_if_if h hrun,
    fun _ _ _ _ h => finish_if h⟩

/-- Settles O48: each event's condition is the guard of its meaning, and an accepted request is served by its handler. -/
theorem graphScheduleComplete : Obligations.GraphScheduleComplete := by
  intro s
  exact ⟨fun _ h => finish_if h,
    fun _ h => finish_if h,
    fun _ h => finish_if h,
    fun h => finish_if h,
    fun h => finish_if h,
    fun h => finish_if h,
    fun _ _ h => finish_if h,
    fun _ _ h => finish_gmi h,
    fun _ h => finish_gmi h,
    fun _ _ h => finish_gmi h,
    fun _ _ _ h => finish_gmi h⟩

/-- Settles O49: the cutoff of an engine that does not serve is shadowed. -/
theorem sweepsAndBillingComplete : Obligations.SweepsAndBillingComplete := by
  intro s
  exact ⟨fun h => finish_if h,
    fun h => finish_if h,
    fun h => finish_if h,
    fun h hserv => finish_if (by simp [h, hserv]),
    fun h hserv hstand => (finish_eq ..).trans (by simp [h, hserv, hstand]),
    fun h => finish_if h,
    fun _ _ h => finish_gmi h,
    fun _ _ h => finish_gmi h,
    fun _ _ _ h => finish_gmi h,
    fun _ _ h => finish_gmi h,
    fun _ _ h => finish_gmi h,
    fun _ _ _ _ _ _ h => finish_gmi h,
    fun _ _ _ _ h => finish_gmi h,
    fun _ _ _ _ _ _ h => finish_gmi h⟩

/-- Settles O50: a unit is demoted that has no slot and was idle for a day. -/
theorem storeEventsComplete : Obligations.StoreEventsComplete := by
  intro s
  exact ⟨fun _ h => finish_if h,
    fun _ _ h hunit hslot hidle => finish_if_eq h (by rw [hunit]; exact if_pos (by simp [hslot, hidle])),
    fun h => finish_if h,
    fun h => finish_if h,
    fun _ h => finish_if h,
    fun h => finish_if h,
    fun h => finish_if h,
    fun h => finish_if h,
    fun _ _ _ _ h => finish_if h,
    fun _ h => finish_if h,
    fun h => finish_if h⟩

/-- Settles O51: an accepted request is served by its handler. -/
theorem storeRequestsServed : Obligations.StoreRequestsServed := by
  intro s
  exact ⟨fun _ h => finish_gmi h,
    fun _ _ h => finish_gmi h,
    fun _ _ _ _ _ _ _ h => finish_gmi h,
    fun _ _ _ _ h => finish_gmi h,
    fun _ h => finish_gmi h,
    fun _ _ _ h => finish_gmi h,
    fun _ _ _ h => finish_gmi h,
    fun _ _ h => finish_gmi h,
    fun _ _ _ h => finish_gmi h⟩

/-- Settles O52: each event's condition is the guard of its meaning, and an accepted request is served by its handler. -/
theorem metrologyComplete : Obligations.MetrologyComplete := by
  intro s
  exact ⟨fun _ _ _ h => finish_if h,
    fun _ _ h => finish_if h,
    fun _ h => finish_if h,
    fun _ _ h => finish_if h,
    fun _ _ h hgap => finish_if (by simp [h, hgap]),
    fun _ h => finish_if h,
    fun _ _ _ h => finish_gmi h,
    fun _ _ _ _ h => finish_gmi h⟩

end Sys2Proof.Machine

/-! ## Commands that take place: updates, campaigns and the pair -/

namespace Sys2Proof.Machine

/-- A preparation that ended well is recorded. -/
theorem prepDone_ok {s : State} (h : preparing s) (f : State → State) : prepDone true f s = f s := by
  rw [prepDone, if_pos h]; exact if_pos rfl

/-- A preparation that failed fails the graft (R381). -/
theorem prepDone_failed {s : State} (h : preparing s) (f : State → State) : prepDone false f s = graftFails s := by
  rw [prepDone, if_pos h]; exact if_neg Bool.false_ne_true

theorem exec_graft_of_man {s : State} {m : Manifest} (hman : s.upd.man = some m) :
    exec .graft s = finish s (if running s && s.time.ticking && decide (s.time.mc = s.time.tickStartMc) && prepared s &&
      !s.flow.overrun then graftEff m s else s) := by
  show execGraft s = _
  rw [execGraft, hman]

/-- Settles O53: a preparation counts while the graft is being prepared; the rest are guards and requests. -/
theorem updatesComplete : Obligations.UpdatesComplete := by
  intro s
  exact ⟨fun h => finish_if h,
    fun _ _ _ h => finish_if h,
    fun h hprep => finish_if_eq h (prepDone_ok hprep _),
    fun h hprep => finish_if_eq h (prepDone_failed hprep _),
    fun h hprep hwrap => finish_if_eq (by simp [h, hwrap]) (prepDone_ok hprep _),
    fun h hprep hwrap => finish_if_eq (by simp [h, hwrap]) (prepDone_failed hprep _),
    fun _ h hprep hman => finish_if_eq h ((prepDone_ok hprep _).trans (by rw [hman])),
    fun h hprep => finish_if_eq h (prepDone_failed hprep _),
    fun _ h hman htick hstart hprep hover => (exec_graft_of_man hman).trans (finish_if (by simp [h, htick, hstart, hprep, hover])),
    fun h => finish_if h,
    fun h => finish_if h,
    fun _ _ h => finish_gmi h,
    fun _ _ _ h => finish_gmi h,
    fun _ h => finish_gmi h,
    fun _ h => finish_gmi h,
    fun _ h => finish_gmi h,
    fun _ h => finish_gmi h⟩

/-- Settles O54: a request with T is served by its handler under the caller's right, a timer by its guard. -/
theorem campaignsComplete : Obligations.CampaignsComplete := by
  intro s
  exact ⟨fun _ _ h => finish_gmiT h,
    fun _ _ h => finish_gmiT h,
    fun _ _ _ h => finish_gmiT h,
    fun _ _ h => finish_gmiT h,
    fun _ _ _ _ h => finish_gmiT h,
    fun _ _ _ h => finish_gmiT h,
    fun _ _ _ h => finish_gmiT h,
    fun _ _ _ h => finish_gmiT h,
    fun _ h => finish_if h,
    fun _ h => finish_if h⟩

/-- A peer frame that passes has its handler's effect. -/
theorem finish_peerRx {s : State} {h : KclHdr} {first : Bool} {f : State → State} (p : PeerPasses s h first) :
    finish s (peerRx h first f s) = .next (done s (f (peerPassed s h))) := by
  rw [peerRx_passes f p, finish_eq]

/-- Settles O55: a peer frame that passes the window reaches its handler. -/
theorem pairMessagesComplete : Obligations.PairMessagesComplete := by
  intro s
  exact ⟨fun h => finish_if h,
    fun _ _ p => finish_peerRx p,
    fun _ _ h => finish_if h,
    fun _ _ p => finish_peerRx p,
    fun _ _ p => finish_peerRx p,
    fun _ _ p => finish_peerRx p,
    fun _ _ _ _ p => finish_peerRx p,
    fun _ _ h => finish_if h,
    fun _ _ h => finish_if h⟩

/-- Settles O56: each event's condition is the guard of its meaning, and an accepted request is served by its handler. -/
theorem pairControlComplete : Obligations.PairControlComplete := by
  intro s
  exact ⟨fun _ h => finish_if h,
    fun h hstand hsilent hsync => finish_if_if (by simp [h, hstand, hsilent]) hsync,
    fun h hstand hsilent hsync => finish_if_if_not (by simp [h, hstand, hsilent]) (by simp [hsync]),
    fun h => finish_if h,
    fun h hmode hrole hstage hhold hpeer hwait => finish_if (by simp [h, hmode, hrole, hstage, hhold, hpeer, hwait]),
    fun h => finish_if h,
    fun h => finish_if h,
    fun h => finish_if h,
    fun _ _ _ _ _ h => finish_gmi h,
    fun _ h => finish_gmi h,
    fun _ h => finish_gmi h,
    fun _ _ _ h => finish_gmi h⟩

end Sys2Proof.Machine

/-! ## Commands that take place: queues, DMA channels, device and link commands -/

namespace Sys2Proof.Machine

theorem qPortWrite_allowed {s : State} {fn : Fin 2} {q : Nat} (h : portViol s fn q = none) (off : Nat) (f : State → State) :
    qPortWrite fn q off f s = qSettled (f s) q := by
  rw [qPortWrite, h]

theorem qCtrlWrite_allowed {s : State} {fn : Fin 2} {q : Nat} (h : portViol s fn q = none) (f : State → State) :
    qCtrlWrite fn q f s = f s := by
  rw [qCtrlWrite, ctrlViol, h]

theorem qPopEff_allowed {s : State} {fn : Fin 2} {q : Nat} (h : portViol s fn q = none) :
    qPopEff fn q s = qSettled (qPop s q) q := by
  rw [qPopEff, h]

theorem qEnableEff_of_disabled {s : State} {q : Nat} (h : (qOf s q).enable = false) :
    qEnableEff s q = qPut s q { qOf s q with enable := true, last := 0 } := if_neg (by simp [h])

theorem qOwnerWriteEff_of_disabled {s : State} {q owner : Nat} {w : QOwner} (heng : qEngine s q = false)
    (hoff : (qOf s q).enable = false) (hown : ownerOf owner = some w) :
    qOwnerWriteEff 0 q owner s = qPut s q { qOf s q with owner := w } := by
  rw [qOwnerWriteEff, if_neg (by decide), if_neg (by simp [heng]), qOwnerSet, hown]
  exact if_neg (by simp [hoff])

theorem peakCellsReadEff_allowed {s : State} {fn : Fin 2} {q : Nat} (h : qReadViol s fn q = none) (full : Bool) :
    peakCellsReadEff fn q full s =
      if full then clearPeak s q
      else shadowSet (clearPeak s q) fn ⟨qBase q + 24, BitVec.ofNat 32 (qOf s q).level⟩ := by
  rw [peakCellsReadEff, h]

/-- Settles O57: an access of a port that violates nothing has its effect. -/
theorem queuePortsComplete : Obligations.QueuePortsComplete := by
  intro s
  exact ⟨fun fn _ h hviol => finish_if_eq h (qPortWrite_allowed (s := acc s fn) hviol _ _),
    fun fn _ _ h hviol => finish_if_eq h (qPortWrite_allowed (s := acc s fn) hviol _ _),
    fun fn _ _ h hviol => finish_if_eq h (qPortWrite_allowed (s := acc s fn) hviol _ _),
    fun fn _ h hviol => finish_if_eq h (qPopEff_allowed (s := acc s fn) hviol),
    fun fn _ h hviol => finish_if_eq h (qCtrlWrite_allowed (s := acc s fn) hviol _),
    fun fn _ h hviol hoff => finish_if_eq h
      ((qCtrlWrite_allowed (s := acc s fn) hviol _).trans (qEnableEff_of_disabled (s := acc s fn) hoff)),
    fun fn _ h hviol => finish_if_eq h (qCtrlWrite_allowed (s := acc s fn) hviol _),
    fun _ _ _ h heng hoff hown => finish_if_eq h (qOwnerWriteEff_of_disabled (s := acc s 0) heng hoff hown),
    fun fn _ h hviol => ⟨finish_if_eq h (peakCellsReadEff_allowed (s := acc s fn) hviol true),
      finish_if_eq h (peakCellsReadEff_allowed (s := acc s fn) hviol false)⟩⟩

theorem dmaWrite_allowed {fn : Fin 2} {n : Nat} (h : dmaViol fn n = none) (off size : Nat) (f : State → State) (s : State) :
    dmaWrite fn n off size f s = f s := by
  rw [dmaWrite, h]

theorem dmaStart_of_idle {s : State} {n : Nat} (h : (dmaOf s n).state = .idle) :
    dmaStart n s = dmaSet s n { dmaOf s n with
      state := .running, bytes := 0, descCount := 0, index := 0, descBytes := 0, descFlushed := false, waiting := [],
      waits := false } := if_pos h

/-- Settles O58: a write of a channel that violates nothing has its effect. -/
theorem dmaComplete : Obligations.DmaComplete := by
  intro s
  exact ⟨fun fn _ h hviol hidle => finish_if_eq h
      ((dmaWrite_allowed hviol _ _ _ (acc s fn)).trans (dmaStart_of_idle (s := acc s fn) hidle)),
    fun fn _ h hviol => finish_if_eq h (dmaWrite_allowed hviol _ _ _ (acc s fn)),
    fun fn _ h hviol => finish_if_eq h (dmaWrite_allowed hviol _ _ _ (acc s fn)),
    fun fn _ _ h hviol => finish_if_eq h (dmaWrite_allowed hviol _ _ _ (acc s fn)),
    fun fn _ _ h hviol => finish_if_eq h (dmaWrite_allowed hviol _ _ _ (acc s fn)),
    fun _ _ _ h => finish_if h,
    fun _ _ _ _ _ _ h => finish_if h⟩

/-- An accepted request without T is served within a meaning that goes on. -/
theorem gmi_served {ci : CmdInfo} {r : Req} {h : State → Reply} {s : State} (a : Accepts ci noTable r s) :
    gmi ci r h s = carried ci r (h (taken s r)) := gmiT_served a

/-- Settles O59; RESET_ENGINE resets after its answer. -/
theorem deviceRequestsServed : Obligations.DeviceRequestsServed := by
  intro s
  exact ⟨fun _ h => finish_gmi h,
    fun _ h => finish_gmi h,
    fun _ h => finish_gmi h,
    fun _ _ h => finish_gmi h,
    fun _ _ h => finish_gmi h,
    fun _ _ _ _ h a => finish_if_eq h (by rw [gmi_served a]),
    fun _ _ _ _ _ _ _ h => finish_gmi h,
    fun _ _ h => finish_gmi h,
    fun _ _ h => finish_gmi h,
    fun _ _ _ h => finish_gmi h,
    fun _ _ h => finish_gmi h,
    fun _ _ _ _ h => finish_gmi h⟩

/-- Settles O60: an accepted request is served by its handler. -/
theorem linkRequestsServed : Obligations.LinkRequestsServed := by
  intro s
  exact ⟨fun _ _ _ _ h => finish_gmi h,
    fun _ _ h => finish_gmi h,
    fun _ _ _ _ h => finish_gmi h,
    fun _ _ _ _ _ h => finish_gmi h,
    fun _ _ _ _ _ h => finish_gmi h,
    fun _ _ _ _ _ _ _ h => finish_gmi h,
    fun _ _ h => finish_gmi h⟩

end Sys2Proof.Machine
